-- ==== Sys2Proof/Word.lean ====
section
/-! DEFINITION. The words of the part: bytes and the two wider field sizes of the chapter Formats, positions, card
stages and digits. -/

namespace Sys2Proof

/-- A byte is 8 bits (00_scope.md, 4.3). -/
abbrev Byte := BitVec 8

/-- A field of two bytes (R168). -/
abbrev Half := BitVec 16

/-- A field of four bytes (R168). -/
abbrev Quad := BitVec 32

/-- Positions are numbered 0 to 31 (00_scope.md, 3.3). -/
abbrev Pos := Fin 32

/-- Stages S0 to S3 of a card's tally; also the latch indication, 0 (none) to 3 (R6, R8). -/
abbrev Stage := Fin 4

/-- A digit: the number of burned cells of a stage, 0 to 7 (R6). -/
abbrev Digit := Fin 8

end Sys2Proof
end

