-- ==== Sys2Proof/Config.lean ====
section
/-! DEFINITION. What is fixed for the part: the capacities of 00_scope.md 3.3 and the times of the chapters, and the
free values, which the manual leaves open (opaque: nothing is known of them). -/

namespace Sys2Proof.Config

/-- Write channels (R98). -/
def channels : Nat := 4
/-- Charges per position, in work and waiting (R78). -/
def chargesPerPosition : Nat := 4
/-- Block list ranges (R53). -/
def blockRanges : Nat := 256
/-- Doubt list entries (R111). -/
def doubtEntries : Nat := 48
/-- Slots of the record list (R130). -/
def recordSlots : Nat := 64
/-- An OPEN needs room within this many slots (R131). -/
def openSlots : Nat := 56
/-- Outstanding requests (R139). -/
def outstandingLimit : Nat := 16
/-- Pulse totals stay at this value (R67). -/
def pulseTotalMax : Nat := 4294967295
/-- The greatest number of write retries taken (R39). -/
def retriesMax : Nat := 3
/-- The answer code of a card of the supported format (R3). -/
def answerCode : Byte := 0x5C#8

/-- A card answers a WAKE within this time, ms (R15). -/
def cardWakeMs : Nat := 20
/-- A card answers a READ HEAD or READ TALLY within this time, ms (R15). -/
def cardReadMs : Nat := 4
/-- A card answers a BURN within this time, ms (R15). -/
def cardBurnMs : Nat := 8
/-- A card answers a RESTAGE within this time, ms (R15). -/
def cardRestageMs : Nat := 15

/-- Insertion debounce, ms (R18). -/
def insertionMs : Nat := 50
/-- Removal debounce, ms (R19). -/
def removalMs : Nat := 20
/-- Key debounce, ms (R157). -/
def keyMs : Nat := 50
/-- A gap of more than 20 ms ends a frame (R138): with whole milliseconds, the 21st. -/
def gapMs : Nat := 21
/-- The wait for a loopback frame, ms (R164). -/
def loopbackMs : Nat := 5
/-- WAKE timeout, ms (R27). -/
def wakeMs : Nat := 30
/-- Read timeout on a SHORT line, ms (R27). -/
def readShortMs : Nat := 10
/-- Read timeout on a LONG line, ms (R27). -/
def readLongMs : Nat := 20
/-- BURN timeout, ms (R27). -/
def burnMs : Nat := 25
/-- RESTAGE timeout, ms (R27). -/
def restageMs : Nat := 40

/-- FREE VALUE (log 8): the n-th test pattern the self-test unit draws; R164 asks only that a retry's differs from the
attempt before it. -/
opaque testPattern : Nat → Quad

/-- FREE VALUE (log 7): how many of its small steps a card had worked when the part itself took contact power from it
in the middle of a write order (R13, R14 give every form, not which). -/
opaque cutPoint : Nat → Nat

/-- FREE VALUE (log 9): the rank by which a RESTART's close takes a position's call, drawn at each such close; R127 lets
the records of closes made at one time be stored in either order. -/
opaque closeRank : Nat → Nat → Nat

/-- FREE VALUE (log 10): the balance field shown for an image in force whose effective consumption (second argument)
exceeds its issued units (first argument); R10 says such a card has no balance. -/
opaque balanceBelowZero : Nat → Nat → Half

end Sys2Proof.Config
end

