-- ==== Sys2Proof/Syntax.lean ====
section
/-! DEFINITION. The commands of the part (spec/opcode_table.json, one constructor per row), and what their operands are
made of: cards, what is seated in a reader, and what arrives on a line. A request's own fields stand in the bytes of the
frame that brought it (R169), so a request command names no more than what selects it (log 2). -/

namespace Sys2Proof

/-- The digits d0 to d3 of a tally (R6). -/
structure Digits where
  d0 : Digit
  d1 : Digit
  d2 : Digit
  d3 : Digit
  deriving DecidableEq, Repr

/-- The five values of a READ TALLY answer: the digits and the latch indication, 0 for no latch (R8). -/
structure Tally where
  digits : Digits
  latch : Stage
  deriving DecidableEq, Repr

/-- The pair of series code and serial that names one card (R4). -/
structure Identity where
  series : Half
  serial : Quad
  deriving DecidableEq, Repr

/-- A card's header: its identity, issued units and header check (R4). -/
structure Header where
  id : Identity
  issued : Half
  check : Half
  deriving DecidableEq, Repr

/-- The orders a card knows (R2); a write order carries its stage byte (R170). -/
inductive CardOrder where
  | wake
  | readHead
  | readTally
  | burn (k : Byte)
  | restage (k : Byte)
  deriving DecidableEq, Repr

/-- A card's working state, lost with its power (R1). A card working an order holds the order, whether the cell attempt of
a BURN will take (a weak cell's does not, R11), and the milliseconds since the end of the order frame (R15). -/
inductive CardPower where
  | unpowered
  | asleep
  | awake
  | working (o : CardOrder) (takes : Bool) (elapsed : Nat)
  deriving DecidableEq, Repr

/-- A card of the supported format. By R6 the burned cells of a stage are always its lowest, so a stage is its digit; by
R7 at most one carry latch is set, so the latches are the latch indication. -/
structure Card where
  header : Header
  tally : Tally
  power : CardPower
  deriving DecidableEq, Repr

/-- What a reader holds: a card of the supported format, or another object, of which the manual says only that it
answers a WAKE with another code, if at all (R3). -/
inductive Seated where
  | card (c : Card)
  | other
  deriving DecidableEq, Repr

/-- What is pushed into a reader: a new object, or the i-th of the cards drawn before, newest first (R1, log 21). -/
inductive Seating where
  | fresh (x : Seated)
  | back (i : Nat)
  deriving DecidableEq, Repr

/-- Loop current on a pair stops (the card leaves its contacts, having worked `point` of its small steps, R13) or starts
(something is seated, R1). -/
inductive LoopChange where
  | stops (point : Nat)
  | starts (x : Seating)
  deriving DecidableEq, Repr

/-- What an order frame is when it reaches the card: as sent, or spoilt into other bytes (R2, log 6). -/
inductive Passage where
  | intact
  | altered (bytes : List Byte)
  deriving DecidableEq, Repr

/-- What arrives as an answer: the card's answer as it sent it; the card's answer spoilt into other bytes; or bytes that
are not the seated card's answer (another object's, a late one, noise) (R2, R26, log 6). -/
inductive Arrival where
  | answer
  | altered (bytes : List Byte)
  | stray (bytes : List Byte)
  deriving DecidableEq, Repr

/-- The commands, in the order of spec/opcode_table.json. -/
inductive Instr where
  /-- FRAME_RECEIVED: the bytes that complete a frame (R138). -/
  | frameReceived (bytes : List Byte)
  /-- FRAME_GAP_TIMEOUT: the bytes gathered since the last command of the link, then the gap (R138). -/
  | frameGapTimeout (bytes : List Byte)
  | messageTransmitStart
  | messageSent
  | status
  | query
  /-- CONFIGURE: the position's line unit takes the oldest CONFIGURE it was given (R34, R148). -/
  | configure (p : Pos)
  | configureOutOfServiceAct (p : Pos)
  | acknowledge
  | seriesLoad
  | seriesRead
  | blockAdd
  | blockRemove
  | blockClear
  | blockRead
  | openCall
  | charge
  | close
  | closeCompletion (p : Pos)
  /-- RESET_POSITION: the position's line unit takes the oldest RESET POSITION it was given (R33, R34). -/
  | resetPosition (p : Pos)
  | resetPositionAct (p : Pos)
  | takeRecords
  | doubtRead
  | doubtDiscard
  | protect
  | save
  | saveWriteComplete
  | selfTest
  | restart
  /-- PART_RESTART: how far the start-up routine runs in this step, as for POWER_ON (R161, R162). -/
  | partRestart (pause : Option Nat := none)
  | loopCurrentChange (p : Pos) (change : LoopChange)
  | insertion (p : Pos)
  | removal (p : Pos)
  | restCountExpiry (p : Pos)
  /-- ORDER_FRAME_END: what reaches the card, and whether a BURN's cell attempt takes (R2, R11). -/
  | orderFrameEnd (p : Pos) (passage : Passage) (takes : Bool)
  | answerFrame (p : Pos) (arrival : Arrival)
  | answerTimeout (p : Pos)
  | loopbackReturn (p : Pos) (bytes : List Byte)
  | loopbackTimeout (p : Pos)
  | echoAnswer (p : Pos) (bytes : List Byte)
  | echoTimeout (p : Pos)
  /-- KEY_INPUT_CHANGE: the contact closes (true) or opens (R157). -/
  | keyInputChange (closed : Bool)
  | keyDebounceExpiry
  /-- POWER_ON: whether the backup cell kept retained memory while the supply was off (R160), and how far the start-up
  routine runs in this step (R161): to its end, or to its step 5 with so many calls closed. A routine that has stopped
  there is gone on with by the next POWER_ON (log 23). -/
  | powerOn (kept : Bool) (pause : Option Nat := none)
  /-- MAIN_SUPPLY_LOSS: for each position, how many of its small steps a card had worked when its power went (R13). -/
  | mainSupplyLoss (points : List Nat)
  /-- LENGTH_BYTE_OUT_OF_RANGE: the length byte that follows a start byte (R138). -/
  | lengthByteOutOfRange (length : Byte)
  deriving DecidableEq, Repr

end Sys2Proof
end

