-- ==== Sys2Proof/WellFormed.lean ====
section
/-! DEFINITION. When a command is well formed: its operands describe something that can happen by the manual. exec
answers on every command, well formed or not; the check says which ones the manual speaks of. -/

namespace Sys2Proof

/-- The longest line frame: start, length byte, 255 bytes of kind and content, check (R170). -/
def lineFrameBytesMax : Nat := 259

/-- A line frame has a start, a length, a kind and a two-byte check at the least (R170). -/
def lineBytesWellFormed (bs : List Byte) : Bool := 5 ≤ bs.length && bs.length ≤ lineFrameBytesMax

/-- A card outside a reader has no power (R1). -/
def Seating.wellFormed : Seating → Bool
  | .fresh (.card c) => c.power = .unpowered
  | .fresh .other => true
  | .back _ => true

def Passage.wellFormed : Passage → Bool
  | .intact => true
  | .altered bs => lineBytesWellFormed bs

def Arrival.wellFormed : Arrival → Bool
  | .answer => true
  | .altered bs => lineBytesWellFormed bs
  | .stray bs => lineBytesWellFormed bs

/-- Well-formedness of a command. -/
def Instr.wellFormed : Instr → Bool
  | .frameReceived bs => bs ≠ []
  | .frameGapTimeout _ => true
  | .messageTransmitStart => true
  | .messageSent => true
  | .status => true
  | .query => true
  | .configure _ => true
  | .configureOutOfServiceAct _ => true
  | .acknowledge => true
  | .seriesLoad => true
  | .seriesRead => true
  | .blockAdd => true
  | .blockRemove => true
  | .blockClear => true
  | .blockRead => true
  | .openCall => true
  | .charge => true
  | .close => true
  | .closeCompletion _ => true
  | .resetPosition _ => true
  | .resetPositionAct _ => true
  | .takeRecords => true
  | .doubtRead => true
  | .doubtDiscard => true
  | .protect => true
  | .save => true
  | .saveWriteComplete => true
  | .selfTest => true
  | .restart => true
  | .partRestart _ => true
  | .loopCurrentChange _ (.stops _) => true
  | .loopCurrentChange _ (.starts x) => x.wellFormed
  | .insertion _ => true
  | .removal _ => true
  | .restCountExpiry _ => true
  | .orderFrameEnd _ passage _ => passage.wellFormed
  | .answerFrame _ arrival => arrival.wellFormed
  | .answerTimeout _ => true
  | .loopbackReturn _ bs => lineBytesWellFormed bs
  | .loopbackTimeout _ => true
  | .echoAnswer _ bs => lineBytesWellFormed bs
  | .echoTimeout _ => true
  | .keyInputChange _ => true
  | .keyDebounceExpiry => true
  | .powerOn _ _ => true
  | .mainSupplyLoss points => points.length = 32
  | .lengthByteOutOfRange b => b.toNat < 4 || 250 < b.toNat

end Sys2Proof
end

