-- ==== Sys2Proof/Decode.lean ====
section
/-! DEFINITION. The words of the opcode table: none of its rows gives bits (every "fields" is empty), so no word spells a
command. -/

namespace Sys2Proof

/-- The command a word of the opcode table spells: none, since no row of the table gives bits. -/
def decodeTableWord (_nbits _w : Nat) : Option Instr := none

end Sys2Proof
end

