-- ==== Sys2Proof/Machine/State.lean ====
section
/-! DEFINITION. The state of the part as plain data, block by block as 00_scope.md 3.1 lists them, and the state after
reset. -/

namespace Sys2Proof.Machine

/-! ## Names -/

/-- Position states (R17). -/
inductive PosState where
  | off | empty | identifying | rejected | ready | inCall | faulted | testing
  deriving DecidableEq, Repr

/-- Rejection causes, then fault causes, in the order of R17. -/
inductive Cause where
  | unreadable | header | seriesUnknown | withdrawn | seriesInvalid | overIssue | blocked | duplicate | inconsistent
  | emptyCard | lineFault | cardFault | tallyMismatch
  deriving DecidableEq, Repr

/-- Contact power (R23). -/
inductive Contact where
  | unpowered | waking | powered | rest
  deriving DecidableEq, Repr

/-- Line class (R27). -/
inductive LineClass where
  | short | long
  deriving DecidableEq, Repr

/-- Kinds of line frame (R170). -/
inductive OrderKind where
  | wake | readHead | readTally | burn | restage | echo | loopback
  deriving DecidableEq, Repr

/-- Write orders (R82). -/
inductive WriteKind where
  | burn | restage
  deriving DecidableEq, Repr

/-- Call context states (05, 5.1): `noCall` is the manual's NONE, `openCall` its OPEN. -/
inductive CtxState where
  | noCall | openCall | closing
  deriving DecidableEq, Repr

/-- Doubt marks (05, 5.1). -/
inductive DoubtMark where
  | none | journalled | unjournalled
  deriving DecidableEq, Repr

/-- End causes of a call (R89), in the order of their codes (R169). -/
inductive EndCause where
  | requested | removed | positionReset | cardFault | lineFault | tallyMismatch | restart | powerLoss
  deriving DecidableEq, Repr

/-- Outcomes of a settled charge (R64), in the order of their codes (R169). -/
inductive ChargeOutcome where
  | done | exhausted | cut | removed | reset | fault | restart
  deriving DecidableEq, Repr

/-- Outcomes of a resolution (R117). -/
inductive DoubtOutcome where
  | taken | notTaken | mismatch
  deriving DecidableEq, Repr

/-- Protection modes that start-up can set (10.1): the manual's OPEN and KEYED. -/
inductive Unlocked where
  | openMode | keyed
  deriving DecidableEq, Repr

/-- Mode in force (R158). -/
inductive Mode where
  | openMode | keyed | locked
  deriving DecidableEq, Repr

/-- Link rates in baud (R137). -/
inductive Rate where
  | b9600 | b19200 | b38400 | b115200
  deriving DecidableEq, Repr

/-- Result codes of a reply (R143), in the order of their codes (R169). -/
inductive ResultCode where
  | ok | format | unknownType | position | state | busy | range | isProtected | tableFull | recordsFull | blocked
  | notFound
  deriving DecidableEq, Repr

/-- Part states (R146). -/
inductive PartState where
  | running | saving | testing
  deriving DecidableEq, Repr

/-- The blocks that own requests (09, 9.3). A CONFIGURE or RESET POSITION is worked by its position's line unit (R34). -/
inductive Owner where
  | linkPort | identification | callTable | recordList | doubtList | settings | selfTest
  | lineUnit (p : Byte)
  deriving DecidableEq, Repr

/-! ## Position lines -/

/-- A failing location: stage and cell (R107). -/
structure Location where
  stage : Stage
  cell : Digit
  deriving DecidableEq, Repr

/-- What a read is for: a step of the identification sequence, the verify read of a write, or the READ TALLY after a
refused write; `owed` when the refusal came while a reset, a CONFIGURE or a RESTART waited for that write (log 15). -/
inductive ReadFor where
  | sequence
  | verify
  | refusal (owed : Bool)
  deriving DecidableEq, Repr

/-- An attempt of an order: its first, or its retry, which is the same order sent again and keeps the timeout that the first
attempt was sent with (R27, R28; log 38). -/
inductive Attempt where
  | first
  | retry (timeout : Nat)
  deriving DecidableEq, Repr

/-- What the order in flight is for. An order that waits behind a WAKE (R25, R26) is named by the WAKE's purpose: a read,
at its first attempt or its retry, or the asking for a write channel. -/
inductive Purpose where
  | firstWake
  | read (r : ReadFor)
  | wakeRead (r : ReadFor) (attempt : Attempt)
  | wakeRequest
  | write
  | test
  deriving DecidableEq, Repr

/-- The order in flight (02, 2.1): kind, stage, attempt, begun or granted and not yet sent (R100), its frame sent to the
end, the milliseconds since, the timeout its first attempt was sent with (R27), and what it is for. -/
structure Order where
  kind : OrderKind
  stage : Stage
  retry : Bool
  begun : Bool
  ended : Bool
  elapsed : Nat
  timeout : Nat
  purpose : Purpose
  deriving DecidableEq, Repr

/-- A running rest count: the idle-to-rest time in seconds it started with and the milliseconds run (R24). With target 0
it does not count (log 19). -/
structure RestCount where
  target : Nat
  elapsed : Nat
  deriving DecidableEq, Repr

/-- A position line unit (02, 2.1). Its line class is the position setting (R27). -/
structure LineUnit where
  state : PosState
  cause : Option Cause
  shownId : Option Identity
  shownTally : Option Tally
  failing : Option Location
  present : Bool
  debounce : Option Nat
  contact : Contact
  order : Option Order
  checkLatch : Bool
  rest : Option RestCount
  deriving DecidableEq, Repr

/-! ## Identification -/

/-- Held series terms (R39). -/
structure Terms where
  weight : Nat
  retries : Nat
  maxIssued : Nat
  deriving DecidableEq, Repr

/-- A sequence record (03, 3.1): the step reached, whether the header has been re-read (R38), the header and the tally
read, and the sends of latch completion (R106). The held series terms stand beside it. -/
structure Sequence where
  step : Nat
  reread : Bool
  header : Option Header
  tally : Option Tally
  sends : Nat
  deriving DecidableEq, Repr

/-- The fields of a LOADED series table entry (R50). -/
structure SeriesFields where
  code : Half
  weight : Byte
  maxIssued : Half
  retries : Byte
  accepting : Bool
  deriving DecidableEq, Repr

/-- A block list range (R53). -/
structure Range where
  series : Half
  first : Quad
  last : Quad
  deriving DecidableEq, Repr

/-! ## Calls -/

/-- The card image: header fields, digits and latch indication (R74). -/
structure Image where
  header : Header
  tally : Tally
  deriving DecidableEq, Repr

/-- The in-flight-write field (R82). -/
structure InFlight where
  kind : WriteKind
  stage : Stage
  before : Tally
  deriving DecidableEq, Repr

/-- A charge of the queue: tag, pulses requested n and steps done s (05, 5.1). -/
structure Charge where
  tag : Byte
  pulses : Nat
  steps : Nat
  deriving DecidableEq, Repr

/-- A call context (05, 5.1). In NONE its call fields hold no call (R73). -/
structure Context where
  state : CtxState
  callId : Nat
  id : Identity
  weight : Nat
  retries : Nat
  balanceAtOpen : Nat
  balance : Nat
  burned : Nat
  credit : Nat
  covered : Nat
  uncovered : Nat
  threshold : Nat
  warned : Bool
  mark : DoubtMark
  image : Option Image
  field : Option InFlight
  queue : List Charge
  deriving DecidableEq, Repr

/-- The step in progress (R61): single or carry and its stage k, the write awaited, the sends of that write (R106), and
whether its first write order has been sent (R80). -/
structure Step where
  carry : Bool
  stage : Stage
  awaited : WriteKind
  sends : Nat
  begun : Bool
  deriving DecidableEq, Repr

/-- A working record (R61): n, c, w, B, b, p and the step in progress. -/
structure Work where
  pulses : Nat
  credit : Nat
  weight : Nat
  balance : Nat
  needed : Nat
  planned : Nat
  step : Option Step
  deriving DecidableEq, Repr

/-- A request that waits at the position for a write to settle, with its tag: RESET POSITION (R33), or CONFIGURE setting
the position out of service (R22). -/
inductive LineWait where
  | reset (tag : Byte)
  | configure (tag : Byte)
  deriving DecidableEq, Repr

/-- The test of one position (R163, R164): whether it left OFF (else EMPTY), the pattern awaited, and the first echo
attempt's pattern once the retry is out. -/
structure PosTest where
  wasOff : Bool
  pattern : Quad
  earlier : Option Quad
  deriving DecidableEq, Repr

/-- What the part holds of a position outside retained memory, and what is seated in its reader. -/
structure Position where
  line : LineUnit
  reader : Option Seated
  seq : Option Sequence
  terms : Option Terms
  held : Option Identity
  inForce : Bool
  work : Option Work
  flags : BitVec 9
  closes : List Byte
  wait : Option LineWait
  test : Option PosTest
  deriving DecidableEq, Repr

/-! ## Doubts and records -/

/-- A doubt entry (R111); outcome and resolving position are there when it is RESOLVED. -/
structure DoubtEntry where
  creation : Nat
  id : Identity
  position : Pos
  callId : Nat
  stage : Stage
  before : Digits
  resolved : Option (DoubtOutcome × Pos)
  deriving DecidableEq, Repr

/-- A CALL record (R128). -/
structure CallRecord where
  seq : Nat
  position : Pos
  callId : Nat
  id : Identity
  balanceAtOpen : Nat
  burned : Nat
  covered : Nat
  uncovered : Nat
  forfeited : Nat
  cause : EndCause
  mark : DoubtMark
  failing : Option Location
  deriving DecidableEq, Repr

/-- A RESOLUTION record (R129). -/
structure ResolutionRecord where
  seq : Nat
  id : Identity
  callId : Nat
  stage : Stage
  outcome : DoubtOutcome
  position : Pos
  deriving DecidableEq, Repr

inductive Record where
  | call (r : CallRecord)
  | resolution (r : ResolutionRecord)
  deriving DecidableEq, Repr

/-- A reservation names a position and a call id (R126). -/
structure Reservation where
  position : Pos
  callId : Nat
  deriving DecidableEq, Repr

/-- Retained memory (R160); its check word as matching or not (log 22). -/
structure Retained where
  ctxs : Vector Context 32
  callCounter : Nat
  doubts : List DoubtEntry
  creationCounter : Nat
  records : List Record
  reservations : List Reservation
  seqCounter : Nat
  restartMarker : Bool
  check : Bool
  deriving DecidableEq, Repr

/-! ## Settings -/

/-- Position settings (10.1). -/
structure PosSettings where
  inService : Bool
  notify : Bool
  lineClass : LineClass
  deriving DecidableEq, Repr

/-- The settings that the store holds (10.1): every row of the table but the mode in force. -/
structure Settings where
  series : Vector (Option SeriesFields) 16
  blocks : List Range
  posns : Vector PosSettings 32
  idle : Nat
  rate : Rate
  unlocked : Unlocked
  deriving DecidableEq, Repr

/-- A SAVE being written: its copy, and its request's tag and position byte (R155). -/
structure SaveRun where
  copy : Settings
  tag : Byte
  pos : Byte
  deriving DecidableEq, Repr

/-- A running self-test (11, introduction; R165): the mask, the codes fixed so far, the two part checks, and its
request's tag and position byte. -/
structure TestRun where
  mask : Quad
  codes : Vector (Option Byte) 32
  storeGood : Bool
  retainedGood : Bool
  tag : Byte
  pos : Byte
  deriving DecidableEq, Repr

/-! ## Write channels -/

/-- A request for a channel, and the holder of one: position, order kind, stage (06, 6.1). The requester is the charge
processor for a position in call, the identification unit for one being identified (R98). -/
inductive Requester where
  | chargeProcessor | identificationUnit
  deriving DecidableEq, Repr

structure WriteRequest where
  position : Pos
  kind : WriteKind
  stage : Stage
  requester : Requester
  deriving DecidableEq, Repr

structure Holder where
  position : Pos
  kind : WriteKind
  stage : Stage
  deriving DecidableEq, Repr

/-- The arbiter (06, 6.1): the holders of the HELD channels (the other channels are FREE; the four are alike, log 20),
the waiting list, oldest first, and the granting state. -/
structure Arbiter where
  held : List Holder
  waiting : List WriteRequest
  granting : Bool
  deriving DecidableEq, Repr

/-! ## The management link -/

/-- The receive framer (R138): hunting for a start byte, a start byte seen, or gathering a frame of the length given with
the bytes after the length byte so far. -/
inductive Framer where
  | hunting
  | started
  | gathering (length : Byte) (got : List Byte)
  deriving DecidableEq, Repr

/-- What a request asks, with its payload fields as they came (R169). Code fields stay bytes: one that names no value of
its kind is refused by the request's owner (R169). -/
inductive ReqBody where
  | status
  | query
  | configure (inService notify lineClass : Byte)
  | acknowledge (mask value : Half)
  | seriesLoad (index action : Byte) (code : Half) (weight : Byte) (maxIssued : Half) (retries accepting : Byte)
  | seriesRead (index : Byte)
  | blockAdd (range : Range)
  | blockRemove (span : Range)
  | blockClear
  | blockRead (start : Half)
  | openCall (threshold : Half)
  | charge (pulses : Byte)
  | close
  | resetPosition
  | takeRecords (count : Byte)
  | doubtRead (start : Byte)
  | doubtDiscard (id : Identity)
  | protect (mode : Byte)
  | save (idle rate : Byte)
  | selfTest (mask : Quad)
  | restart
  deriving DecidableEq, Repr

/-- A received request (R139): the host's tag, the position byte as received, and what is asked. -/
structure Request where
  tag : Byte
  pos : Byte
  body : ReqBody
  deriving DecidableEq, Repr

/-- The figures of STATUS (R146). -/
structure Figures where
  part : PartState
  mode : Mode
  key : Bool
  callsOpen : Nat
  stored : Nat
  reserved : Nat
  pendingDoubts : Nat
  resolvedDoubts : Nat
  ranges : Nat
  loadedSeries : Nat
  outstanding : Nat
  flags : BitVec 5
  deriving DecidableEq, Repr

/-- The call figures of a snapshot (R84, R147). -/
structure CallFigures where
  state : CtxState
  callId : Nat
  credit : Nat
  burned : Nat
  queued : Nat
  value : Nat
  deriving DecidableEq, Repr

/-- The position snapshot (R147). -/
structure Snapshot where
  position : Pos
  state : PosState
  contact : Contact
  present : Bool
  settings : PosSettings
  checkLatch : Bool
  flags : BitVec 9
  cause : Option Cause
  id : Option Identity
  tally : Option Tally
  balance : Option Half
  call : Option CallFigures
  steps : Option Nat
  failing : Option Location
  deriving DecidableEq, Repr

/-- The figures of a CHARGE reply (R67). -/
structure ChargeReply where
  outcome : ChargeOutcome
  covered : Nat
  uncovered : Nat
  steps : Nat
  balance : Nat
  credit : Nat
  failing : Option Location
  deriving DecidableEq, Repr

/-- What a reply carries after its type, tag and position (R143, R169). -/
inductive ReplyBody where
  | refusal (code : ResultCode)
  | ok
  | status (f : Figures)
  | query (s : Snapshot)
  | flags (f : Half)
  | series (index : Byte) (entry : Option SeriesFields)
  | count (n : Nat)
  | ranges (total : Nat) (carried : List Range)
  | opened (callId balance weight value : Nat)
  | charge (c : ChargeReply)
  | record (r : CallRecord)
  | records (left : Nat) (carried : List Record)
  | doubts (pending resolved : Nat) (carried : List DoubtEntry)
  | mode (m : Mode)
  | saved (idle : Nat) (rate : Rate)
  | test (part : Byte) (codes : List Byte)
  deriving DecidableEq, Repr

/-- A message of the outbound queue (R144). A reply's content is fixed; a notice is its place alone until it is sent
(R145). -/
inductive Message where
  | reply (type tag pos : Byte) (body : ReplyBody)
  | positionNotice (p : Pos)
  | partNotice
  deriving DecidableEq, Repr

/-- The message being transmitted: its frame, and whether it is a reply (R145). -/
structure Transmission where
  frame : List Byte
  isReply : Bool
  deriving DecidableEq, Repr

/-- The link port (09). -/
structure Link where
  framer : Framer
  gap : Nat
  received : List Request
  outstanding : Nat
  outbound : List Message
  transmitting : Option Transmission
  hold : Bool
  flags : BitVec 5
  rate : Rate
  deriving DecidableEq, Repr

/-- The maintenance key (R157): the contact, the key input as counted, whether the first level since start-up has been
settled, and the debounce count. -/
structure Key where
  closed : Bool
  input : Bool
  settled : Bool
  debounce : Option Nat
  deriving DecidableEq, Repr

/-- A RESTART that is pending (R153, R162): not, taken, or taken with its closes made (R95). -/
inductive RestartPhase where
  | none
  | settling
  | closed
  deriving DecidableEq, Repr

/-- A start-up routine that has not reached its end (R161): whether step 2 cleared retained memory, and whether a change
of the key input has been counted after its first level. -/
structure StartUp where
  lost : Bool
  keyChanged : Bool
  deriving DecidableEq, Repr

/-! ## The part -/

/-- The state of the part, with the queue of commands that wait, first in, first out. -/
structure State where
  powered : Bool
  units : Vector Position 32
  cardsOut : List Card
  retained : Retained
  working : Settings
  mode : Mode
  stored : Settings
  storeCheck : Bool
  save : Option SaveRun
  arbiter : Arbiter
  link : Link
  restart : RestartPhase
  starting : Option StartUp
  test : Option TestRun
  key : Key
  freeCount : Nat
  pending : List Instr
  deriving DecidableEq, Repr

/-- Faults of the machine. The manual names no behaviour that stops the part; a line or card fault is a state of a
position (R31). -/
inductive Fault where
  /-- Raised by no command: every command of the table answers a next state (log 28). Safe: nothing is stopped by it. -/
  | noneRaised
  deriving DecidableEq, Repr

/-- Refusals of the machine, not of a request (a refused request is a reply, R143). -/
inductive Refusal where
  /-- Raised by exec for a command that has no meaning yet. Safe: the machine stops. -/
  | notModelled (mnemonic : String)
  deriving DecidableEq, Repr

/-! ## Reset -/

/-- A line unit after start-up, in service or not (R16). -/
def LineUnit.start (inService seated : Bool) : LineUnit :=
  { state := if inService then .empty else .off, cause := none, shownId := none, shownTally := none, failing := none,
    present := false, debounce := if seated then some 0 else none, contact := .unpowered, order := none,
    checkLatch := false, rest := none }

/-- What the part holds of a position after start-up (R16, R35, R61, R137); what is seated stays seated. -/
def Position.start (inService : Bool) (reader : Option Seated) : Position :=
  { line := LineUnit.start inService reader.isSome, reader := reader, seq := none, terms := none, held := none,
    inForce := false, work := none, flags := 0#9, closes := [], wait := none, test := none }

/-- A context in NONE that holds no call (R73, R160; zeros where it holds nothing, log 5). -/
def Context.cleared : Context :=
  { state := .noCall, callId := 0, id := ⟨0#16, 0#32⟩, weight := 0, retries := 0, balanceAtOpen := 0, balance := 0,
    burned := 0, credit := 0, covered := 0, uncovered := 0, threshold := 0, warned := false, mark := .none, image := none,
    field := none, queue := [] }

/-- Retained memory as a failed check clears it (R160). -/
def Retained.cleared : Retained :=
  { ctxs := Vector.replicate 32 Context.cleared, callCounter := 0, doubts := [], creationCounter := 0, records := [],
    reservations := [], seqCounter := 0, restartMarker := false, check := true }

/-- The defaults of 10.1. -/
def Settings.defaults : Settings :=
  { series := Vector.replicate 16 none, blocks := [],
    posns := Vector.replicate 32 { inService := true, notify := true, lineClass := .short },
    idle := 3, rate := .b9600, unlocked := .openMode }

/-- The arbiter after start-up (R97). -/
def Arbiter.start : Arbiter := { held := [], waiting := [], granting := true }

/-- The link port after start-up, before any flag is raised (R137). -/
def Link.start (rate : Rate) : Link :=
  { framer := .hunting, gap := 0, received := [], outstanding := 0, outbound := [], transmitting := none, hold := false,
    flags := 0#5, rate := rate }

/-- The machine right after reset: the end of the first start-up of a part whose store was never written and whose
retained memory held nothing, so that STORE_INVALID and RETAINED_LOST are raised and queue one part notice (R161); no card
seated and the key open (log 4). -/
def State.reset : State :=
  { powered := true, units := Vector.replicate 32 (Position.start true none), cardsOut := [],
    retained := Retained.cleared, working := Settings.defaults, mode := .openMode, stored := Settings.defaults,
    storeCheck := false, save := none, arbiter := Arbiter.start,
    link := { Link.start .b9600 with outbound := [.partNotice], flags := 0b01100#5 },
    restart := .none, starting := none, test := none, key := { closed := false, input := false, settled := false, debounce := some 0 },
    freeCount := 0, pending := [] }

end Sys2Proof.Machine
end

