-- ==== Sys2Proof/Machine/Formats.lean ====
section
/-! DEFINITION. The chapter Formats (R168 to R170): byte order, the check, and the byte layouts of line frames, replies,
notices, snapshots, records and doubt entries. -/

namespace Sys2Proof.Machine

/-! ## Byte order and the check (R168) -/

/-- Most significant byte first. -/
def halfBytes (h : Half) : List Byte := [h.extractLsb' 8 8, h.extractLsb' 0 8]

/-- Most significant byte first. -/
def quadBytes (q : Quad) : List Byte := halfBytes (q.extractLsb' 16 16) ++ halfBytes (q.extractLsb' 0 16)

def halfOf (a b : Byte) : Half := a ++ b

def quadOf (a b c d : Byte) : Quad := halfOf a b ++ halfOf c d

def natByte (n : Nat) : Byte := BitVec.ofNat 8 n
def natHalf (n : Nat) : List Byte := halfBytes (BitVec.ofNat 16 n)
def natQuad (n : Nat) : List Byte := quadBytes (BitVec.ofNat 32 n)
def boolByte (b : Bool) : Byte := if b then 1#8 else 0#8

/-- One bit into the check: polynomial x^16 + x^12 + x^5 + 1, most significant bit first. -/
def crcBit (c : Half) (bit : Bool) : Half :=
  if c.msb != bit then (c <<< 1) ^^^ 0x1021#16 else c <<< 1

def crcByte (c : Half) (b : Byte) : Half :=
  [7, 6, 5, 4, 3, 2, 1, 0].foldl (fun c i => crcBit c (b.getLsbD i)) c

/-- The check of a run of bytes: initial value all ones, no final inversion (R168). -/
def crc (bs : List Byte) : Half := bs.foldl crcByte 0xFFFF#16

/-! ## Line frames (R170) -/

/-- The kind byte of a line frame. -/
def OrderKind.code : OrderKind → Byte
  | .wake => 0x01#8 | .readHead => 0x02#8 | .readTally => 0x03#8 | .burn => 0x04#8 | .restage => 0x05#8
  | .echo => 0x06#8 | .loopback => 0x07#8

/-- A line frame: start, length of kind and content, kind, content, check over length to content (R168, R170). -/
def lineFrame (kind : Byte) (content : List Byte) : List Byte :=
  let span := natByte (content.length + 1) :: kind :: content
  0x02#8 :: span ++ halfBytes (crc span)

def stageByte (k : Stage) : Byte := natByte k.val

def WriteKind.order : WriteKind → OrderKind
  | .burn => .burn
  | .restage => .restage

/-- The frame of an order: a write order carries its stage, a test order its pattern, the others nothing. -/
def orderFrame (k : OrderKind) (stage : Stage) (pattern : Quad) : List Byte :=
  match k with
  | .wake => lineFrame k.code []
  | .readHead => lineFrame k.code []
  | .readTally => lineFrame k.code []
  | .burn => lineFrame k.code [stageByte stage]
  | .restage => lineFrame k.code [stageByte stage]
  | .echo => lineFrame k.code (quadBytes pattern)
  | .loopback => lineFrame k.code (quadBytes pattern)

/-! ## The card's layouts -/

def identityBytes (i : Identity) : List Byte := halfBytes i.series ++ quadBytes i.serial

/-- The first 8 header bytes, which the header check covers (R4). -/
def headerSpan (h : Header) : List Byte := identityBytes h.id ++ halfBytes h.issued

def headerBytes (h : Header) : List Byte := headerSpan h ++ halfBytes h.check

/-- The header check matches the first 8 header bytes (R38). -/
def Header.checkGood (h : Header) : Bool := crc (headerSpan h) = h.check

def digitByte (d : Digit) : Byte := natByte d.val

def digitsBytes (d : Digits) : List Byte := [digitByte d.d0, digitByte d.d1, digitByte d.d2, digitByte d.d3]

def tallyBytes (t : Tally) : List Byte := digitsBytes t.digits ++ [natByte t.latch.val]

/-! ## Codes (R169) -/

def ResultCode.code : ResultCode → Byte
  | .ok => 0x00#8 | .format => 0x01#8 | .unknownType => 0x02#8 | .position => 0x03#8 | .state => 0x04#8
  | .busy => 0x05#8 | .range => 0x06#8 | .isProtected => 0x07#8 | .tableFull => 0x08#8 | .recordsFull => 0x09#8
  | .blocked => 0x0A#8 | .notFound => 0x0B#8

def ChargeOutcome.code : ChargeOutcome → Byte
  | .done => 0x20#8 | .exhausted => 0x21#8 | .cut => 0x22#8 | .removed => 0x23#8 | .reset => 0x24#8
  | .fault => 0x25#8 | .restart => 0x26#8

def Mode.code : Mode → Byte
  | .openMode => 0#8 | .keyed => 1#8 | .locked => 2#8

def PartState.code : PartState → Byte
  | .running => 0#8 | .saving => 1#8 | .testing => 2#8

def Rate.code : Rate → Byte
  | .b9600 => 0#8 | .b19200 => 1#8 | .b38400 => 2#8 | .b115200 => 3#8

def PosState.code : PosState → Byte
  | .off => 0#8 | .empty => 1#8 | .identifying => 2#8 | .rejected => 3#8 | .ready => 4#8 | .inCall => 5#8
  | .faulted => 6#8 | .testing => 7#8

def Contact.code : Contact → Byte
  | .unpowered => 0#8 | .waking => 1#8 | .powered => 2#8 | .rest => 3#8

/-- 1 to 13 in the order of R17; 0 stands where no cause is present. -/
def Cause.code : Cause → Byte
  | .unreadable => 1#8 | .header => 2#8 | .seriesUnknown => 3#8 | .withdrawn => 4#8 | .seriesInvalid => 5#8
  | .overIssue => 6#8 | .blocked => 7#8 | .duplicate => 8#8 | .inconsistent => 9#8 | .emptyCard => 10#8
  | .lineFault => 11#8 | .cardFault => 12#8 | .tallyMismatch => 13#8

def CtxState.code : CtxState → Byte
  | .noCall => 0#8 | .openCall => 1#8 | .closing => 2#8

def EndCause.code : EndCause → Byte
  | .requested => 1#8 | .removed => 2#8 | .positionReset => 3#8 | .cardFault => 4#8 | .lineFault => 5#8
  | .tallyMismatch => 6#8 | .restart => 7#8 | .powerLoss => 8#8

def DoubtMark.code : DoubtMark → Byte
  | .none => 0#8 | .journalled => 1#8 | .unjournalled => 2#8

def DoubtOutcome.code : DoubtOutcome → Byte
  | .taken => 1#8 | .notTaken => 2#8 | .mismatch => 3#8

/-- The type byte of a request (R169). -/
def ReqBody.typeCode : ReqBody → Byte
  | .status => 0x10#8
  | .query => 0x11#8
  | .configure _ _ _ => 0x12#8
  | .acknowledge _ _ => 0x13#8
  | .seriesLoad _ _ _ _ _ _ _ => 0x20#8
  | .seriesRead _ => 0x21#8
  | .blockAdd _ => 0x22#8
  | .blockRemove _ => 0x23#8
  | .blockClear => 0x24#8
  | .blockRead _ => 0x25#8
  | .openCall _ => 0x30#8
  | .charge _ => 0x31#8
  | .close => 0x32#8
  | .resetPosition => 0x33#8
  | .takeRecords _ => 0x40#8
  | .doubtRead _ => 0x41#8
  | .doubtDiscard _ => 0x42#8
  | .protect _ => 0x50#8
  | .save _ _ => 0x51#8
  | .selfTest _ => 0x52#8
  | .restart => 0x5F#8

/-! ## Payloads (R169): an absent optional field is sent as zeros, marked by a presence byte before it -/

def locationBytes (l : Option Location) : List Byte :=
  match l with
  | some x => [stageByte x.stage, digitByte x.cell]
  | none => [0#8, 0#8]

/-- The figures of STATUS, without a result code. -/
def Figures.bytes (f : Figures) : List Byte :=
  [f.part.code, f.mode.code, boolByte f.key, natByte f.callsOpen, natByte f.stored, natByte f.reserved,
    natByte f.pendingDoubts, natByte f.resolvedDoubts] ++ natHalf f.ranges ++
    [natByte f.loadedSeries, natByte f.outstanding, f.flags.setWidth 8]

def Snapshot.lineByte (s : Snapshot) : Byte :=
  natByte ((if s.present then 1 else 0) + (if s.settings.inService then 2 else 0) + (if s.settings.notify then 4 else 0) +
    (if s.settings.lineClass = .long then 8 else 0) + (if s.checkLatch then 16 else 0))

def Snapshot.presenceByte (s : Snapshot) : Byte :=
  natByte ((if s.cause.isSome then 1 else 0) + (if s.id.isSome then 2 else 0) + (if s.tally.isSome then 4 else 0) +
    (if s.balance.isSome then 8 else 0) + (if s.call.isSome then 16 else 0) + (if s.steps.isSome then 32 else 0) +
    (if s.failing.isSome then 64 else 0))

def zeros (n : Nat) : List Byte := List.replicate n 0#8

def callFigureBytes (c : Option CallFigures) : List Byte :=
  match c with
  | some f => [f.state.code] ++ natHalf f.callId ++ [natByte f.credit] ++ natHalf f.burned ++ [natByte f.queued] ++
      natQuad f.value
  | none => zeros 11

/-- The 35 bytes of a position snapshot. -/
def Snapshot.bytes (s : Snapshot) : List Byte :=
  [natByte s.position.val, s.state.code, s.contact.code, s.lineByte] ++ halfBytes (s.flags.setWidth 16) ++
    [s.presenceByte, (s.cause.map Cause.code).getD 0#8] ++ (s.id.map identityBytes).getD (zeros 6) ++
    (s.tally.map tallyBytes).getD (zeros 5) ++ (s.balance.map halfBytes).getD (zeros 2) ++ callFigureBytes s.call ++
    [natByte (s.steps.getD 0)] ++ locationBytes s.failing

/-- The series entry fields; an EMPTY entry shows zeros (R50). -/
def seriesBytes (e : Option SeriesFields) : List Byte :=
  match e with
  | some f => halfBytes f.code ++ [f.weight] ++ halfBytes f.maxIssued ++ [f.retries, boolByte f.accepting]
  | none => zeros 7

def rangeBytes (r : Range) : List Byte := halfBytes r.series ++ quadBytes r.first ++ quadBytes r.last

def doubtEntryBytes (e : DoubtEntry) : List Byte :=
  natHalf e.creation ++ identityBytes e.id ++ [natByte e.position.val] ++ natHalf e.callId ++ [stageByte e.stage] ++
    digitsBytes e.before ++ (match e.resolved with
      | some (o, p) => [1#8, o.code, natByte p.val]
      | none => [0#8, 0#8, 0#8])

/-- The 30 bytes of a CALL record. -/
def CallRecord.bytes (r : CallRecord) : List Byte :=
  [1#8] ++ natHalf r.seq ++ [natByte r.position.val] ++ natHalf r.callId ++ identityBytes r.id ++
    natHalf r.balanceAtOpen ++ natHalf r.burned ++ natQuad r.covered ++ natQuad r.uncovered ++
    [natByte r.forfeited, r.cause.code, r.mark.code, boolByte r.failing.isSome] ++ locationBytes r.failing

/-- The 30 bytes of a RESOLUTION record: 14 bytes and 16 of 0. -/
def ResolutionRecord.bytes (r : ResolutionRecord) : List Byte :=
  [2#8] ++ natHalf r.seq ++ identityBytes r.id ++ natHalf r.callId ++
    [stageByte r.stage, r.outcome.code, natByte r.position.val] ++ zeros 16

def Record.bytes : Record → List Byte
  | .call r => r.bytes
  | .resolution r => r.bytes

def ChargeReply.bytes (c : ChargeReply) : List Byte :=
  [c.outcome.code, natByte c.covered, natByte c.uncovered, natByte c.steps] ++ natHalf c.balance ++
    [natByte c.credit, boolByte c.failing.isSome] ++ locationBytes c.failing

/-- The payload of a reply: the result code and the fields of its table row; a CHARGE reply begins with its outcome. -/
def ReplyBody.bytes : ReplyBody → List Byte
  | .refusal c => [c.code]
  | .ok => [ResultCode.ok.code]
  | .status f => ResultCode.ok.code :: f.bytes
  | .query s => ResultCode.ok.code :: s.bytes
  | .flags f => ResultCode.ok.code :: halfBytes f
  | .series i e => [ResultCode.ok.code, i, boolByte e.isSome] ++ seriesBytes e
  | .count n => ResultCode.ok.code :: natHalf n
  | .ranges n rs => ResultCode.ok.code :: natHalf n ++ [natByte rs.length] ++ rs.flatMap rangeBytes
  | .opened i b w v => ResultCode.ok.code :: natHalf i ++ natHalf b ++ [natByte w] ++ natQuad v
  | .charge c => c.bytes
  | .record r => ResultCode.ok.code :: r.bytes
  | .records n rs => [ResultCode.ok.code, natByte rs.length, natByte n] ++ rs.flatMap Record.bytes
  | .doubts p r es => [ResultCode.ok.code, natByte p, natByte r, natByte es.length] ++ es.flatMap doubtEntryBytes
  | .mode m => [ResultCode.ok.code, m.code]
  | .saved i r => [ResultCode.ok.code, natByte i, r.code]
  | .test c cs => ResultCode.ok.code :: c :: cs

/-- A management frame: start, length of type to payload, type, tag, position, payload, check (R169). -/
def linkFrame (type tag pos : Byte) (payload : List Byte) : List Byte :=
  let span := natByte (payload.length + 3) :: type :: tag :: pos :: payload
  0x01#8 :: span ++ halfBytes (crc span)

/-- The position byte of part requests and notices (R151). -/
def partByte : Byte := 0xFF#8

def positionNoticeFrame (s : Snapshot) : List Byte := linkFrame 0x7E#8 0#8 (natByte s.position.val) s.bytes

def partNoticeFrame (f : Figures) : List Byte := linkFrame 0x7F#8 0#8 partByte f.bytes

end Sys2Proof.Machine
end

