-- ==== Sys2Proof/Machine/Operands.lean ====
section
/-! DEFINITION. The operand forms: how bytes become management frames and requests (R138, R142, R169), line frames and
answers (R26, R170), and the codes of payload fields (R169). -/

namespace Sys2Proof.Machine

/-! ## The receive framer (R138) -/

/-- A complete management frame: its length byte, the bytes from the type to the payload, and whether its check
matches. -/
structure LinkFrame where
  body : List Byte
  checkGood : Bool
  deriving DecidableEq, Repr

/-- A length byte lies in 4 to 250 (R138). -/
def lengthInRange (b : Byte) : Bool := 4 ≤ b.toNat && b.toNat ≤ 250

/-- One byte into the framer: the framer after it, and the frame it completes, if any (R138). -/
def Framer.feed (f : Framer) (b : Byte) : Framer × Option LinkFrame :=
  match f with
  | .hunting => (if b = 0x01#8 then .started else .hunting, none)
  | .started => (if lengthInRange b then .gathering b [] else .hunting, none)
  | .gathering len got =>
    let all := got ++ [b]
    if all.length = len.toNat + 2 then
      let body := all.take len.toNat
      (.hunting, some { body := body, checkGood := halfBytes (crc (len :: body)) = all.drop len.toNat })
    else (.gathering len all, none)

/-- The frames a run of bytes completes, in order, and the framer after them. -/
def Framer.run (f : Framer) : List Byte → Framer × List LinkFrame
  | [] => (f, [])
  | b :: bs =>
    let (g, done) := f.feed b
    let (h, more) := g.run bs
    (h, done.toList ++ more)

/-! ## Requests (R142, R169) -/

/-- Whether a type names a request, and then the length the frame must have (R169). -/
def requestLength (type : Byte) : Option Nat :=
  match type.toNat with
  | 0x10 => some 4 | 0x11 => some 4 | 0x12 => some 6 | 0x13 => some 7 | 0x20 => some 12 | 0x21 => some 4
  | 0x22 => some 13 | 0x23 => some 13 | 0x24 => some 4 | 0x25 => some 5 | 0x30 => some 5 | 0x31 => some 4
  | 0x32 => some 4 | 0x33 => some 4 | 0x40 => some 4 | 0x41 => some 4 | 0x42 => some 9 | 0x50 => some 4
  | 0x51 => some 5 | 0x52 => some 7 | 0x5F => some 4
  | _ => none

/-- What a payload of the right length asks, by the request's type (R169). -/
def requestBody (type : Byte) (payload : List Byte) : Option ReqBody :=
  match type.toNat, payload with
  | 0x10, [_] => some .status
  | 0x11, [_] => some .query
  | 0x12, [i, n, c] => some (.configure i n c)
  | 0x13, [a, b, c, d] => some (.acknowledge (halfOf a b) (halfOf c d))
  | 0x20, [i, a, c1, c2, w, m1, m2, r, y] => some (.seriesLoad i a (halfOf c1 c2) w (halfOf m1 m2) r y)
  | 0x21, [i] => some (.seriesRead i)
  | 0x22, [a, b, c, d, e, f, g, h, i, j] => some (.blockAdd ⟨halfOf a b, quadOf c d e f, quadOf g h i j⟩)
  | 0x23, [a, b, c, d, e, f, g, h, i, j] => some (.blockRemove ⟨halfOf a b, quadOf c d e f, quadOf g h i j⟩)
  | 0x24, [_] => some .blockClear
  | 0x25, [a, b] => some (.blockRead (halfOf a b))
  | 0x30, [a, b] => some (.openCall (halfOf a b))
  | 0x31, [n] => some (.charge n)
  | 0x32, [_] => some .close
  | 0x33, [_] => some .resetPosition
  | 0x40, [n] => some (.takeRecords n)
  | 0x41, [n] => some (.doubtRead n)
  | 0x42, [a, b, c, d, e, f] => some (.doubtDiscard ⟨halfOf a b, quadOf c d e f⟩)
  | 0x50, [m] => some (.protect m)
  | 0x51, [i, r] => some (.save i r)
  | 0x52, [a, b, c, d] => some (.selfTest (quadOf a b c d))
  | 0x5F, [_] => some .restart
  | _, _ => none

/-- The position a position byte names: 0 to 31 (R142). -/
def posOf (b : Byte) : Option Pos := if h : b.toNat < 32 then some ⟨b.toNat, h⟩ else none

/-- A position request has to name a position (09, 9.3). -/
def ReqBody.isPositionRequest : ReqBody → Bool
  | .query => true
  | .configure _ _ _ => true
  | .openCall _ => true
  | .charge _ => true
  | .close => true
  | .resetPosition => true
  | _ => false

/-- The owner a request is handed to (09, 9.3). -/
def Request.owner (r : Request) : Owner :=
  match r.body with
  | .status => .linkPort
  | .query => .linkPort
  | .configure _ _ _ => .lineUnit r.pos
  | .acknowledge _ _ => .linkPort
  | .seriesLoad _ _ _ _ _ _ _ => .identification
  | .seriesRead _ => .identification
  | .blockAdd _ => .identification
  | .blockRemove _ => .identification
  | .blockClear => .identification
  | .blockRead _ => .identification
  | .openCall _ => .callTable
  | .charge _ => .callTable
  | .close => .callTable
  | .resetPosition => .lineUnit r.pos
  | .takeRecords _ => .recordList
  | .doubtRead _ => .doubtList
  | .doubtDiscard _ => .doubtList
  | .protect _ => .settings
  | .save _ _ => .settings
  | .selfTest _ => .selfTest
  | .restart => .linkPort

/-- A yes or no byte; another value names no value of its kind (R169). -/
def yesNoOf (b : Byte) : Option Bool := if b = 1#8 then some true else if b = 0#8 then some false else none

def lineClassOf (b : Byte) : Option LineClass := if b = 1#8 then some .long else if b = 0#8 then some .short else none

def modeOf (b : Byte) : Option Mode :=
  if b = 0#8 then some .openMode else if b = 1#8 then some .keyed else if b = 2#8 then some .locked else none

def rateOf (b : Byte) : Option Rate :=
  if b = 0#8 then some .b9600 else if b = 1#8 then some .b19200 else if b = 2#8 then some .b38400
  else if b = 3#8 then some .b115200 else none

/-! ## Line frames and answers (R26, R170) -/

/-- What a run of bytes is on a position line: no frame at all (its first byte is no start byte, log 18), a bad frame, whose
line check fails or which is cut short, overlong or without a kind (log 18), or a good frame with its kind and content. -/
inductive LineFrame where
  | noFrame
  | bad
  | good (kind : Byte) (content : List Byte)
  deriving DecidableEq, Repr

/-- A run of bytes on a position line, read (R170). A frame with length byte 0, which has no kind, is a bad frame, be its check
good or not: the model's choice (log 18). -/
def readLineFrame (bs : List Byte) : LineFrame :=
  match bs with
  | start :: len :: rest =>
    if start ≠ 0x02#8 then .noFrame
    else if rest.length = len.toNat + 2 ∧ halfBytes (crc (len :: rest.take len.toNat)) = rest.drop len.toNat then
      match rest.take len.toNat with
      | kind :: content => .good kind content
      | [] => .bad
    else .bad
  | [start] => if start = 0x02#8 then .bad else .noFrame
  | [] => .noFrame

/-- The refusal reasons of a card (R11, R12). -/
inductive CardRefusal where
  | badStage | latchSet | stageFull | lowerNotFull | noLatch
  deriving DecidableEq, Repr

def CardRefusal.code : CardRefusal → Byte
  | .badStage => 1#8 | .latchSet => 2#8 | .stageFull => 3#8 | .lowerNotFull => 4#8 | .noLatch => 5#8

def refusalOf (b : Byte) : Option CardRefusal :=
  match b.toNat with
  | 1 => some .badStage | 2 => some .latchSet | 3 => some .stageFull | 4 => some .lowerNotFull | 5 => some .noLatch
  | _ => none

/-- A refusal that a card gives to a write order (R11, R12, R170). -/
def refusalFits (k : OrderKind) (r : CardRefusal) : Bool :=
  match k, r with
  | .burn, .noLatch => false
  | .burn, _ => true
  | .restage, .badStage => true
  | .restage, .noLatch => true
  | _, _ => false

/-- A well-formed answer (R26). -/
inductive Answer where
  | code (b : Byte)
  | header (h : Header)
  | tally (t : Tally)
  | done
  | refused (r : CardRefusal)
  deriving DecidableEq, Repr

def digitOf (b : Byte) : Option Digit := if h : b.toNat < 8 then some ⟨b.toNat, h⟩ else none
def stageOf (b : Byte) : Option Stage := if h : b.toNat < 4 then some ⟨b.toNat, h⟩ else none

/-- The tally of a READ TALLY answer; a digit above 7 or a latch indication above 3 is malformed (R26). -/
def tallyOf (a b c d l : Byte) : Option Tally :=
  match digitOf a, digitOf b, digitOf c, digitOf d, stageOf l with
  | some d0, some d1, some d2, some d3, some latch => some ⟨⟨d0, d1, d2, d3⟩, latch⟩
  | _, _, _, _, _ => none

/-- The content of a card's answer frame, after the kind, read for the kind of the order in flight; none when it is
malformed (R26, R170). -/
def readAnswer (k : OrderKind) (content : List Byte) : Option Answer :=
  match content with
  | [] => none
  | status :: rest =>
    if status = 0#8 then
      match k, rest with
      | .wake, [b] => some (.code b)
      | .readHead, [a, b, c, d, e, f, g, h, i, j] =>
        some (.header ⟨⟨halfOf a b, quadOf c d e f⟩, halfOf g h, halfOf i j⟩)
      | .readTally, [a, b, c, d, l] => (tallyOf a b c d l).map .tally
      | .burn, [] => some .done
      | .restage, [] => some .done
      | _, _ => none
    else
      match refusalOf status, rest with
      | some r, [] => if refusalFits k r then some (.refused r) else none
      | _, _ => none

/-- The pattern of an echo answer or of a returned loopback frame's content (R164, R170). -/
def patternOf (content : List Byte) : Option Quad :=
  match content with
  | [a, b, c, d] => some (quadOf a b c d)
  | _ => none

end Sys2Proof.Machine
end

