-- ==== Sys2Proof/Machine/Cards.lean ====
section
/-! DEFINITION. The supported unit card (chapter Cards and Card Orders): what it does with an order, in the small steps at
which it can be cut off, and what it answers. -/

namespace Sys2Proof

/-- The digit of stage S_k (R6). -/
def Digits.get (d : Digits) (k : Stage) : Digit :=
  match k with
  | 0 => d.d0
  | 1 => d.d1
  | 2 => d.d2
  | 3 => d.d3

def Digits.set (d : Digits) (k : Stage) (v : Digit) : Digits :=
  match k with
  | 0 => { d with d0 := v }
  | 1 => { d with d1 := v }
  | 2 => { d with d2 := v }
  | 3 => { d with d3 := v }

/-- The stages below S_k, lowest first. -/
def stagesBelow (k : Stage) : List Stage :=
  match k with
  | 0 => []
  | 1 => [0]
  | 2 => [0, 1]
  | 3 => [0, 1, 2]

/-- The stages above S_k. -/
def stagesAbove (k : Stage) : List Stage :=
  match k with
  | 0 => [1, 2, 3]
  | 1 => [2, 3]
  | 2 => [3]
  | 3 => []

/-- Effective consumption C of a tally (R9). -/
def Tally.consumption (t : Tally) : Nat :=
  let e (j : Stage) : Nat := if t.latch ≠ 0 ∧ j < t.latch then 0 else (t.digits.get j).val
  e 0 + 8 * e 1 + 64 * e 2 + 512 * e 3

namespace Machine

/-- The checks of a BURN, in order; the first that fails gives the refusal (R11). -/
def burnRefusal (k : Byte) (t : Tally) : Option CardRefusal :=
  match stageOf k with
  | none => some .badStage
  | some s =>
    if t.latch ≠ 0 then some .latchSet
    else if (t.digits.get s).val = 7 then some .stageFull
    else if (stagesBelow s).any (fun j => (t.digits.get j).val ≠ 7) then some .lowerNotFull
    else none

/-- The checks of a RESTAGE, in order (R12). -/
def restageRefusal (k : Byte) (t : Tally) : Option CardRefusal :=
  match stageOf k with
  | none => some .badStage
  | some s => if s = 0 then some .badStage else if t.latch = s then none else some .noLatch

/-- The tally with one more cell of S_k burned. -/
def burnCell (k : Stage) (t : Tally) : Tally := { t with digits := t.digits.set k (t.digits.get k + 1) }

/-- The forms a BURN's small steps leave, in order: for k from 1 to 3 first the latch, then the cell, if it takes (R7,
R11, R13). -/
def burnForms (k : Stage) (takes : Bool) (t : Tally) : List Tally :=
  if k = 0 then (if takes then [burnCell 0 t] else [])
  else { t with latch := k } :: (if takes then [burnCell k { t with latch := k }] else [])

/-- Clearing the burned cells of one stage from the highest downward (R12). -/
def clearForms (j : Stage) (t : Tally) : List Tally :=
  (List.range (t.digits.get j).val).reverse.map fun m => { t with digits := t.digits.set j (Fin.ofNat 8 m) }

def clearStages : List Stage → Tally → List Tally
  | [], _ => []
  | j :: js, t => clearForms j t ++ clearStages js { t with digits := t.digits.set j 0 }

/-- The tally with every stage below S_k at 0 and no latch. -/
def restaged (k : Stage) (t : Tally) : Tally :=
  { digits := (stagesBelow k).foldl (fun d j => d.set j 0) t.digits, latch := 0 }

/-- The forms a RESTAGE's small steps leave, in order: every cell below S_k, S0 first, then the latch (R12, R14). -/
def restageForms (k : Stage) (t : Tally) : List Tally := clearStages (stagesBelow k) t ++ [restaged k t]

/-- The forms that working an order leaves, in order; a refused or a read order changes nothing. -/
def orderForms (o : CardOrder) (takes : Bool) (t : Tally) : List Tally :=
  match o with
  | .wake => []
  | .readHead => []
  | .readTally => []
  | .burn k =>
    match burnRefusal k t, stageOf k with
    | none, some s => burnForms s takes t
    | _, _ => []
  | .restage k =>
    match restageRefusal k t, stageOf k with
    | none, some s => restageForms s t
    | _, _ => []

/-- The tally after `n` small steps of an order (R13, R14); with n large, after all of it. -/
def formAfter (o : CardOrder) (takes : Bool) (t : Tally) (n : Nat) : Tally := ((orderForms o takes t).take n).getLastD t

/-- The tally once the order is worked whole. -/
def formDone (o : CardOrder) (takes : Bool) (t : Tally) : Tally := (orderForms o takes t).getLastD t

/-- The card finishes the order it is working and returns to awake (R1). -/
def cardFinish (c : Card) : Card :=
  match c.power with
  | .working o takes _ => { c with tally := formDone o takes c.tally, power := .awake }
  | _ => c

/-- The card loses its power, having worked `n` small steps of its order, if it works one (R1, R13, R14). -/
def cardCut (n : Nat) (c : Card) : Card :=
  match c.power with
  | .working o takes _ => { c with tally := formAfter o takes c.tally n, power := .unpowered }
  | _ => { c with power := .unpowered }

/-- Contact power is applied: an unpowered card comes up asleep (R1). -/
def cardPowerUp (c : Card) : Card := if c.power = .unpowered then { c with power := .asleep } else c

/-- The order a good line frame holds, if a card knows it (R2, R170). A frame of a known kind whose content is not of the
length R170 gives is no order: the model's choice (log 37). -/
def cardOrderOf (bs : List Byte) : Option CardOrder :=
  match readLineFrame bs with
  | .good kind content =>
    match kind.toNat, content with
    | 1, [] => some .wake
    | 2, [] => some .readHead
    | 3, [] => some .readTally
    | 4, [k] => some (.burn k)
    | 5, [k] => some (.restage k)
    | _, _ => none
  | _ => none

/-- A frame reaches the card at its end: an awake card begins to work the order, an asleep card only a WAKE; any other
frame is ignored (R1, R2). -/
def cardHears (bs : List Byte) (takes : Bool) (c : Card) : Card :=
  match cardOrderOf bs, c.power with
  | some o, .awake => { c with power := .working o takes 0 }
  | some .wake, .asleep => { c with power := .working .wake takes 0 }
  | _, _ => c

/-- The content of the answer a card sends to the order it works, after the kind byte (R3, R5, R8, R11, R12, R170). -/
def cardAnswerContent (o : CardOrder) (c : Card) : List Byte :=
  match o with
  | .wake => [0#8, Config.answerCode]
  | .readHead => 0#8 :: headerBytes c.header
  | .readTally => 0#8 :: tallyBytes c.tally
  | .burn k => [((burnRefusal k c.tally).map CardRefusal.code).getD 0#8]
  | .restage k => [((restageRefusal k c.tally).map CardRefusal.code).getD 0#8]

def cardOrderKind : CardOrder → OrderKind
  | .wake => .wake
  | .readHead => .readHead
  | .readTally => .readTally
  | .burn _ => .burn
  | .restage _ => .restage

/-- The timeout of an order of this kind is over. A card that works such an order is through with it by then (R15); a card
that works another order goes on with it (R2). -/
def cardOrderOver (k : OrderKind) (c : Card) : Card :=
  match c.power with
  | .working o _ _ => if cardOrderKind o = k then cardFinish c else c
  | _ => c

/-- The time, in milliseconds from the end of the order frame, within which a card answers (R15). -/
def cardAnswerMs : CardOrder → Nat
  | .wake => Config.cardWakeMs
  | .readHead => Config.cardReadMs
  | .readTally => Config.cardReadMs
  | .burn _ => Config.cardBurnMs
  | .restage _ => Config.cardRestageMs

/-- The answer frame of a card that works an order, within its answer time (R2, R15); none when it works none. -/
def cardAnswer (c : Card) : Option (List Byte) :=
  match c.power with
  | .working o _ n =>
    if n ≤ cardAnswerMs o then some (lineFrame (cardOrderKind o).code (cardAnswerContent o c)) else none
  | _ => none

end Machine

end Sys2Proof
end

