-- ==== Sys2Proof/Machine/Ops.lean ====
section
/-! DEFINITION. The named operations over the state that every block uses: reading and changing a position and its call
context, taking a request, queueing a reply, contact power, and orders on the line. -/

namespace Sys2Proof.Machine

/-! ## Positions, contexts and settings -/

def State.unit (s : State) (p : Pos) : Position := s.units[p.val]'p.isLt

def State.setUnit (s : State) (p : Pos) (u : Position) : State := { s with units := s.units.set p.val u p.isLt }

def State.modUnit (s : State) (p : Pos) (f : Position → Position) : State := s.setUnit p (f (s.unit p))

def State.line (s : State) (p : Pos) : LineUnit := (s.unit p).line

def State.modLine (s : State) (p : Pos) (f : LineUnit → LineUnit) : State :=
  s.modUnit p fun u => { u with line := f u.line }

def Retained.ctx (m : Retained) (p : Pos) : Context := m.ctxs[p.val]'p.isLt

def Retained.modCtx (m : Retained) (p : Pos) (f : Context → Context) : Retained :=
  { m with ctxs := m.ctxs.set p.val (f (m.ctx p)) p.isLt }

def State.modRetained (s : State) (f : Retained → Retained) : State := { s with retained := f s.retained }

def State.ctx (s : State) (p : Pos) : Context := s.retained.ctx p

def State.modCtx (s : State) (p : Pos) (f : Context → Context) : State := s.modRetained fun m => m.modCtx p f

def State.posSettings (s : State) (p : Pos) : PosSettings := s.working.posns[p.val]'p.isLt

def State.modLink (s : State) (f : Link → Link) : State := { s with link := f s.link }

/-- All positions, in ascending order. -/
def positions : List Pos := List.finRange 32

/-- The supply is on and start-up is complete (R161). -/
def State.running (s : State) : Bool := s.powered && s.starting.isNone

/-! ## Requests and replies -/

/-- The position byte that names a position. -/
def posByte (p : Pos) : Byte := natByte p.val

/-- The oldest request an owner has been given and has not taken (R141). -/
def State.front (s : State) (o : Owner) : Option Request := s.link.received.find? fun r => r.owner = o

/-- The owner takes that request. -/
def State.takeFront (s : State) (o : Owner) : State :=
  s.modLink fun l => { l with received := l.received.eraseP fun r => r.owner = o }

/-- A message joins the outbound queue (R144). -/
def State.send (s : State) (m : Message) : State := s.modLink fun l => { l with outbound := l.outbound ++ [m] }

/-- The reply to a request: its type, tag and position byte as received (R139). -/
def State.answer (s : State) (r : Request) (body : ReplyBody) : State :=
  s.send (.reply r.body.typeCode r.tag r.pos body)

/-- The reply to a position request whose tag was kept: its type, the tag, the position. -/
def State.answerAt (s : State) (p : Pos) (type tag : Byte) (body : ReplyBody) : State :=
  s.send (.reply type tag (posByte p) body)

/-! ## Contact power (R1, R23) -/

/-- The part takes contact power off the position, which becomes UNPOWERED or REST. A card loses its awake state; one in
the middle of a write order is cut off at a point the manual leaves open (log 7). The rest count stops (R24). -/
def State.contactOff (s : State) (p : Pos) (c : Contact) : State :=
  let u := s.unit p
  let off : LineUnit := { u.line with contact := c, rest := none }
  match u.reader with
  | some (.card k) =>
    let s1 := s.setUnit p { u with line := off, reader := some (.card (cardCut (Config.cutPoint s.freeCount) k)) }
    match k.power with
    | .working _ _ _ => { s1 with freeCount := s.freeCount + 1 }
    | _ => s1
  | _ => s.setUnit p { u with line := off }

/-- The part applies contact power to send a WAKE; contact power becomes WAKING (R23). -/
def State.contactOn (s : State) (p : Pos) : State :=
  s.modUnit p fun u =>
    { u with
      line := { u.line with contact := .waking, rest := none }
      reader := match u.reader with
        | some (.card k) => some (.card (cardPowerUp k))
        | x => x }

/-! ## Orders on the line (R26, R27) -/

/-- The answer timeout of an order, by the line class for reads and the echo (R27, R164). -/
def answerTimeoutMs (k : OrderKind) (c : LineClass) : Nat :=
  let read := match c with
    | .short => Config.readShortMs
    | .long => Config.readLongMs
  match k with
  | .wake => Config.wakeMs
  | .readHead => read
  | .readTally => read
  | .burn => Config.burnMs
  | .restage => Config.restageMs
  | .echo => read
  | .loopback => Config.loopbackMs

def Attempt.isRetry : Attempt → Bool
  | .first => false
  | .retry _ => true

/-- The timeout of an attempt: by the kind and the line class as they stand at the first, and that same timeout at the retry
(R27, log 38). -/
def Attempt.timeoutMs (k : OrderKind) (c : LineClass) : Attempt → Nat
  | .first => answerTimeoutMs k c
  | .retry timeout => timeout

/-- The line unit begins to send an order (R26); the rest count stops (R24). -/
def State.beginOrder (s : State) (p : Pos) (k : OrderKind) (stage : Stage) (a : Attempt) (purpose : Purpose) : State :=
  s.modLine p fun l =>
    { l with
      order := some { kind := k, stage := stage, retry := a.isRetry, begun := true, ended := false, elapsed := 0,
                      timeout := a.timeoutMs k (s.posSettings p).lineClass, purpose := purpose }
      rest := none }

/-- A WAKE is sent, contact power being applied first where it is off (R23, R25, R28). -/
def State.beginWake (s : State) (p : Pos) (a : Attempt) (purpose : Purpose) : State :=
  (s.contactOn p).beginOrder p .wake 0 a purpose

/-- The read a position's next read order is: READ HEAD at step 2 of a sequence, READ TALLY otherwise. -/
def State.readKind (s : State) (p : Pos) (r : ReadFor) : OrderKind :=
  match r, (s.unit p).seq with
  | .sequence, some q => if q.step = 2 then .readHead else .readTally
  | _, _ => .readTally

/-- A read is sent, behind a WAKE where the contacts are not POWERED (R25). That a retry goes out, behind its WAKE too, while a
RESTART is pending is the model's choice (log 46). -/
def State.sendRead (s : State) (p : Pos) (r : ReadFor) (a : Attempt) : State :=
  if (s.line p).contact = .powered then s.beginOrder p (s.readKind p r) 0 a (.read r)
  else s.beginWake p .first (.wakeRead r a)

/-- The order in flight is over, or abandoned (R19, R26). -/
def State.endOrder (s : State) (p : Pos) : State := s.modLine p fun l => { l with order := none }

/-- A write order is in progress: its frame begun and its outcome not settled, the verify read and the WAKE in front of
it included (R20). -/
def LineUnit.writeInProgress (l : LineUnit) : Bool :=
  match l.order with
  | none => false
  | some o =>
    match o.purpose with
    | .write => o.begun
    | .read .verify => true
    | .wakeRead .verify _ => true
    | _ => false

/-- What a reset, a CONFIGURE or a RESTART waits for: a write in progress, or the READ TALLY after a refusal that came
while it waited (R33, R34, log 15). -/
def LineUnit.awaited (l : LineUnit) : Bool :=
  l.writeInProgress ||
    match l.order with
    | none => false
    | some o =>
      match o.purpose with
      | .read (.refusal owed) => owed
      | .wakeRead (.refusal owed) _ => owed
      | _ => false

/-- A position may begin new orders and enter write requests: no reset and no CONFIGURE waits there and no RESTART is
pending (R22, R33, R34, R108, R110). -/
def State.mayBegin (s : State) (p : Pos) : Bool := (s.unit p).wait.isNone && s.restart = .none

/-- The next read of the identification sequence, where a new order may begin. -/
def State.nextRead (s : State) (p : Pos) : State := if s.mayBegin p then s.sendRead p .sequence .first else s

/-- The contacts become POWERED when the WAKE is answered 0x5C; a blink may have left them at REST (R23, R25, log 35). -/
def State.contactAwake (s : State) (p : Pos) : State :=
  s.modLine p fun l => if l.contact = .waking then { l with contact := .powered } else l

/-! ## Timers -/

/-- A count stopped or run for so many milliseconds goes on by one up to its limit. -/
def countOn (limit : Nat) (n : Nat) : Nat := if n < limit then n + 1 else n

/-- A count reaches its limit with the next millisecond. -/
def countDue (limit : Nat) (n : Nat) : Bool := n + 1 = limit

end Sys2Proof.Machine
end

