-- ==== Sys2Proof/Machine/Flags.lean ====
section
/-! DEFINITION. Attention flags and notices (R149 to R152), and the figures a notice or a reply shows: the snapshot (R147)
and the STATUS figures (R146). -/

namespace Sys2Proof.Machine

/-- The nine per-position flags; the place in this list is the bit of the flag field (R149, R169). -/
inductive PosFlag where
  | inserted | removed | identified | rejected | low | exhausted | closed | cardFault | lineFault
  deriving DecidableEq, Repr

/-- The five part-wide flags. -/
inductive PartFlag where
  | recordsWaiting | overrun | storeInvalid | retainedLost | keyChanged
  deriving DecidableEq, Repr

def PosFlag.bit : PosFlag → BitVec 9
  | .inserted => 0x001#9 | .removed => 0x002#9 | .identified => 0x004#9 | .rejected => 0x008#9 | .low => 0x010#9
  | .exhausted => 0x020#9 | .closed => 0x040#9 | .cardFault => 0x080#9 | .lineFault => 0x100#9

def PartFlag.bit : PartFlag → BitVec 5
  | .recordsWaiting => 0x01#5 | .overrun => 0x02#5 | .storeInvalid => 0x04#5 | .retainedLost => 0x08#5
  | .keyChanged => 0x10#5

/-- A position notice joins the queue when notify is on and none for the position is there (R150). -/
def State.queueNotice (s : State) (p : Pos) : State :=
  if (s.posSettings p).notify = true ∧ Message.positionNotice p ∉ s.link.outbound then s.send (.positionNotice p) else s

/-- A part notice joins the queue when none is there (R150). -/
def State.queuePartNotice (s : State) : State :=
  if Message.partNotice ∉ s.link.outbound then s.send .partNotice else s

/-- A raising of a position flag (R150). -/
def State.raise (s : State) (p : Pos) (f : PosFlag) : State :=
  if (s.unit p).flags &&& f.bit ≠ 0#9 then s
  else (s.modUnit p fun u => { u with flags := u.flags ||| f.bit }).queueNotice p

/-- A raising of a part-wide flag (R150). -/
def State.raisePart (s : State) (f : PartFlag) : State :=
  if s.link.flags &&& f.bit ≠ 0#5 then s
  else (s.modLink fun l => { l with flags := l.flags ||| f.bit }).queuePartNotice

/-- A flag field after ACKNOWLEDGE: in the places of the mask, the value (R152). -/
def ackFlags {n : Nat} (flags mask value : BitVec n) : BitVec n := (flags &&& ~~~mask) ||| (mask &&& value)

/-- The flags an ACKNOWLEDGE raises: set by it and clear before (R152). -/
def ackRaised {n : Nat} (flags mask value : BitVec n) : BitVec n := mask &&& value &&& ~~~flags

/-- ACKNOWLEDGE on a position's flags (R152). -/
def State.acknowledge (s : State) (p : Pos) (mask value : BitVec 9) : State :=
  let f := (s.unit p).flags
  let s1 := s.modUnit p fun u => { u with flags := ackFlags f mask value }
  if ackRaised f mask value ≠ 0#9 then s1.queueNotice p else s1

/-- ACKNOWLEDGE on the part-wide flags (R152). -/
def State.acknowledgePart (s : State) (mask value : BitVec 5) : State :=
  let f := s.link.flags
  let s1 := s.modLink fun l => { l with flags := ackFlags f mask value }
  if ackRaised f mask value ≠ 0#5 then s1.queuePartNotice else s1

/-! ## STATUS figures (R146) -/

def State.partState (s : State) : PartState :=
  if s.save.isSome then .saving else if s.test.isSome then .testing else .running

def Retained.callsOpen (m : Retained) : Nat := (m.ctxs.toList.filter fun c => c.state ≠ .noCall).length

def State.figures (s : State) : Figures :=
  { part := s.partState, mode := s.mode, key := s.key.input, callsOpen := s.retained.callsOpen,
    stored := s.retained.records.length, reserved := s.retained.reservations.length,
    pendingDoubts := (s.retained.doubts.filter fun e => e.resolved.isNone).length,
    resolvedDoubts := (s.retained.doubts.filter fun e => e.resolved.isSome).length,
    ranges := s.working.blocks.length,
    loadedSeries := (s.working.series.toList.filter Option.isSome).length,
    outstanding := s.link.outstanding, flags := s.link.flags }

/-! ## The snapshot (R147) -/

/-- Balance of a card image: issued units less C (R10, R74); open where C exceeds them (log 10). -/
def Image.shownBalance (i : Image) : Half :=
  if i.tally.consumption ≤ i.header.issued.toNat then BitVec.ofNat 16 (i.header.issued.toNat - i.tally.consumption)
  else Config.balanceBelowZero i.header.issued.toNat i.tally.consumption

/-- Remaining value V (R68). -/
def Context.value (c : Context) : Nat := c.balance * c.weight + c.credit

def State.snapshotTally (s : State) (p : Pos) : Option Tally :=
  if (s.unit p).inForce then (s.ctx p).image.map (·.tally)
  else if (s.line p).state = .identifying ∨ (s.line p).state = .faulted then (s.line p).shownTally
  else none

def State.snapshotBalance (s : State) (p : Pos) : Option Half :=
  if (s.unit p).inForce then
    if (s.line p).state = .inCall then some (BitVec.ofNat 16 (s.ctx p).balance)
    else (s.ctx p).image.map Image.shownBalance
  else none

def Context.figures (c : Context) : CallFigures :=
  { state := c.state, callId := c.callId, credit := c.credit, burned := c.burned, queued := c.queue.length,
    value := c.value }

def State.snapshot (s : State) (p : Pos) : Snapshot :=
  let u := s.unit p
  let l := u.line
  { position := p, state := l.state, contact := l.contact, present := l.present, settings := s.posSettings p,
    checkLatch := l.checkLatch, flags := u.flags, cause := l.cause, id := l.shownId, tally := s.snapshotTally p,
    balance := s.snapshotBalance p,
    call := if l.state = .inCall then some (s.ctx p).figures else none,
    steps := if l.state = .inCall ∧ u.work.isSome then (s.ctx p).queue.head?.map (·.steps) else none,
    failing := if l.state = .faulted ∧ l.cause = some .cardFault then l.failing else none }

/-- The frame of a message as its transmission begins: a notice shows the figures of that moment (R145, R151). -/
def State.messageFrame (s : State) (m : Message) : List Byte :=
  match m with
  | .reply type tag pos body => linkFrame type tag pos body.bytes
  | .positionNotice p => positionNoticeFrame (s.snapshot p)
  | .partNotice => partNoticeFrame s.figures

end Sys2Proof.Machine
end

