-- ==== Sys2Proof/Machine/Arithmetic.lean ====
section
/-! DEFINITION. Unit arithmetic (R58 to R72), the verify comparison (R103), the resolution comparison (R117) and the block
list's arithmetic (R53 to R55), as functions of plain values. -/

namespace Sys2Proof.Machine

/-! ## The unit step (R58, R59) -/

/-- The stage of the next unit step, from a card image without latch: S0 while it has a free cell, else the lowest higher
stage with one (R58). -/
def stepStage (d : Digits) : Option Stage :=
  if d.d0.val < 7 then some 0
  else if d.d1.val < 7 then some 1
  else if d.d2.val < 7 then some 2
  else if d.d3.val < 7 then some 3
  else none

/-- The step in progress at its beginning (R58). -/
def Step.start (k : Stage) : Step := { carry := k ≠ 0, stage := k, awaited := .burn, sends := 0, begun := false }

/-! ## The verify comparison (R103) -/

inductive Judgement where
  | confirmed | unchanged | mismatched
  deriving DecidableEq, Repr

/-- Every stage of a list reads the same in both tallies. -/
def sameDigits (js : List Stage) (a b : Digits) : Bool := js.all fun j => a.get j = b.get j

/-- The expected tally after a BURN k: d_k one higher, the stages below at 7, those above as before; latch indication k
(0 for BURN 0) (R59). -/
def burnExpected (k : Stage) (before read : Tally) : Bool :=
  (read.digits.get k).val = (before.digits.get k).val + 1 &&
    (stagesBelow k).all (fun j => (read.digits.get j).val = 7) &&
    sameDigits (stagesAbove k) read.digits before.digits && read.latch = k

/-- The expected tally after a RESTAGE k: the stages below at 0, S_k and those above as before, no latch (R45, R59). -/
def restageExpected (k : Stage) (before read : Tally) : Bool :=
  (stagesBelow k).all (fun j => (read.digits.get j).val = 0) &&
    sameDigits (k :: stagesAbove k) read.digits before.digits && read.latch = 0

/-- A RESTAGE k that left the latch set: S_k and above as before, no stage below above its digit before (R103). -/
def restageUnchanged (k : Stage) (before read : Tally) : Bool :=
  read.latch = k && sameDigits (k :: stagesAbove k) read.digits before.digits &&
    (stagesBelow k).all (fun j => (read.digits.get j).val ≤ (before.digits.get j).val)

/-- The judgement of a verify read against the in-flight-write field (R103). -/
def judge (f : InFlight) (read : Tally) : Judgement :=
  match f.kind with
  | .burn =>
    if burnExpected f.stage f.before read then .confirmed
    else if read = f.before then .unchanged
    else .mismatched
  | .restage =>
    if restageExpected f.stage f.before read then .confirmed
    else if restageUnchanged f.stage f.before read then .unchanged
    else .mismatched

/-! ## Plan and settlement (R61, R63, R67) -/

/-- The steps needed (R61). -/
def stepsNeeded (n c w : Nat) : Nat := if n ≤ c then 0 else (n - c + w - 1) / w

/-- The working record of a charge taken into work (R61). -/
def planCharge (c : Context) (h : Charge) : Work :=
  let b := stepsNeeded h.pulses c.credit c.weight
  { pulses := h.pulses, credit := c.credit, weight := c.weight, balance := c.balance, needed := b,
    planned := min b c.balance, step := none }

/-- Available pulses a = c + s·w (R63). -/
def Work.available (w : Work) (h : Charge) : Nat := w.credit + h.steps * w.weight

/-- A pulse total stays at 4294967295 if a sum would pass it (R67). -/
def addTotal (total n : Nat) : Nat := min (total + n) Config.pulseTotalMax

/-- The head charge is settled with `a` pulses available: covered, uncovered, credit after, totals, removal from the
queue, as one change (R63, R67). -/
def Context.settleHead (c : Context) (a : Nat) : Context :=
  match c.queue with
  | [] => c
  | h :: t =>
    let covered := min h.pulses a
    { c with credit := a - covered, covered := addTotal c.covered covered,
             uncovered := addTotal c.uncovered (h.pulses - covered), queue := t }

/-- The head of the queue is cancelled: nothing covered, the credit as it was (R66). -/
def Context.cancelHead (c : Context) : Context :=
  match c.queue with
  | [] => c
  | h :: t => { c with uncovered := addTotal c.uncovered h.pulses, queue := t }

/-- The charge behind the head is cancelled (R66, R85). -/
def Context.cancelSecond (c : Context) : Context :=
  match c.queue with
  | h :: x :: t => { c with uncovered := addTotal c.uncovered x.pulses, queue := h :: t }
  | _ => c

/-- A counted step: current balance down, units burned up, the head's steps done up (R60). -/
def Context.countStep (c : Context) : Context :=
  { c with balance := c.balance - 1, burned := c.burned + 1,
           queue := match c.queue with
             | [] => []
             | h :: t => { h with steps := h.steps + 1 } :: t }

/-- The verify read's tally into the card image (R81). -/
def Context.readImage (c : Context) (t : Tally) : Context :=
  { c with image := c.image.map fun i => { i with tally := t } }

/-- The next number of a counter that runs from 65535 to `first` (R76, R111, R127). -/
def nextNumber (first n : Nat) : Nat := if n = 65535 then first else n + 1

/-! ## Causes -/

/-- The charge outcome of a close (R64, R89). -/
def EndCause.outcome : EndCause → ChargeOutcome
  | .requested => .cut
  | .removed => .removed
  | .positionReset => .reset
  | .cardFault => .fault
  | .lineFault => .fault
  | .tallyMismatch => .fault
  | .restart => .restart
  | .powerLoss => .restart

/-- The causes whose close raises CLOSED (R89). -/
def EndCause.raisesClosed : EndCause → Bool
  | .requested => false
  | .removed => true
  | .positionReset => true
  | .cardFault => true
  | .lineFault => true
  | .tallyMismatch => true
  | .restart => false
  | .powerLoss => false

/-- The fault causes of a position, and the end cause a call takes from each (R91). -/
inductive FaultCause where
  | lineFault | cardFault | tallyMismatch
  deriving DecidableEq, Repr

def FaultCause.cause : FaultCause → Cause
  | .lineFault => .lineFault
  | .cardFault => .cardFault
  | .tallyMismatch => .tallyMismatch

def FaultCause.endCause : FaultCause → EndCause
  | .lineFault => .lineFault
  | .cardFault => .cardFault
  | .tallyMismatch => .tallyMismatch

/-- The flag of an entry to FAULTED (R31). -/
def FaultCause.flag : FaultCause → PosFlag
  | .lineFault => .lineFault
  | .cardFault => .cardFault
  | .tallyMismatch => .cardFault

/-! ## Resolution (R117) -/

def resolveOutcome (k : Stage) (before : Digits) (read : Tally) : DoubtOutcome :=
  if read.digits = before ∧ read.latch = 0 then .notTaken
  else if burnExpected k ⟨before, 0⟩ read then .taken
  else .mismatch

/-! ## The block list (R41, R53 to R55) -/

def Range.covers (r : Range) (i : Identity) : Bool :=
  r.series = i.series && r.first.toNat ≤ i.serial.toNat && i.serial.toNat ≤ r.last.toNat

def blocked (bs : List Range) (i : Identity) : Bool := bs.any fun r => r.covers i

/-- Two ranges of one series overlap or are adjacent (R53). -/
def Range.touches (a b : Range) : Bool :=
  a.series = b.series && a.first.toNat ≤ b.last.toNat + 1 && b.first.toNat ≤ a.last.toNat + 1

/-- Two ranges of one series share a serial (R55). -/
def Range.meets (a b : Range) : Bool :=
  a.series = b.series && a.first.toNat ≤ b.last.toNat && b.first.toNat ≤ a.last.toNat

/-- Order of the list: series, then first serial (R53). -/
def Range.before (a b : Range) : Bool :=
  a.series.toNat < b.series.toNat || (a.series = b.series && a.first.toNat < b.first.toNat)

def insertRange (r : Range) : List Range → List Range
  | [] => [r]
  | x :: xs => if r.before x then r :: x :: xs else x :: insertRange r xs

/-- One range over two: the least first and the greatest last (R54). -/
def Range.join (a b : Range) : Range :=
  { a with first := if b.first.toNat < a.first.toNat then b.first else a.first,
           last := if a.last.toNat < b.last.toNat then b.last else a.last }

/-- BLOCK ADD on the list; none when there is no room (R54). -/
def addRange (bs : List Range) (r : Range) : Option (List Range) :=
  let touching := bs.filter fun x => x.touches r
  if touching = [] then (if bs.length < Config.blockRanges then some (insertRange r bs) else none)
  else some (insertRange (touching.foldl Range.join r) (bs.filter fun x => !x.touches r))

/-- What BLOCK REMOVE leaves of a range: nothing, one end, both ends, or all of it (R55). -/
def cutRange (span x : Range) : List Range :=
  if x.meets span then
    (if x.first.toNat < span.first.toNat then [{ x with last := span.first - 1#32 }] else []) ++
      (if span.last.toNat < x.last.toNat then [{ x with first := span.last + 1#32 }] else [])
  else [x]

/-- A range strictly contains the span, so that cutting it splits it (R55). -/
def splits (span x : Range) : Bool :=
  x.series = span.series && x.first.toNat < span.first.toNat && span.last.toNat < x.last.toNat

/-- BLOCK REMOVE on the list; none when a split finds no room (R55). -/
def removeSpan (bs : List Range) (span : Range) : Option (List Range) :=
  if (bs.any fun x => splits span x) ∧ Config.blockRanges ≤ bs.length then none
  else some (bs.flatMap (cutRange span))

end Sys2Proof.Machine
end

