-- ==== Sys2Proof/Machine/Records.lean ====
section
/-! DEFINITION. The record list (R126 to R136) and the doubt list (R111 to R125), and the parts of a close that are made in
retained memory (R88). -/

namespace Sys2Proof.Machine

/-! ## The record list -/

/-- Stored records plus reservations (R130). -/
def Retained.room (m : Retained) : Nat := m.records.length + m.reservations.length

/-- A record is stored: it takes the counter's number, and the counter advances, from 65535 to 0 (R127). -/
def Retained.store (m : Retained) (r : Nat → Record) : Retained :=
  { m with records := m.records ++ [r m.seqCounter], seqCounter := nextNumber 0 m.seqCounter }

/-- The CALL record of a position's call as its figures stand (R88 step 6, R128). -/
def Retained.callRecord (m : Retained) (p : Pos) (cause : EndCause) (failing : Option Location) : CallRecord :=
  let c := m.ctx p
  { seq := m.seqCounter, position := p, callId := c.callId, id := c.id, balanceAtOpen := c.balanceAtOpen,
    burned := c.burned, covered := c.covered, uncovered := c.uncovered, forfeited := c.credit, cause := cause,
    mark := c.mark, failing := failing }

/-- Steps 5 to 7 of a close: the reservation that names the call becomes its CALL record; the context goes to NONE with an
empty queue (R88, R132). -/
def Retained.storeCall (m : Retained) (p : Pos) (cause : EndCause) (failing : Option Location) : Retained :=
  let c := m.ctx p
  let r := m.callRecord p cause failing
  let m1 : Retained :=
    { m with reservations := m.reservations.filter fun (x : Reservation) => !(x.position = p && x.callId = c.callId) }
  (m1.store fun _ => .call r).modCtx p fun (c : Context) => { c with state := .noCall, queue := [] }

/-! ## Tears (R93, R113, R114) -/

/-- A torn BURN is handed over: a PENDING entry when the list has room, and the doubt mark; the field is cleared. -/
def Retained.handTear (m : Retained) (p : Pos) (f : InFlight) : Retained :=
  let c := m.ctx p
  if m.doubts.length < Config.doubtEntries then
    let n := nextNumber 0 m.creationCounter
    let m1 : Retained :=
      { m with
        doubts := m.doubts ++ [{ creation := n, id := c.id, position := p, callId := c.callId, stage := f.stage,
                                 before := f.before.digits, resolved := none }]
        creationCounter := n }
    m1.modCtx p fun (c : Context) => { c with mark := .journalled, field := none }
  else m.modCtx p fun (c : Context) => { c with mark := .unjournalled, field := none }

/-- Step 1 of a close: the in-flight-write field, if it holds a BURN, becomes a tear; a RESTAGE is cleared (R88, R90, R96). -/
def Retained.closeTear (m : Retained) (p : Pos) : Retained :=
  match (m.ctx p).field with
  | none => m
  | some f =>
    match f.kind with
    | .burn => m.handTear p f
    | .restage => m.modCtx p fun c => { c with field := none }

/-! ## Resolution (R116, R119, R133) -/

/-- A resolved entry's record. -/
def resolutionOf (e : DoubtEntry) (o : DoubtOutcome) (p : Pos) (seq : Nat) : Record :=
  .resolution { seq := seq, id := e.id, callId := e.callId, stage := e.stage, outcome := o, position := p }

/-- A resolved entry offers its record: stored and the entry removed when the sum is below 64, else held (R119, R133).
Whether it was stored. The entry is removed by its creation number (log 40). -/
def Retained.offer (m : Retained) (e : DoubtEntry) : Retained × Bool :=
  match e.resolved with
  | none => (m, false)
  | some (o, p) =>
    if m.room < Config.recordSlots then
      let m1 : Retained := m.store (resolutionOf e o p)
      ({ m1 with doubts := m.doubts.filter fun (x : DoubtEntry) => x.creation ≠ e.creation }, true)
    else (m, false)

/-- The PENDING entry of an identity. -/
def Retained.pendingEntry (m : Retained) (i : Identity) : Option DoubtEntry :=
  m.doubts.find? fun e => e.id = i && e.resolved.isNone

/-- An entry with its outcome and resolving position set (R116). -/
def resolveEntry (e : DoubtEntry) (t : Tally) (p : Pos) : DoubtEntry :=
  { e with resolved := some (resolveOutcome e.stage e.before t, p) }

/-- Step 8 of identification on the doubt list (R116): whether a record was stored. The entry is found again by its
creation number; where that number has come round, every entry that has it is rewritten: the model's choice (log 40). -/
def Retained.resolve (m : Retained) (i : Identity) (t : Tally) (p : Pos) : Retained × Bool :=
  match m.pendingEntry i with
  | none => (m, false)
  | some e =>
    let r := resolveEntry e t p
    let m1 : Retained := { m with doubts := m.doubts.map fun (x : DoubtEntry) => if x.creation = e.creation then r else x }
    m1.offer r

/-- The held entries offer their records in creation order while room lasts (R120): whether any was stored. -/
def Retained.offerHeld (m : Retained) : List DoubtEntry → Retained × Bool
  | [] => (m, false)
  | e :: es =>
    let (m1, b1) := m.offer e
    let (m2, b2) := m1.offerHeld es
    (m2, b1 || b2)

/-- TAKE RECORDS removes the oldest records, up to the count (R134). -/
def takeCount (n : Nat) : Nat := if n = 0 then 1 else min n 4

/-! ## The close of a context at start-up (R72, R96, R125) -/

/-- The charges of a queue settled RESTART: the head by R63 with the steps it holds, those behind it by R66 (R72). -/
def Context.settleAtStart (c : Context) : Context :=
  match c.queue with
  | [] => c
  | h :: t => t.foldl (fun c _ => c.cancelHead) (c.settleHead (c.credit + h.steps * c.weight))

/-- A context found at start-up: closed when it is OPEN or CLOSING, its BURN a tear; a field left in NONE is cleared
(R96). -/
def Retained.startClose (m : Retained) (cause : EndCause) (p : Pos) : Retained :=
  if (m.ctx p).state = .noCall then m.modCtx p fun c => { c with field := none }
  else ((m.closeTear p).modCtx p Context.settleAtStart).storeCall p cause none

/-- The closes of step 5 at some positions, in ascending order (R125); the end cause is by the restart marker (R161). -/
def Retained.startCloses (m : Retained) (ps : List Pos) : Retained :=
  ps.foldl (fun n p => n.startClose (if m.restartMarker then .restart else .powerLoss) p) m

/-- The positions whose context is OPEN or CLOSING, in ascending order. -/
def Retained.openPositions (m : Retained) : List Pos := positions.filter fun p => (m.ctx p).state ≠ .noCall

end Sys2Proof.Machine
end

