-- ==== Sys2Proof/Machine/Channels.lean ====
section
/-! DEFINITION. The write channel arbiter (chapter Write Channels): requests, grants, releases and withdrawals. A grant and
the begin of sending its order are made within one step (log 11). -/

namespace Sys2Proof.Machine

/-- The position holds a channel. -/
def State.holds (s : State) (p : Pos) : Bool := s.arbiter.held.any fun h => h.position = p

/-- The position has a request in the waiting list. -/
def State.waits (s : State) (p : Pos) : Bool := s.arbiter.waiting.any fun r => r.position = p

/-- The write order a position has to send next: the RESTAGE of latch completion while it is being identified (R45), the
write awaited by the step in progress during a call (R80). -/
def State.wanted (s : State) (p : Pos) : Option WriteRequest :=
  let u := s.unit p
  match u.line.state with
  | .identifying =>
    match u.seq.bind (·.tally) with
    | some t =>
      if t.latch = 0 then none
      else some { position := p, kind := .restage, stage := t.latch, requester := .identificationUnit }
    | none => none
  | .inCall =>
    match u.work.bind (·.step) with
    | some st => some { position := p, kind := st.awaited, stage := st.stage, requester := .chargeProcessor }
    | none => none
  | _ => none

/-- The tally before a granted write: the card image for a charge step, the tally read for latch completion (R82, R100). -/
def State.tallyBefore (s : State) (r : WriteRequest) : Option Tally :=
  match r.requester with
  | .chargeProcessor => (s.ctx r.position).image.map (·.tally)
  | .identificationUnit => (s.unit r.position).seq.bind (·.tally)

/-- A send is counted as its order frame begins (R106); with its first send the step has begun (R80). -/
def Step.countSend (t : Step) : Step := { t with sends := t.sends + 1, begun := true }

def Position.countSend (r : Requester) (u : Position) : Position :=
  match r with
  | .chargeProcessor => { u with work := u.work.map fun w => { w with step := w.step.map Step.countSend } }
  | .identificationUnit => { u with seq := u.seq.map fun q => { q with sends := q.sends + 1 } }

/-- The effect of a grant, its request already out of the list (R100): given up, with a WAKE, when the contacts are no
longer POWERED; else the channel is held, the in-flight-write field is written, and the order is sent. -/
def State.grantTo (s : State) (r : WriteRequest) : State :=
  let p := r.position
  if (s.line p).contact ≠ .powered then s.beginWake p .first .wakeRequest
  else
    match s.tallyBefore r with
    | none => s
    | some t =>
      let a : Arbiter := { s.arbiter with held := s.arbiter.held ++ [{ position := p, kind := r.kind, stage := r.stage }] }
      let s1 : State := { s with arbiter := a }
      let s2 := s1.modCtx p fun (c : Context) => { c with field := some { kind := r.kind, stage := r.stage, before := t } }
      (s2.modUnit p (Position.countSend r.requester)).beginOrder p r.kind.order r.stage .first .write

/-- A channel is free, a request waits, and grants are made (R99). -/
def Arbiter.canGrant (a : Arbiter) : Bool := a.granting && a.held.length < Config.channels

/-- Grants are made, oldest request first, until no channel is free or no request waits (R99); `n` bounds the requests
looked at. -/
def State.grantLoop : Nat → State → State
  | 0, s => s
  | n + 1, s =>
    match s.arbiter.waiting with
    | [] => s
    | r :: rest =>
      if s.arbiter.canGrant then
        let s1 : State := { s with arbiter := { s.arbiter with waiting := rest } }
        State.grantLoop n (s1.grantTo r)
      else s

def State.grantAll (s : State) : State := s.grantLoop s.arbiter.waiting.length

/-- A request joins the tail of the waiting list (R98); the rest count stops (R24). -/
def State.joinWaiting (s : State) (r : WriteRequest) : State :=
  let s1 : State := { s with arbiter := { s.arbiter with waiting := s.arbiter.waiting ++ [r] } }
  s1.modLine r.position fun l => { l with rest := none }

/-- A position asks for a channel for the write it has to send (R98), a WAKE going first when the contacts are not POWERED
(R25, R83). Nothing is entered while a reset or a CONFIGURE waits there or a RESTART is pending (R108, R110). -/
def State.requestWrite (s : State) (p : Pos) : State :=
  match s.wanted p with
  | none => s
  | some r =>
    if !s.mayBegin p || (s.line p).order.isSome || s.waits p || s.holds p then s
    else if (s.line p).contact ≠ .powered then s.beginWake p .first .wakeRequest
    else (s.joinWaiting r).grantAll

/-- The position's waiting request leaves the list (R102). -/
def State.withdraw (s : State) (p : Pos) : State :=
  { s with arbiter := { s.arbiter with waiting := s.arbiter.waiting.filter fun r => r.position ≠ p } }

/-- The position's channel becomes FREE, and the next grant is sought (R101). -/
def State.release (s : State) (p : Pos) : State :=
  if s.holds p then
    let s1 : State := { s with arbiter := { s.arbiter with held := s.arbiter.held.filter fun h => h.position ≠ p } }
    s1.grantAll
  else s

/-- The in-flight-write field of a position is cleared (R82). -/
def State.clearField (s : State) (p : Pos) : State := s.modCtx p fun c => { c with field := none }

/-- A write order granted and not yet sent (R100). -/
def LineUnit.unsent (l : LineUnit) : Bool :=
  match l.order with
  | some o => o.purpose = .write && !o.begun
  | none => false

/-- A write order granted and not yet sent is dropped: field cleared, channel released (R20, R100). -/
def State.dropUnsent (s : State) (p : Pos) : State :=
  if (s.line p).unsent then ((s.endOrder p).clearField p).release p else s

end Sys2Proof.Machine
end

