-- ==== Sys2Proof/Machine/Calls.lean ====
section
/-! DEFINITION. The call table and the charge processor (chapters Unit Arithmetic and Calls and Charges): the working of the
head charge, settlements and their replies, and the close procedure. -/

namespace Sys2Proof.Machine

/-! ## Warnings and replies -/

/-- The LOW comparison (R69). -/
def State.lowCompare (s : State) (p : Pos) : State :=
  let c := s.ctx p
  if c.threshold ≠ 0 ∧ c.value < c.threshold ∧ c.warned = false then
    (s.modCtx p fun c => { c with warned := true }).raise p .low
  else s

/-- The CHARGE reply of a charge that has been settled (R67). -/
def State.replyCharge (s : State) (p : Pos) (h : Charge) (o : ChargeOutcome) (covered : Nat) (failing : Option Location) :
    State :=
  let c := s.ctx p
  s.answerAt p 0x31#8 h.tag
    (.charge { outcome := o, covered := covered, uncovered := h.pulses - covered, steps := h.steps, balance := c.balance,
               credit := c.credit, failing := failing })

def State.clearWork (s : State) (p : Pos) : State := s.modUnit p fun u => { u with work := none }

/-- A RESET POSITION waits at the position (R33). -/
def Position.resetWaits (u : Position) : Bool :=
  match u.wait with
  | some (.reset _) => true
  | _ => false

/-! ## The rest count (R24) -/

/-- The conditions under which the rest count runs (R24). -/
def State.restRuns (s : State) (p : Pos) : Bool :=
  let l := s.line p
  (l.state = .ready || l.state = .inCall) && l.contact = .powered && l.order.isNone && !s.waits p && (s.ctx p).queue = []

/-- The rest count starts afresh where its conditions hold again (R24). -/
def State.startRest (s : State) (p : Pos) : State :=
  if s.restRuns p ∧ (s.line p).rest = none then
    s.modLine p fun l => { l with rest := some { target := s.working.idle, elapsed := 0 } }
  else s

/-! ## Settlement -/

/-- The head charge has ended its own working: settled DONE or EXHAUSTED, in the order of R79. -/
def State.settleOwn (s : State) (p : Pos) : State :=
  match (s.ctx p).queue, (s.unit p).work with
  | h :: _, some w =>
    let a := w.available h
    let s1 := (((s.modCtx p fun c => c.settleHead a).clearWork p).lowCompare p)
    if h.steps = w.needed then s1.replyCharge p h .done (min h.pulses a) none
    else (s1.raise p .exhausted).replyCharge p h .exhausted (min h.pulses a) none
  | _, _ => s

/-- The charge at the head of the queue is cut: settled by R63 when it is in work, cancelled by R66 when it is not; its
reply, then the LOW comparison (R88 steps 2 to 4, log 17). -/
def State.cutHead (s : State) (p : Pos) (o : ChargeOutcome) (failing : Option Location) : State :=
  match (s.ctx p).queue with
  | [] => s
  | h :: _ =>
    match (s.unit p).work with
    | some w =>
      let a := w.available h
      ((((s.modCtx p fun c => c.settleHead a).clearWork p).replyCharge p h o (min h.pulses a) failing).lowCompare p)
    | none => ((s.modCtx p Context.cancelHead).replyCharge p h o 0 failing).lowCompare p

/-- Every charge of the queue is cut, in queue order (R88); `n` bounds them. -/
def State.cutAll : Nat → State → Pos → ChargeOutcome → Option Location → State
  | 0, s, _, _, _ => s
  | n + 1, s, p, o, failing => State.cutAll n (s.cutHead p o failing) p o failing

/-- The charges behind the head are settled CUT, in queue order (R85); `n` bounds them. -/
def State.cutBehind : Nat → State → Pos → State
  | 0, s, _ => s
  | n + 1, s, p =>
    match (s.ctx p).queue with
    | _ :: x :: _ => State.cutBehind n (((s.modCtx p Context.cancelSecond).replyCharge p x .cut 0 none).lowCompare p) p
    | _ => s

/-! ## The close procedure (R88) -/

/-- The CLOSEs that wait at a position receive the record of the close (R85, R94). -/
def State.answerCloses (s : State) (p : Pos) (r : CallRecord) : State :=
  let tags := (s.unit p).closes
  tags.foldl (fun s tag => s.answerAt p 0x32#8 tag (.record r)) (s.modUnit p fun u => { u with closes := [] })

/-- The close of a call with an end cause: tear, head, waiting charges, forfeited credit, record, context, flag and reply
(R88, R89, R132, R136). -/
def State.closeCall (s : State) (p : Pos) (cause : EndCause) (failing : Option Location) : State :=
  if (s.ctx p).state = .noCall then s
  else
    let s1 := (s.modRetained fun m => m.closeTear p).cutAll (s.ctx p).queue.length p cause.outcome failing
    let r := s1.retained.callRecord p cause failing
    let s2 := ((s1.modRetained fun m => m.storeCall p cause failing).clearWork p).raisePart .recordsWaiting
    let s3 := if cause.raisesClosed then s2.raise p .closed else s2
    s3.answerCloses p r

/-- The call of a CLOSING context is to be completed: no charge is left in its queue (R87). -/
def Context.completionDue (c : Context) : Bool := c.state = .closing && c.queue = []

/-- The call is completed with end cause REQUESTED; the position returns to READY (R87). -/
def State.completeRequested (s : State) (p : Pos) : State :=
  (((s.closeCall p .requested none).modLine p fun l => { l with state := .ready }).startRest p)

/-- A completion that is due is made first (log 12). -/
def State.completeIfDue (s : State) (p : Pos) : State :=
  if s.running ∧ (s.ctx p).completionDue then s.completeRequested p else s

/-! ## Working the head charge (R58, R62, R79, R80) -/

/-- The form of the next unit step, from a card image that shows no latch (R58). -/
def Image.nextStep (i : Image) : Option Step :=
  if i.tally.latch = 0 then (stepStage i.tally.digits).map Step.start else none

/-- The charge processor begins a unit step: its form from the card image, then the request for its first write (R58). -/
def State.beginStep (s : State) (p : Pos) : State :=
  match (s.ctx p).image.bind Image.nextStep with
  | none => s
  | some t => (s.modUnit p fun u => { u with work := u.work.map fun w => { w with step := some t } }).requestWrite p

/-- The head is taken into work where the context is OPEN and no reset waits (R79); a head with no step planned is settled
at once (R62), and the next one becomes the head. While a RESTART still has its closes to make it is left in work, for the
close by RESTART to settle with its call (R153, log 14); after them a charge is taken as usual (R162). `n` bounds the charges
looked at. -/
def State.workQueue : Nat → State → Pos → State
  | 0, s, _ => s
  | n + 1, s, p =>
    match (s.ctx p).queue with
    | [] => s
    | h :: _ =>
      if (s.ctx p).state = .openCall ∧ (s.unit p).resetWaits = false ∧ (s.unit p).work = none then
        let w := planCharge (s.ctx p) h
        let s1 := s.modUnit p fun u => { u with work := some w }
        if w.planned ≠ 0 then s1.beginStep p
        else if s.restart ≠ .settling then State.workQueue n (s1.settleOwn p) p
        else s1
      else s

/-- The head goes on after a write of it has been settled or its WAKE answered: the write awaited, the next step, or its
settlement (R62, R80); while the call is closing only a RESTAGE is sent, and else the head is settled CUT (R86). Nothing
goes on while a reset waits or a RESTART is pending (R108): a closing head whose WAKE is answered then is left for the close
by RESTART, the model's choice (log 47). -/
def State.continueHead (s : State) (p : Pos) : State :=
  if !s.mayBegin p then s
  else
    match (s.ctx p).queue, (s.unit p).work with
    | h :: _, some w =>
      match (s.ctx p).state, w.step with
      | .openCall, some _ => s.requestWrite p
      | .openCall, none =>
        if h.steps < w.planned then s.beginStep p else (s.settleOwn p).workQueue Config.chargesPerPosition p
      | .closing, some st => if st.awaited = .restage then s.requestWrite p else s.cutHead p .cut none
      | .closing, none => s.cutHead p .cut none
      | .noCall, _ => s
    | _, _ => s

end Sys2Proof.Machine
end

