-- ==== Sys2Proof/Machine/Faults.lean ====
section
/-! DEFINITION. Entry to FAULTED (R31, R32) and the failed attempt of an order (R26, R28, R29). -/

namespace Sys2Proof.Machine

/-- What an identification leaves when it ends short of READY: no sequence record, no held terms, and no in-flight-write
field (R36, R82). -/
def State.dropSequence (s : State) (p : Pos) : State :=
  (s.modUnit p fun u => { u with seq := none, terms := none }).clearField p

/-- The line unit's part of an entry to FAULTED (R31, R32). -/
def LineUnit.faulted (c : FaultCause) (failing : Option Location) (l : LineUnit) : LineUnit :=
  { l with state := .faulted, cause := some c.cause, failing := if c = .cardFault then failing else none, order := none,
           rest := none, checkLatch := l.checkLatch || c = .lineFault }

/-- The position enters FAULTED (R31). Its identification ends, or its call is closed with the same cause (R36, R91). A
position whose check latch is set stays as it is (R32). -/
def State.enterFaulted (s : State) (p : Pos) (c : FaultCause) (failing : Option Location) : State :=
  let l := s.line p
  if l.state = .faulted ∧ l.checkLatch = true then s
  else
    let s1 := (((s.contactOff p .unpowered).modLine p (LineUnit.faulted c failing)).raise p c.flag)
    match l.state with
    | .identifying => s1.dropSequence p
    | .inCall => s1.closeCall p c.endCause failing
    | _ => s1

/-- A line failure (R28). -/
def State.lineFailure (s : State) (p : Pos) : State := s.enterFaulted p .lineFault none

/-- An order has failed its attempt, by timeout, bad answer frame or malformed answer: a read or a WAKE is sent again once,
and fails the line at its retry (R28); a write is over on the line and is followed by its verify read (R29). While a RESTART
is pending a retry goes out as usual, a WAKE in front of it where a blink left the contacts at REST: the model's choice
(log 46). -/
def State.attemptFailed (s : State) (p : Pos) (o : Order) : State :=
  match o.purpose with
  | .write => ((s.endOrder p).release p).sendRead p .verify .first
  | .firstWake => if o.retry then s.lineFailure p else s.beginWake p (.retry o.timeout) .firstWake
  | .read r => if o.retry then s.lineFailure p else s.sendRead p r (.retry o.timeout)
  | .wakeRead r a => if o.retry then s.lineFailure p else s.beginWake p (.retry o.timeout) (.wakeRead r a)
  | .wakeRequest => if o.retry then s.lineFailure p else s.beginWake p (.retry o.timeout) .wakeRequest
  | .test => s

end Sys2Proof.Machine
end

