-- ==== Sys2Proof/Machine/Identify.lean ====
section
/-! DEFINITION. The identification unit's sequence (chapter Identification): its beginning, its eleven steps, its ends. -/

namespace Sys2Proof.Machine

/-! ## Beginning and refusal (R36) -/

/-- The position enters IDENTIFYING: what it held of a card before is given up and the sequence record stands at step 1
(R17, R36, R74). -/
def Position.identifying (u : Position) : Position :=
  { u with
    line := { u.line with state := .identifying, cause := none, shownId := none, shownTally := none, failing := none,
                          order := none, checkLatch := false }
    seq := some { step := 1, reread := false, header := none, tally := none, sends := 0 }
    terms := none
    held := none
    inForce := false }

/-- A sequence begins: contacts UNPOWERED, then the WAKE of step 1 (R23, R36, R37), where a new order may begin. -/
def State.beginIdentification (s : State) (p : Pos) : State :=
  let s1 := (s.contactOff p .unpowered).modUnit p Position.identifying
  if s1.mayBegin p then s1.beginWake p .first .firstWake else s1

/-- An insertion acted on (R18, R21, R22). -/
def State.insert (s : State) (p : Pos) : State := (s.beginIdentification p).raise p .inserted

/-- The position goes REJECTED: its shown identity stays (R36, R43, R74). -/
def Position.rejected (c : Cause) (u : Position) : Position :=
  { u with
    line := { u.line with state := .rejected, cause := some c, order := none }
    seq := none
    terms := none
    held := none
    inForce := false }

/-- A step refuses the card (R36), or OPEN finds it blocked (R57). -/
def State.reject (s : State) (p : Pos) (c : Cause) : State :=
  (((s.contactOff p .unpowered).modUnit p (Position.rejected c)).raise p .rejected)

/-! ## Steps 2 to 6 (R38 to R43) -/

/-- Retries in effect: burn retries, at most 3 (R39). -/
def retriesInEffect (n : Nat) : Nat := min n Config.retriesMax

/-- The LOADED entry that holds a series code (R39, R51). -/
def seriesEntry (t : Vector (Option SeriesFields) 16) (code : Half) : Option SeriesFields :=
  (t.toList.filterMap id).find? fun e => e.code = code

/-- An entry's values lie in their valid ranges (R39). -/
def SeriesFields.valid (e : SeriesFields) : Bool :=
  1 ≤ e.weight.toNat && e.weight.toNat ≤ 100 && 1 ≤ e.maxIssued.toNat && e.maxIssued.toNat ≤ 4095

def SeriesFields.terms (e : SeriesFields) : Terms :=
  { weight := e.weight.toNat, retries := retriesInEffect e.retries.toNat, maxIssued := e.maxIssued.toNat }

/-- Step 3: the held series terms, or the cause of refusal (R39). -/
def seriesTerms (t : Vector (Option SeriesFields) 16) (code : Half) : Except Cause Terms :=
  match seriesEntry t code with
  | none => .error .seriesUnknown
  | some e => if !e.accepting then .error .withdrawn else if !e.valid then .error .seriesInvalid else .ok e.terms

/-- The identity stands in the present-card set for another position (R42). -/
def State.heldElsewhere (s : State) (p : Pos) (i : Identity) : Bool :=
  positions.any fun q => q ≠ p && (s.unit q).held = some i

/-- Steps 4 to 6: the cause of refusal, if any, in their order (R40 to R42). -/
def State.cardRefused (s : State) (p : Pos) (h : Header) (t : Terms) : Option Cause :=
  if h.issued.toNat = 0 ∨ t.maxIssued < h.issued.toNat then some .overIssue
  else if blocked s.working.blocks h.id then some .blocked
  else if s.heldElsewhere p h.id then some .duplicate
  else none

/-- Step 7 follows: the identity is in the set, the terms are held, and READ TALLY is sent (R39, R42, R44). -/
def Position.accepted (h : Header) (t : Terms) (u : Position) : Position :=
  { u with held := some h.id, terms := some t, seq := u.seq.map fun q => { q with step := 7 } }

/-- Steps 3 to 6 on a good header (R39 to R42). -/
def State.checkCard (s : State) (p : Pos) (h : Header) : State :=
  match seriesTerms s.working.series h.id.series with
  | .error c => s.reject p c
  | .ok t =>
    match s.cardRefused p h t with
    | some c => s.reject p c
    | none => (s.modUnit p (Position.accepted h t)).nextRead p

/-- A good header is recorded and its identity shown (R38). -/
def Position.headerRead (h : Header) (u : Position) : Position :=
  { u with line := { u.line with shownId := some h.id }, seq := u.seq.map fun q => { q with header := some h } }

/-- Step 2 answered: the header is taken, or read once more (R38). While a RESTART is pending the steps that need no order are
taken as usual: the model's choice (log 44). -/
def State.headerAnswered (s : State) (p : Pos) (h : Header) : State :=
  if Header.checkGood h then (s.modUnit p (Position.headerRead h)).checkCard p h
  else if ((s.unit p).seq.map Sequence.reread).getD true then s.reject p .header
  else (s.modUnit p fun u => { u with seq := u.seq.map fun q => { q with reread := true } }).nextRead p

/-! ## Steps 8 to 11 (R44 to R48) -/

/-- The position goes READY (R48): the sequence record is discarded and the image is in force. -/
def Position.ready (u : Position) : Position :=
  { u with line := { u.line with state := .ready }, seq := none, inForce := true }

/-- Step 11: the card image is written and the position is READY (R48). Contacts that a blink left at REST stay there
(R23, R25, log 35). -/
def State.storeImage (s : State) (p : Pos) (h : Header) (t : Tally) : State :=
  ((((s.modCtx p fun c => { c with image := some { header := h, tally := t } }).modUnit p Position.ready).raise p
    .identified).startRest p)

/-- Step 10 on the tally read: refused, or step 11 (R47). -/
def State.checkConsumption (s : State) (p : Pos) (h : Header) (t : Tally) : State :=
  if h.issued.toNat < t.consumption then s.reject p .inconsistent
  else if t.consumption = h.issued.toNat then s.reject p .emptyCard
  else s.storeImage p h t

/-- Steps 10 and 11 on what the sequence record holds. -/
def State.finishSequence (s : State) (p : Pos) : State :=
  match (s.unit p).seq.bind (·.header), (s.unit p).seq.bind (·.tally) with
  | some h, some t => s.checkConsumption p h t
  | _, _ => s

/-- The tally read is kept and shown (R44, R46). -/
def Position.tallyRead (t : Tally) (u : Position) : Position :=
  { u with line := { u.line with shownTally := some t }, seq := u.seq.map fun q => { q with tally := some t } }

/-- Step 8: the doubt list resolves a PENDING entry of the identity (R44, R116, R133, R136). -/
def State.resolveDoubt (s : State) (p : Pos) (i : Identity) (t : Tally) : State :=
  let (m, stored) := s.retained.resolve i t p
  let s1 : State := { s with retained := m }
  if stored then s1.raisePart .recordsWaiting else s1

/-- Steps 7 to 9: the tally is kept, a doubt resolved, a latch completed or step 10 taken (R44, R45). While a RESTART is
pending, a tally that is still read takes the steps that need no order as usual, READY included: the model's choice
(log 44). -/
def State.tallyAnswered (s : State) (p : Pos) (t : Tally) : State :=
  let s1 := s.modUnit p (Position.tallyRead t)
  let s2 := match (s1.unit p).seq.bind (·.header) with
    | some h => s1.resolveDoubt p h.id t
    | none => s1
  if t.latch = 0 then s2.finishSequence p
  else (s2.modUnit p fun u => { u with seq := u.seq.map fun q => { q with step := 9, sends := 0 } }).requestWrite p

end Sys2Proof.Machine
end

