-- ==== Sys2Proof/Machine/Writes.lean ====
section
/-! DEFINITION. What follows an answer (R26, R29, R30): the judgement of a verify read (R103 to R107), a refused write, and
the answer to each purpose of an order. -/

namespace Sys2Proof.Machine

/-- The write limit of a position: 1 + retries in effect, of the call during a call and of the held terms before it
(R106). -/
def State.sendLimit (s : State) (p : Pos) : Nat :=
  match (s.line p).state with
  | .inCall => 1 + (s.ctx p).retries
  | _ => 1 + ((s.unit p).terms.map Terms.retries).getD 0

/-- The sends of the write that has just been judged (R106). -/
def State.sends (s : State) (p : Pos) : Nat :=
  match (s.line p).state with
  | .inCall => (((s.unit p).work.bind Work.step).map Step.sends).getD 0
  | _ => ((s.unit p).seq.map Sequence.sends).getD 0

/-- The failing location: stage k, and cell d_k of the last verify read (R107). -/
def failingAt (k : Stage) (t : Tally) : Location := { stage := k, cell := t.digits.get k }

/-- The call table's part of a confirmed write: image, counts and field as one change (R60, R81). -/
def Context.confirm (f : InFlight) (t : Tally) (c : Context) : Context :=
  let c1 : Context := { c.readImage t with field := none }
  match f.kind with
  | .burn => c1.countStep
  | .restage => c1

/-- The step after a confirmed write: a carry's BURN leads to its RESTAGE, with a count of its own (R59, R106); else the
step is complete. -/
def Step.afterConfirm (k : WriteKind) (t : Step) : Option Step :=
  match k with
  | .burn => if t.carry then some { t with awaited := .restage, sends := 0 } else none
  | .restage => none

def Work.afterConfirm (k : WriteKind) (w : Work) : Work := { w with step := w.step.bind (Step.afterConfirm k) }

/-- A judged verify read of a call's write (R81, R86, R105 to R108). A write at its limit of sends is a CARD_FAULT in CLOSING
and during a wait too (log 36). -/
def State.callJudged (s : State) (p : Pos) (f : InFlight) (t : Tally) : State :=
  match judge f t with
  | .confirmed =>
    ((s.modCtx p (Context.confirm f t)).modUnit p fun u => { u with work := u.work.map (Work.afterConfirm f.kind) }).continueHead
      p
  | .unchanged =>
    if s.sends p < s.sendLimit p then (s.clearField p).continueHead p
    else (s.clearField p).enterFaulted p .cardFault (some (failingAt f.stage t))
  | .mismatched => ((s.modCtx p fun c => { c.readImage t with field := none }).enterFaulted p .tallyMismatch none)

/-- A judged verify read of latch completion (R45, R46, R105 to R108): a confirmed one replaces the tally read, and the
sequence goes on where nothing waits for it to end. -/
def State.latchJudged (s : State) (p : Pos) (f : InFlight) (t : Tally) : State :=
  let s1 := (s.clearField p).modLine p fun l => { l with shownTally := some t }
  match judge f t with
  | .confirmed =>
    let s2 := s1.modUnit p (Position.tallyRead t)
    if s2.mayBegin p then s2.finishSequence p else s2
  | .unchanged =>
    if s.sends p < s.sendLimit p then s1.requestWrite p
    else s1.enterFaulted p .cardFault (some (failingAt f.stage t))
  | .mismatched => s1.enterFaulted p .tallyMismatch none

/-- The verify read has been answered (R29, R103, R105). -/
def State.verified (s : State) (p : Pos) (t : Tally) : State :=
  match (s.ctx p).field with
  | none => s
  | some f => if (s.line p).state = .inCall then s.callJudged p f t else s.latchJudged p f t

/-- The card has refused a write (R30): the channel is released, the field cleared, and a READ TALLY begun. -/
def State.writeRefused (s : State) (p : Pos) : State :=
  (((s.endOrder p).clearField p).release p).sendRead p (.refusal (!s.mayBegin p)) .first

/-- The READ TALLY after a refused write has been answered: its tally is the card image of a call, or the shown tally, and
the position is FAULTED TALLY_MISMATCH (R30, R81). -/
def State.refusalRead (s : State) (p : Pos) (t : Tally) : State :=
  let s1 :=
    if (s.line p).state = .inCall then s.modCtx p fun c => c.readImage t
    else s.modLine p fun l => { l with shownTally := some t }
  s1.enterFaulted p .tallyMismatch none

/-- A WAKE in front of a read has been answered 0x5C: the read is sent, unless it is a read of the sequence not yet begun
and nothing new may begin (R22, R25, R33). A retry of it is sent while a RESTART is pending too: the model's choice (log 46). -/
def State.wokenForRead (s : State) (p : Pos) (r : ReadFor) (a : Attempt) : State :=
  if r = .sequence ∧ a = .first ∧ s.mayBegin p = false then s else s.sendRead p r a

/-- A WAKE in front of a write request has been answered 0x5C: the request is made, or a closing head is ended (R83, R86,
R100). -/
def State.wokenForRequest (s : State) (p : Pos) : State :=
  match (s.line p).state with
  | .inCall => s.continueHead p
  | _ => s.requestWrite p

/-- Step 1 is done: step 2 reads the header (R37). -/
def State.firstWoken (s : State) (p : Pos) : State :=
  (s.modUnit p fun u => { u with seq := u.seq.map fun q => { q with step := 2 } }).nextRead p

/-- A well-formed answer to the order in flight, by the order's purpose (R25, R26, R29, R30, R37). -/
def State.answered (s : State) (p : Pos) (o : Order) (a : Answer) : State :=
  let s1 := s.endOrder p
  match o.purpose, a with
  | .firstWake, .code b =>
    if b = Config.answerCode then (s1.contactAwake p).firstWoken p else s1.reject p .unreadable
  | .wakeRead r x, .code b =>
    if b = Config.answerCode then (s1.contactAwake p).wokenForRead p r x else s1.lineFailure p
  | .wakeRequest, .code b =>
    if b = Config.answerCode then (s1.contactAwake p).wokenForRequest p else s1.lineFailure p
  | .write, .done => (s1.release p).sendRead p .verify .first
  | .write, .refused _ => s.writeRefused p
  | .read .sequence, .header h => s1.headerAnswered p h
  | .read .sequence, .tally t => s1.tallyAnswered p t
  | .read .verify, .tally t => s1.verified p t
  | .read (.refusal _), .tally t => s1.refusalRead p t
  | _, _ => s

end Sys2Proof.Machine
end

