-- ==== Sys2Proof/Machine/SelfTest.lean ====
section
/-! DEFINITION. The self-test unit (chapter Self-Test): SELF_TEST, LOOPBACK_RETURN, LOOPBACK_TIMEOUT, ECHO_ANSWER,
ECHO_TIMEOUT. -/

namespace Sys2Proof.Machine

/-! ## The ends of a test -/

/-- A position leaves TESTING for the state it left, OFF or EMPTY (R166). -/
def Position.leaveTest (u : Position) : Position :=
  { u with
    line := { u.line with state := if (u.test.map (·.wasOff)).getD false then .off else .empty, order := none }
    test := none }

/-- A tested position's test has ended; a held insertion is acted on (R21, R166). -/
def State.leaveTest (s : State) (p : Pos) : State :=
  let s1 := s.modUnit p Position.leaveTest
  if (s1.line p).state = .empty ∧ (s1.line p).present = true then s1.insert p else s1

/-- A code says that a line failed (R165). -/
def codeFailed (c : Byte) : Bool := c = 0x01#8 || c = 0x02#8 || c = 0x03#8

/-- The part code (R165). -/
def partCode (codes : List Byte) (storeGood retainedGood : Bool) : Byte :=
  let n := (if codes.any codeFailed then 0x80 else 0) + (if storeGood then 0 else 2) + (if retainedGood then 0 else 4)
  if n = 0 then 0x01#8 else natByte n

/-- The reply is formed once every position has its code (R165). -/
def State.finishTest (s : State) : State :=
  match s.test with
  | none => s
  | some t =>
    if t.codes.toList.all Option.isSome then
      let codes := t.codes.toList.map fun c => c.getD 0#8
      ({ s with test := none } : State).send (.reply 0x52#8 t.tag t.pos (.test (partCode codes t.storeGood t.retainedGood) codes))
    else s

/-- A position's code is fixed (R164, R166). With the last code, a held insertion is acted on, and its notice queued, before
the reply is formed: the model's choice (log 41). -/
def State.fixCode (s : State) (p : Pos) (code : Byte) : State :=
  let s1 : State := { s with test := s.test.map fun t => { t with codes := t.codes.set p.val (some code) p.isLt } }
  (s1.leaveTest p).finishTest

/-! ## Frames of the test (R164) -/

/-- A test frame begins: loopback or echo, with a fresh pattern that differs from `avoid` (log 8). R164 does not say from
when the 5 ms wait for the loopback counts; it counts from the beginning of its frame: the model's choice (log 42). -/
def State.beginTestFrame (s : State) (p : Pos) (k : OrderKind) (a : Attempt) (avoid : Option Quad) : State :=
  let drawn := Config.testPattern s.freeCount
  let pattern := if avoid = some drawn then ~~~drawn else drawn
  let s1 := (s.modUnit p fun u => { u with test := u.test.map fun t => { t with pattern := pattern, earlier := avoid } })
  let s2 := s1.beginOrder p k 0 a .test
  let s3 : State := { s2 with freeCount := s.freeCount + 1 }
  if k = .loopback then s3.modLine p fun l => { l with order := l.order.map fun o => { o with ended := true } } else s3

/-- The echo attempt has failed: a retry with a new pattern, or the code (R164). -/
def State.echoFailed (s : State) (p : Pos) (o : Order) (code : Byte) : State :=
  if o.retry then s.fixCode p code
  else (s.endOrder p).beginTestFrame p .echo (.retry o.timeout) ((s.unit p).test.map (·.pattern))

/-- The test order of a position, of one kind. -/
def State.testOrder (s : State) (p : Pos) (k : OrderKind) : Option Order :=
  (s.line p).order.filter fun o => o.purpose = .test && o.kind = k

/-- What arrives at an echo order (R164, log 18): nothing that matches it, a good echo, or a corrupt one. -/
inductive EchoResult where
  | ignored | passed | corrupt
  deriving DecidableEq, Repr

/-- An echo answer with another pattern: the first attempt's, arriving late at the retry, is discarded (R164, log 29). -/
def echoOther (t : PosTest) (q : Quad) : EchoResult :=
  if q = t.pattern then .passed else if t.earlier = some q then .ignored else .corrupt

/-- What arrives at an echo order, read (R164, R170). An echo answer with a good check whose content is malformed, by its
status or its length, is a corrupt echo: the model's choice (log 43). -/
def readEcho (t : PosTest) (bs : List Byte) : EchoResult :=
  match readLineFrame bs with
  | .noFrame => .ignored
  | .bad => .corrupt
  | .good kind content =>
    if kind ≠ OrderKind.echo.code then .ignored
    else
      match content with
      | status :: rest =>
        match patternOf rest with
        | some q => if status = 0#8 then echoOther t q else .corrupt
        | none => .corrupt
      | [] => .corrupt

/-- The loopback frame came back unchanged (R164, R170). -/
def loopbackGood (t : PosTest) (bs : List Byte) : Bool :=
  readLineFrame bs = .good OrderKind.loopback.code (quadBytes t.pattern)

/-! ## The commands -/

/-- A position of the tested set goes to TESTING and begins its loopback (R163, R164). -/
def State.enterTest (s : State) (p : Pos) : State :=
  (s.modUnit p fun u =>
    { u with
      line := { u.line with state := .testing }
      test := some { wasOff := u.line.state = .off, pattern := 0#32, earlier := none } }).beginTestFrame p .loopback .first none

/-- A position joins the tested set (R163). -/
def State.joinsTest (s : State) (mask : Quad) (p : Pos) : Bool :=
  mask.getLsbD p.val && ((s.line p).state = .empty || (s.line p).state = .off)

/-- SELF TEST is taken (R163, R165). -/
def State.startTest (s : State) (r : Request) (mask : Quad) : State :=
  let codes := Vector.ofFn fun p : Pos => if s.joinsTest mask p then none else some 0x10#8
  let run : TestRun :=
    { mask := mask, codes := codes, storeGood := s.storeCheck, retainedGood := s.retained.check, tag := r.tag, pos := r.pos }
  ((positions.filter (s.joinsTest mask)).foldl State.enterTest { s with test := some run }).finishTest

/-- SELF TEST: refused BUSY while a SAVE or a test runs (R163); left unanswered while a RESTART is pending (R153, R167,
log 27). -/
def State.doSelfTest (s : State) : State :=
  match s.front .selfTest with
  | none => s
  | some r =>
    let s1 := s.takeFront .selfTest
    match r.body with
    | .selfTest mask =>
      if s.save.isSome ∨ s.test.isSome then s1.answer r (.refusal .busy)
      else if s.restart ≠ .none then s1
      else s1.startTest r mask
    | _ => s

/-- SELF_TEST_ABORT: a running test ends with no reply (R167). Held insertions are acted on in ascending order of position,
and before the calls are closed: the model's choice (log 41). -/
def State.abortTest (s : State) : State :=
  let s1 := (positions.filter fun p => (s.line p).state = .testing).foldl State.leaveTest s
  { s1 with test := none }

/-- LOOPBACK_RETURN (R164). Whatever comes back and is not the frame unchanged fails the stage at once, bytes that are no frame
and a good frame of another kind too: the model's choice (log 18). -/
def State.doLoopbackReturn (s : State) (p : Pos) (bs : List Byte) : State :=
  match s.testOrder p .loopback, (s.unit p).test with
  | some _, some t =>
    if loopbackGood t bs then (s.endOrder p).beginTestFrame p .echo .first none else s.fixCode p 0x01#8
  | _, _ => s

/-- LOOPBACK_TIMEOUT (R164). -/
def State.doLoopbackTimeout (s : State) (p : Pos) : State :=
  match s.testOrder p .loopback with
  | some _ => s.fixCode p 0x01#8
  | none => s

/-- ECHO_ANSWER (R164). -/
def State.doEchoAnswer (s : State) (p : Pos) (bs : List Byte) : State :=
  match s.testOrder p .echo, (s.unit p).test with
  | some o, some t =>
    match readEcho t bs with
    | .ignored => s
    | .passed => s.fixCode p 0x00#8
    | .corrupt => s.echoFailed p o 0x03#8
  | _, _ => s

/-- ECHO_TIMEOUT: the echo frame has been sent to its end and no answer came (R164). -/
def State.doEchoTimeout (s : State) (p : Pos) : State :=
  match s.testOrder p .echo with
  | some o => if o.ended then s.echoFailed p o 0x02#8 else s
  | none => s

def execSelfTest (s : State) : Host.Outcome State Fault Refusal := .next s.doSelfTest
def execLoopbackReturn (p : Pos) (bs : List Byte) (s : State) : Host.Outcome State Fault Refusal :=
  .next (s.doLoopbackReturn p bs)
def execLoopbackTimeout (p : Pos) (s : State) : Host.Outcome State Fault Refusal := .next (s.doLoopbackTimeout p)
def execEchoAnswer (p : Pos) (bs : List Byte) (s : State) : Host.Outcome State Fault Refusal := .next (s.doEchoAnswer p bs)
def execEchoTimeout (p : Pos) (s : State) : Host.Outcome State Fault Refusal := .next (s.doEchoTimeout p)

end Sys2Proof.Machine
end

