-- ==== Sys2Proof/Machine/PositionRequests.lean ====
section
/-! DEFINITION. CONFIGURE, CONFIGURE_OUT_OF_SERVICE_ACT, RESET_POSITION and RESET_POSITION_ACT (R22, R33, R34, R148). -/

namespace Sys2Proof.Machine

/-- An order in flight that nothing waits for is abandoned (R19, R33). -/
def State.abandonOrder (s : State) (p : Pos) : State := if (s.line p).awaited then s else s.endOrder p

/-- New work of the position stops: its request is withdrawn, its unsent order dropped, a read that is not awaited
abandoned (R22, R33, R109). -/
def State.stopWork (s : State) (p : Pos) : State := ((s.withdraw p).dropUnsent p).abandonOrder p

/-- What a position holds once it is out of service (R17, R22, R43, R74): its cause stays. -/
def Position.goOff (u : Position) : Position :=
  { u with
    line := { u.line with state := .off, shownId := none, shownTally := none, failing := none, order := none, rest := none,
                          checkLatch := false }
    seq := none
    terms := none
    held := none
    inForce := false }

/-- The position goes OFF (R22, R23, R43). -/
def State.goOff (s : State) (p : Pos) : State :=
  (((s.stopWork p).contactOff p .unpowered).modUnit p Position.goOff).clearField p

/-! ## RESET POSITION -/

/-- A RESET POSITION is taken: refused in TESTING; else the position's new work stops and the reset waits for a write in
progress (R33). A completion that is due is made first (log 12). -/
def State.takeReset (s : State) (p : Pos) (r : Request) : State :=
  if (s.line p).state = .testing then s.answer r (.refusal .state)
  else ((s.completeIfDue p).stopWork p).modUnit p fun u => { u with wait := some (.reset r.tag) }

/-- RESET_POSITION: the line unit takes the oldest request it was given when that is a RESET POSITION and no earlier one
waits at the position (R34). -/
def State.doResetPosition (s : State) (p : Pos) : State :=
  match s.front (.lineUnit (posByte p)), (s.unit p).wait with
  | some r, none =>
    match r.body with
    | .resetPosition => (s.takeFront (.lineUnit (posByte p))).takeReset p r
    | _ => s
  | _, _ => s

/-- What waits at the position may act: no write is awaited, and no self-test holds the line (R22, R33, log 26). -/
def State.mayAct (s : State) (p : Pos) : Bool := !(s.line p).awaited && (s.line p).state ≠ .testing

/-- The effect of a reset by the state it finds (R33, R92). -/
def State.resetEffect (s : State) (p : Pos) : State :=
  match (s.line p).state with
  | .off => s
  | .testing => s
  | .empty => s.modLine p fun l => { l with checkLatch := false }
  | .identifying => s.beginIdentification p
  | .rejected => s.beginIdentification p
  | .ready => s.beginIdentification p
  | .faulted => s.beginIdentification p
  | .inCall => (s.closeCall p .positionReset none).beginIdentification p

def State.clearWait (s : State) (p : Pos) : State := s.modUnit p fun u => { u with wait := none }

/-- The reset acts, without its reply: the wait ends, and the first order of a new sequence may be sent (R33). -/
def State.resetAct (s : State) (p : Pos) : State := (s.clearWait p).resetEffect p

/-- RESET_POSITION_ACT: the reset acts once no write is in progress, and replies (R33). -/
def State.doResetPositionAct (s : State) (p : Pos) : State :=
  match (s.unit p).wait with
  | some (.reset tag) => if s.mayAct p then (s.resetAct p).answerAt p 0x33#8 tag .ok else s
  | _ => s

/-! ## CONFIGURE -/

/-- The settings a CONFIGURE names; none when one names no value of its kind (R148, R169). -/
def settingsOf (i n c : Byte) : Option PosSettings :=
  match yesNoOf i, yesNoOf n, lineClassOf c with
  | some inService, some notify, some lineClass => some { inService := inService, notify := notify, lineClass := lineClass }
  | _, _, _ => none

def State.writeSettings (s : State) (p : Pos) (x : PosSettings) : State :=
  { s with working := { s.working with posns := s.working.posns.set p.val x p.isLt } }

/-- The position comes into service: a card found seated is treated as inserted (R22). -/
def State.comeIntoService (s : State) (p : Pos) : State :=
  if (s.line p).present then s.insert p else s.modLine p fun l => { l with state := .empty }

/-- The in-service change of a CONFIGURE, and its reply when the position has reached its new state; out of service from
IDENTIFYING waits for a write in progress (R22). -/
def State.configured (s : State) (p : Pos) (r : Request) (x : PosSettings) : State :=
  let s1 := s.writeSettings p x
  match (s.line p).state, x.inService with
  | .off, true => (s1.comeIntoService p).answer r .ok
  | .off, false => s1.answer r .ok
  | _, true => s1.answer r .ok
  | _, false =>
    if (s.line p).awaited then (s1.stopWork p).modUnit p fun u => { u with wait := some (.configure r.tag) }
    else (s1.goOff p).answer r .ok

/-- A CONFIGURE is taken (R22, R148): RANGE, then STATE (log 26). -/
def State.takeConfigure (s : State) (p : Pos) (r : Request) (i n c : Byte) : State :=
  match settingsOf i n c with
  | none => s.answer r (.refusal .range)
  | some x =>
    let l := (s.completeIfDue p).line p
    if l.state = .testing ∨ (l.state = .inCall ∧ x.inService = false) then (s.completeIfDue p).answer r (.refusal .state)
    else (s.completeIfDue p).configured p r x

/-- CONFIGURE: as RESET_POSITION (R34). -/
def State.doConfigure (s : State) (p : Pos) : State :=
  match s.front (.lineUnit (posByte p)), (s.unit p).wait with
  | some r, none =>
    match r.body with
    | .configure i n c => (s.takeFront (.lineUnit (posByte p))).takeConfigure p r i n c
    | _ => s
  | _, _ => s

/-- The waiting CONFIGURE takes the position OFF, without its reply (R22). -/
def State.configureAct (s : State) (p : Pos) : State :=
  if (s.line p).state = .off then s.clearWait p else (s.clearWait p).goOff p

/-- CONFIGURE_OUT_OF_SERVICE_ACT (R22). -/
def State.doConfigureAct (s : State) (p : Pos) : State :=
  match (s.unit p).wait with
  | some (.configure tag) => if s.mayAct p then (s.configureAct p).answerAt p 0x12#8 tag .ok else s
  | _ => s

def execConfigure (p : Pos) (s : State) : Host.Outcome State Fault Refusal := .next (s.doConfigure p)
def execConfigureOutOfServiceAct (p : Pos) (s : State) : Host.Outcome State Fault Refusal := .next (s.doConfigureAct p)
def execResetPosition (p : Pos) (s : State) : Host.Outcome State Fault Refusal := .next (s.doResetPosition p)
def execResetPositionAct (p : Pos) (s : State) : Host.Outcome State Fault Refusal := .next (s.doResetPositionAct p)

end Sys2Proof.Machine
end

