-- ==== Sys2Proof/Machine/Restart.lean ====
section
/-! DEFINITION. RESTART, PART_RESTART, POWER_ON, MAIN_SUPPLY_LOSS and the start-up routine (R95, R96, R110, R153, R160 to
R162). -/

namespace Sys2Proof.Machine

/-! ## The closes of a RESTART -/

/-- No write is awaited on any line and no channel is held (R95, R110). -/
def State.writesSettled (s : State) : Bool := positions.all fun p => !(s.line p).awaited

def insertByRank (rank : Pos → Nat) (p : Pos) : List Pos → List Pos
  | [] => [p]
  | q :: qs => if rank p ≤ rank q then p :: q :: qs else q :: insertByRank rank p qs

/-- The positions with an open call, in the order a RESTART closes them: the manual leaves it open (R127, log 9). -/
def State.closeOrder (s : State) : List Pos :=
  s.retained.openPositions.foldr (insertByRank fun p => Config.closeRank s.freeCount p.val) []

/-- READY, with the order in flight given up. -/
def LineUnit.restarting (l : LineUnit) : LineUnit := { l with state := .ready, order := none }

/-- The position of a call closed by a RESTART shows READY until the part restarts; a read in flight is not waited for
(R34, log 13). A WAKE in flight is given up with its contact power, as READY knows no WAKING (R17). The rest count's
conditions may hold again (R24). -/
def State.restartReady (s : State) (p : Pos) : State :=
  if (s.line p).state = .inCall then
    let s1 := s.modLine p LineUnit.restarting
    if (s1.line p).contact = .waking then s1.contactOff p .rest else s1.startRest p
  else s

/-- One call closed with end cause RESTART; a completion that is due is made first (log 12), a RESET POSITION that waits to
act is not: it finds READY (log 13). -/
def State.restartCloseAt (s : State) (p : Pos) : State :=
  if (s.ctx p).completionDue then s.completeRequested p else (s.closeCall p .restart none).restartReady p

/-- RESTART_CLOSE: every open call is closed (R95). -/
def State.restartClose (s : State) : State :=
  let s1 : State := { s with restart := .closed, freeCount := s.freeCount + 1 }
  s.closeOrder.foldl State.restartCloseAt s1

/-- The closes are made when the last write in progress has settled (R95), before a RESET POSITION that waited for that
write acts: the model's choice (log 13). -/
def State.restartSettle (s : State) : State :=
  if s.restart = .settling ∧ s.writesSettled = true then s.restartClose else s

/-! ## Start-up (R161) -/

/-- Step 3: the working settings as start-up takes them (R154). -/
def State.startSettings (s : State) : Settings := if s.storeCheck then s.stored else Settings.defaults

def Unlocked.mode : Unlocked → Mode
  | .openMode => .openMode
  | .keyed => .keyed

/-- Step 2: retained memory as the check word leaves it (R160). -/
def State.startRetained (s : State) : Retained := if s.retained.check then s.retained else Retained.cleared

/-- Step 5 as far as so many closes; the marker is still as it was (R125, R161). -/
def Retained.startSome (m : Retained) (n : Nat) : Retained := m.startCloses (m.openPositions.take n)

/-- Steps 5 and 6: every context closed, the marker cleared (R96, R125, R162). -/
def Retained.started (m : Retained) : Retained := { m.startCloses positions with restartMarker := false }

/-- A seated object as start-up finds it: its contacts are unpowered (R1, R16, log 7). -/
def seatedUnpowered (n : Nat) (x : Seated) : Seated :=
  match x with
  | .card c => .card (cardCut (Config.cutPoint n) c)
  | .other => .other

/-- Step 4, one position (R16). -/
def State.startPosition (s : State) (x : Settings) (p : Pos) : Position :=
  Position.start (x.posns[p.val]'p.isLt).inService ((s.unit p).reader.map (seatedUnpowered (s.freeCount + p.val)))

/-- Steps 1 to 4 (R161): the hold line asserted, retained memory tested, the settings loaded, the blocks at their start. -/
def State.startBlocks (s : State) : State :=
  let x := s.startSettings
  { s with
    powered := true
    units := Vector.ofFn (s.startPosition x)
    retained := s.startRetained
    working := x
    mode := x.unlocked.mode
    save := none
    arbiter := Arbiter.start
    link := { Link.start x.rate with hold := true }
    restart := .none
    starting := some { lost := !s.retained.check, keyChanged := false }
    test := none
    key := { s.key with input := false, settled := false, debounce := some 0 }
    freeCount := s.freeCount + 32 }

def State.raisePartIf (s : State) (b : Bool) (f : PartFlag) : State := if b then s.raisePart f else s

/-- The raisings of step 7 (R136, R154, R157, R160, R161). -/
def State.startRaisings (s : State) (x : StartUp) : State :=
  (((s.raisePartIf (!s.storeCheck) .storeInvalid).raisePartIf x.lost .retainedLost).raisePartIf x.keyChanged
    .keyChanged).raisePartIf (s.retained.records ≠ []) .recordsWaiting

/-- An insertion that start-up has held: its debounce was complete before the end of step 7 (R161). -/
def State.insertionHeld (s : State) (p : Pos) : Bool := (s.line p).state = .empty && (s.line p).present

/-- Steps 5 to 7, and the insertions held until then, acted on in the state R16 gives (R161). Of several, the one at the
lowest position is acted on first, and so its notice is queued first: the model's choice (log 41). -/
def State.startEnd (s : State) : State :=
  match s.starting with
  | none => s
  | some x =>
    let s1 : State :=
      { s with retained := s.retained.started, link := Link.start s.working.rate, restart := .none, starting := none }
    (positions.filter s.insertionHeld).foldl State.insert (s1.startRaisings x)

/-- The start-up routine goes on from step 5: to its end, or to a stop with so many calls more closed (R161, log 23). -/
def State.startOn (s : State) (pause : Option Nat) : State :=
  match pause with
  | some n => s.modRetained fun m => m.startSome n
  | none => s.startEnd

/-- The start-up routine from step 1 (R161). -/
def State.startUp (s : State) (pause : Option Nat) : State := s.startBlocks.startOn pause

/-! ## The commands -/

/-- ARBITER_STOP: granting stops, every request is withdrawn, every unsent order dropped (R110). -/
def State.stopArbiter (s : State) : State :=
  let s1 : State := { s with arbiter := { s.arbiter with waiting := [], granting := false } }
  positions.foldl State.dropUnsent s1

/-- A RESTART is taken (R153, R162, R167). One received before the first was taken is worked as the first: it is answered
OK, and the calls opened since are closed: the model's choice (log 39). -/
def State.takeRestart (s : State) (r : Request) : State :=
  let s1 := (s.answer r .ok).modLink fun l => { l with hold := true }
  let s2 : State := { s1 with restart := .settling }
  (s2.stopArbiter.abortTest).restartSettle

/-- RESTART (R153). Once one is pending no other is received (R140). -/
def State.doRestart (s : State) : State :=
  match s.front .linkPort with
  | some r =>
    match r.body with
    | .restart => (s.takeFront .linkPort).takeRestart r
    | _ => s
  | none => s

/-- PART_RESTART: no write is in progress and no SAVE is writing; the marker is set and the part starts up (R162). -/
def State.doPartRestart (s : State) (pause : Option Nat) : State :=
  if s.restart ≠ .none ∧ s.writesSettled = true ∧ s.save = none then
    let s1 := s.restartSettle
    (s1.modRetained fun m => { m with restartMarker := true }).startUp pause
  else s

/-- POWER_ON: when the supply was off, start-up runs; `kept` says whether the backup cell kept retained memory (R160). A
routine that has stopped goes on (log 23). -/
def State.doPowerOn (s : State) (kept : Bool) (pause : Option Nat) : State :=
  if s.powered = false then (s.modRetained fun m => { m with check := m.check && kept }).startUp pause
  else if s.starting.isSome then s.startOn pause
  else s

/-- What is seated when main supply is lost: a card is cut off at the point given (R13, R14). -/
def seatedCut (point : Nat) (x : Seated) : Seated :=
  match x with
  | .card c => .card (cardCut point c)
  | .other => .other

/-- A position while the supply is off: what is seated, and nothing else (log 5). -/
def State.offPosition (s : State) (points : List Nat) (p : Pos) : Position :=
  let u := Position.start false ((s.unit p).reader.map (seatedCut (points.getD p.val 0)))
  { u with line := { u.line with debounce := none } }

/-- MAIN_SUPPLY_LOSS: volatile state is lost, a SAVE being written and a start-up routine are cut, retained memory is kept
(R156, R160, R161, log 5). -/
def State.doMainSupplyLoss (s : State) (points : List Nat) : State :=
  if s.powered then
    { s with
      powered := false
      units := Vector.ofFn (s.offPosition points)
      working := Settings.defaults
      mode := .openMode
      storeCheck := s.storeCheck && s.save.isNone
      save := none
      arbiter := Arbiter.start
      link := Link.start .b9600
      restart := .none
      starting := none
      test := none
      key := { s.key with input := false, settled := false, debounce := none } }
  else s

def execRestart (s : State) : Host.Outcome State Fault Refusal := .next s.doRestart
def execPartRestart (s : State) (pause : Option Nat := none) : Host.Outcome State Fault Refusal :=
  .next (s.doPartRestart pause)
def execPowerOn (kept : Bool) (s : State) (pause : Option Nat := none) : Host.Outcome State Fault Refusal :=
  .next (s.doPowerOn kept pause)
def execMainSupplyLoss (points : List Nat) (s : State) : Host.Outcome State Fault Refusal := .next (s.doMainSupplyLoss points)

end Sys2Proof.Machine
end

