-- ==== Sys2Proof/Machine/Presence.lean ====
section
/-! DEFINITION. Presence and rest: LOOP_CURRENT_CHANGE, INSERTION, REMOVAL, REST_COUNT_EXPIRY (R18 to R21, R24, R25). -/

namespace Sys2Proof.Machine

/-! ## Loop current -/

/-- The card leaves its contacts, cut off from power; it is kept among the cards drawn (R1, R13, R14, log 21). -/
def drawn (point : Nat) (x : Seated) : List Card :=
  match x with
  | .card c => [cardCut point c]
  | .other => []

/-- The line unit when loop current stops: a running insertion count is set back, the removal count begins (R18, R19). -/
def LineUnit.currentStops (l : LineUnit) : LineUnit := { l with debounce := if l.present then some 0 else none }

/-- The line unit when loop current starts: the insertion count begins, or the removal count ends (R18, R19). -/
def LineUnit.currentStarts (l : LineUnit) : LineUnit := { l with debounce := if l.present then none else some 0 }

/-- A break in loop current that was no removal leaves WAKING or POWERED contacts at REST (R25). -/
def State.blinkEnd (s : State) (p : Pos) : State :=
  let c := (s.line p).contact
  if (s.line p).present = true ∧ (c = .waking ∨ c = .powered) then s.contactOff p .rest else s

/-- What is seated: a new object or a card drawn before, which leaves the list; neither has power before it is seated
(R1). -/
def State.seating (s : State) (x : Seating) : Option (Seated × List Card) :=
  match x with
  | .fresh (.card c) => some (.card { c with power := .unpowered }, s.cardsOut)
  | .fresh .other => some (.other, s.cardsOut)
  | .back i => (s.cardsOut[i]?).map fun c => (.card { c with power := .unpowered }, s.cardsOut.eraseIdx i)

/-- LOOP_CURRENT_CHANGE (R1, R18, R19, R25). With the supply off only the reader changes. -/
def State.doLoopCurrentChange (s : State) (p : Pos) (change : LoopChange) : State :=
  match change, (s.unit p).reader with
  | .stops point, some x =>
    let s1 : State := { s.modUnit p (fun u => { u with reader := none }) with cardsOut := drawn point x ++ s.cardsOut }
    if s.powered then s1.modLine p LineUnit.currentStops else s1
  | .starts y, none =>
    match s.seating y with
    | none => s
    | some (x, out) =>
      let s1 : State := { s.modUnit p (fun u => { u with reader := some x }) with cardsOut := out }
      if s.powered then (s1.blinkEnd p).modLine p LineUnit.currentStarts else s1
  | _, _ => s

/-! ## Insertion -/

/-- INSERTION: the insertion debounce, running, has reached 50 ms (R18, R21). Within start-up it is acted on at the end of
step 7 (R161). One that comes between a removal in a reset's or a CONFIGURE's wait and the act is taken before the act: the
model's choice (log 12). -/
def State.doInsertion (s : State) (p : Pos) : State :=
  let l := s.line p
  if l.present = false ∧ l.debounce.isSome = true then
    let s1 := s.modLine p fun l => { l with present := true, debounce := none }
    if l.state = .empty ∧ s.running = true then s1.insert p else s1
  else s

/-! ## Removal -/

/-- The states in which a removal tears the position down (R19). -/
def PosState.hasCard : PosState → Bool
  | .identifying => true
  | .rejected => true
  | .ready => true
  | .inCall => true
  | .faulted => true
  | .off => false
  | .empty => false
  | .testing => false

/-- What a removal leaves of a position: EMPTY, its cause as it was (R17, R19, R43, R74). -/
def Position.emptied (u : Position) : Position :=
  { u with
    line := { u.line with state := .empty, shownId := none, shownTally := none, failing := none, order := none,
                          checkLatch := false, rest := none }
    seq := none
    terms := none
    held := none
    inForce := false }

/-- The line unit's teardown (R19) and the arbiter's part of it (R101, R102); then the call is closed REMOVED, its BURN in
progress a tear (R90), or a field of latch completion cleared (R82). -/
def State.teardown (s : State) (p : Pos) : State :=
  let was := (s.line p).state
  let s1 := (((s.dropUnsent p).contactOff p .unpowered).modUnit p Position.emptied).raise p .removed
  let s2 := (s1.withdraw p).release p
  if was = .inCall then s2.closeCall p .removed none else s2.clearField p

/-- What waits to act at the position acts before the removal is taken: a completion, a reset or a CONFIGURE that no write
holds up (R34, log 12). The reply of the reset follows the removal (R34). -/
def State.dueFirst (s : State) (p : Pos) : State × Option (Byte × Byte) :=
  let s1 := s.completeIfDue p
  match (s1.unit p).wait with
  | some (.reset tag) => if s1.mayAct p then (s1.resetAct p, some (0x33#8, tag)) else (s1, none)
  | some (.configure tag) => if s1.mayAct p then (s1.configureAct p, some (0x12#8, tag)) else (s1, none)
  | none => (s1, none)

def State.replyIf (s : State) (p : Pos) (r : Option (Byte × Byte)) : State :=
  match r with
  | some (type, tag) => s.answerAt p type tag .ok
  | none => s

/-- The removal itself: presence ABSENT, and the teardown in the states that have a card (R19, R21). -/
def State.removed (s : State) (p : Pos) : State :=
  let s1 := s.modLine p fun l => { l with present := false, debounce := none }
  if (s1.line p).state.hasCard then s1.teardown p else s1

/-- REMOVAL: the removal debounce, running, has reached 20 ms (R19 to R21, R34, R90). -/
def State.doRemoval (s : State) (p : Pos) : State :=
  let l := s.line p
  if l.present = true ∧ l.debounce.isSome = true then
    let (s1, reply) := s.dueFirst p
    ((s1.removed p).replyIf p reply).restartSettle
  else s

/-! ## Rest -/

/-- REST_COUNT_EXPIRY: a running count has reached its idle-to-rest time, which is not 0; contacts go to REST (R24). -/
def State.doRestCountExpiry (s : State) (p : Pos) : State :=
  match (s.line p).rest with
  | some c => if c.target = 0 then s else s.contactOff p .rest
  | none => s

def execLoopCurrentChange (p : Pos) (change : LoopChange) (s : State) : Host.Outcome State Fault Refusal :=
  .next (s.doLoopCurrentChange p change)
def execInsertion (p : Pos) (s : State) : Host.Outcome State Fault Refusal := .next (s.doInsertion p)
def execRemoval (p : Pos) (s : State) : Host.Outcome State Fault Refusal := .next (s.doRemoval p)
def execRestCountExpiry (p : Pos) (s : State) : Host.Outcome State Fault Refusal := .next (s.doRestCountExpiry p)

end Sys2Proof.Machine
end

