-- ==== Sys2Proof/Machine/Orders.lean ====
section
/-! DEFINITION. Orders on the lines: ORDER_FRAME_END, ANSWER_FRAME, ANSWER_TIMEOUT (R2, R26, R27). -/

namespace Sys2Proof.Machine

/-! ## The card's side -/

/-- The frame of the order in flight (R170). -/
def State.orderBytes (s : State) (p : Pos) (o : Order) : List Byte :=
  orderFrame o.kind o.stage (((s.unit p).test.map (·.pattern)).getD 0#32)

/-- What reaches the card at the end of an order frame (R2). -/
def heardBytes (sent : List Byte) : Passage → List Byte
  | .intact => sent
  | .altered bs => bs

/-- The seated card changes; another object has no state (R3). -/
def Seated.onCard (f : Card → Card) : Seated → Seated
  | .card c => .card (f c)
  | .other => .other

def State.modCard (s : State) (p : Pos) (f : Card → Card) : State :=
  s.modUnit p fun u => { u with reader := u.reader.map (Seated.onCard f) }

/-- The answer the seated card sends to the order it works (R2). -/
def State.cardAnswers (s : State) (p : Pos) : Option (List Byte) :=
  match (s.unit p).reader with
  | some (.card c) => cardAnswer c
  | _ => none

/-! ## ORDER_FRAME_END -/

/-- ORDER_FRAME_END: the answer timeout starts, and the card hears the frame (R2, R26, R27). The reader, not the card,
hears an echo order (R164). -/
def State.doOrderFrameEnd (s : State) (p : Pos) (passage : Passage) (takes : Bool) : State :=
  match (s.line p).order with
  | none => s
  | some o =>
    if o.ended then s
    else
      let s1 := s.modLine p fun l => { l with order := some { o with ended := true, elapsed := 0 } }
      if o.purpose = .test then s1 else s1.modCard p (cardHears (heardBytes (s.orderBytes p o) passage) takes)

/-! ## ANSWER_FRAME -/

/-- What arrives on the line, with the card at the end of its order where it is the card's answer (R1, R2); none when the
card has no answer to send. -/
def State.arrives (s : State) (p : Pos) (a : Arrival) : Option (List Byte × State) :=
  match a with
  | .answer => (s.cardAnswers p).map fun bs => (bs, s.modCard p cardFinish)
  | .altered bs => some (bs, s.modCard p cardFinish)
  | .stray bs => some (bs, s)

/-- The bytes are matched to the order in flight, if one of the card's orders is in flight, and taken as R26 gives. -/
def State.takeAnswer (s : State) (p : Pos) (bs : List Byte) : State :=
  match (s.line p).order with
  | none => s
  | some o =>
    if o.purpose = .test then s
    else
      match readLineFrame bs with
      | .noFrame => s
      | .bad => s.attemptFailed p o
      | .good kind content =>
        if kind ≠ o.kind.code then s
        else
          match readAnswer o.kind content with
          | some a => s.answered p o a
          | none => s.attemptFailed p o

/-- ANSWER_FRAME (R26). A card drawn or unpowered answers nothing (R1, R2). -/
def State.doAnswerFrame (s : State) (p : Pos) (a : Arrival) : State :=
  match s.arrives p a with
  | none => s
  | some (bs, s1) => ((s1.takeAnswer p bs).startRest p).restartSettle

/-! ## ANSWER_TIMEOUT -/

/-- ANSWER_TIMEOUT: the frame was sent to its end and no answer came in the order's time; the card, if it works the order, is
through with it by then, and goes on with any other order it works (R2, R15, R26, R27, log 6). -/
def State.doAnswerTimeout (s : State) (p : Pos) : State :=
  match (s.line p).order with
  | none => s
  | some o =>
    if o.purpose = .test ∨ o.ended = false then s
    else (((s.modCard p (cardOrderOver o.kind)).attemptFailed p o).startRest p).restartSettle

def execOrderFrameEnd (p : Pos) (passage : Passage) (takes : Bool) (s : State) : Host.Outcome State Fault Refusal :=
  .next (s.doOrderFrameEnd p passage takes)
def execAnswerFrame (p : Pos) (a : Arrival) (s : State) : Host.Outcome State Fault Refusal := .next (s.doAnswerFrame p a)
def execAnswerTimeout (p : Pos) (s : State) : Host.Outcome State Fault Refusal := .next (s.doAnswerTimeout p)

end Sys2Proof.Machine
end

