-- ==== Sys2Proof/Machine/CallRequests.lean ====
section
/-! DEFINITION. The requests of the call table: OPEN, CHARGE, CLOSE, CLOSE_COMPLETION (R57, R75 to R79, R85 to R87). -/

namespace Sys2Proof.Machine

/-! ## OPEN -/

/-- The record list grants a reservation (R131). -/
def Retained.mayReserve (m : Retained) : Bool := m.room + 1 ≤ Config.openSlots

/-- The context an accepted OPEN writes (R77). -/
def Context.opened (c : Context) (callId : Nat) (i : Image) (t : Terms) (threshold : Nat) : Context :=
  { c with state := .openCall, callId := callId, id := i.header.id, weight := t.weight, retries := t.retries,
           balanceAtOpen := i.shownBalance.toNat, balance := i.shownBalance.toNat, burned := 0, credit := 0, covered := 0,
           uncovered := 0, threshold := threshold, warned := false, mark := .none, field := none, queue := [] }

/-- The call id, the reservation and the context, as one change (R76, R77, R131). -/
def Retained.openCall (m : Retained) (p : Pos) (i : Image) (t : Terms) (threshold : Nat) : Retained :=
  let n := nextNumber 1 m.callCounter
  let m1 : Retained := { m with callCounter := n, reservations := m.reservations ++ [{ position := p, callId := n }] }
  m1.modCtx p fun c => c.opened n i t threshold

/-- OPEN accepted (R77): the context, IN_CALL, the LOW comparison, the reply. -/
def State.openAccepted (s : State) (p : Pos) (r : Request) (i : Image) (t : Terms) (threshold : Nat) : State :=
  let s1 := (((s.modRetained fun m => m.openCall p i t threshold).modLine p fun l => { l with state := .inCall }).lowCompare p)
  let c := s1.ctx p
  s1.answer r (.opened c.callId c.balance c.weight c.value)

/-- What OPEN needs of a READY position: a context in NONE, its image and its held terms (R48, R75, log 30). -/
def State.openReady (s : State) (p : Pos) : Option (Image × Terms) :=
  match (s.line p).state, (s.ctx p).state, (s.ctx p).image, (s.unit p).terms with
  | .ready, .noCall, some i, some t => some (i, t)
  | _, _, _, _ => none

/-- OPEN's checks in order: READY, the block list, a reservation (R57, R75). A balance of 0, which an earlier call on the same
card can leave, is no check of R75, and the call opens with balance at open 0: the model's choice (log 45). -/
def State.takeOpen (s : State) (p : Pos) (r : Request) (threshold : Nat) : State :=
  match s.openReady p with
  | none => s.answer r (.refusal .state)
  | some (i, t) =>
    if blocked s.working.blocks i.header.id then (s.reject p .blocked).answer r (.refusal .blocked)
    else if !s.retained.mayReserve then s.answer r (.refusal .recordsFull)
    else s.openAccepted p r i t threshold

/-- OPEN: the call table takes the oldest request it was given when that is an OPEN (R75, R141). A completion that is due
is made first; a RESET POSITION that waits to act is not, and the OPEN finds the state as it stands: the model's choice
(log 12). -/
def State.doOpen (s : State) : State :=
  match s.front .callTable with
  | none => s
  | some r =>
    match r.body, posOf r.pos with
    | .openCall threshold, some p => ((s.takeFront .callTable).completeIfDue p).takeOpen p r threshold.toNat
    | _, _ => s

/-! ## CHARGE -/

/-- A charge joins the tail of the queue; the rest count stops (R24, R78). -/
def State.joinQueue (s : State) (p : Pos) (h : Charge) : State :=
  (s.modCtx p fun c => { c with queue := c.queue ++ [h] }).modLine p fun l => { l with rest := none }

/-- CHARGE by context and queue (R78); a charge that becomes the head is taken into work (R79). -/
def State.takeCharge (s : State) (p : Pos) (r : Request) (n : Nat) : State :=
  if (s.ctx p).state ≠ .openCall then s.answer r (.refusal .state)
  else if Config.chargesPerPosition ≤ (s.ctx p).queue.length then s.answer r (.refusal .busy)
  else ((s.joinQueue p { tag := r.tag, pulses := n, steps := 0 }).workQueue Config.chargesPerPosition p).startRest p

/-- CHARGE: as OPEN (R78, R141). -/
def State.doCharge (s : State) : State :=
  match s.front .callTable with
  | none => s
  | some r =>
    match r.body, posOf r.pos with
    | .charge n, some p => (s.takeFront .callTable).takeCharge p r n.toNat
    | _, _ => s

/-! ## CLOSE -/

/-- A RESTAGE is due for the head (R86). -/
def Position.restageDue (u : Position) : Bool :=
  match u.work.bind (·.step) with
  | some t => t.awaited = .restage
  | none => false

/-- The head is left to finish (R86): its RESTAGE is due, or an order begun for it is in flight; else it is settled CUT
now. -/
def State.headFinishes (s : State) (p : Pos) : Bool :=
  (s.unit p).restageDue || ((s.line p).order.isSome && !(s.line p).unsent)

/-- What CLOSE does with the head (R86, R87): completed at once when there is none. With the head settled CUT the rest
count's conditions may hold again (R24). -/
def State.closeHead (s : State) (p : Pos) : State :=
  if (s.ctx p).queue = [] then s.completeRequested p
  else if s.headFinishes p then s
  else (((s.withdraw p).dropUnsent p).cutHead p .cut none).startRest p

/-- CLOSE by context (R85): held when a reset waits, else the context goes to CLOSING and the charges behind the head are
settled CUT. -/
def State.takeClose (s : State) (p : Pos) (r : Request) : State :=
  if (s.ctx p).state ≠ .openCall then s.answer r (.refusal .state)
  else
    let s1 := s.modUnit p fun u => { u with closes := u.closes ++ [r.tag] }
    if (s.unit p).resetWaits then s1
    else
      let s2 := s1.modCtx p fun c => { c with state := .closing }
      (s2.cutBehind (s2.ctx p).queue.length p).closeHead p

/-- CLOSE: as OPEN (R85, R141). -/
def State.doClose (s : State) : State :=
  match s.front .callTable with
  | none => s
  | some r =>
    match r.body, posOf r.pos with
    | .close, some p => (s.takeFront .callTable).takeClose p r
    | _, _ => s

/-- CLOSE_COMPLETION: the head has been settled CUT, and the call is completed (R87). -/
def State.doCloseCompletion (s : State) (p : Pos) : State := s.completeIfDue p

def execOpen (s : State) : Host.Outcome State Fault Refusal := .next s.doOpen
def execCharge (s : State) : Host.Outcome State Fault Refusal := .next s.doCharge
def execClose (s : State) : Host.Outcome State Fault Refusal := .next s.doClose
def execCloseCompletion (p : Pos) (s : State) : Host.Outcome State Fault Refusal := .next (s.doCloseCompletion p)

end Sys2Proof.Machine
end

