-- ==== Sys2Proof/Machine/Tables.lean ====
section
/-! DEFINITION. The requests of the identification unit's tables (R51 to R56, R158) and of the record and doubt lists
(R122, R123, R134). -/

namespace Sys2Proof.Machine

/-! ## The protection check -/

/-- The mode in force refuses a guarded request (R158). -/
def State.isGuarded (s : State) : Bool :=
  match s.mode with
  | .openMode => false
  | .keyed => !s.key.input
  | .locked => true

/-- The protection check, then the BUSY test of a SAVE being written (R156, R158). -/
def State.guardRefusal (s : State) : Option ResultCode :=
  if s.isGuarded then some .isProtected else if s.save.isSome then some .busy else none

/-- A guarded request that has its refusal, or goes on to its owner. -/
def State.guarded (s : State) (r : Request) (f : State → State) : State :=
  match s.guardRefusal with
  | some c => s.answer r (.refusal c)
  | none => f s

/-! ## The series table -/

def State.writeSeries (s : State) (i : Fin 16) (e : Option SeriesFields) : State :=
  { s with working := { s.working with series := s.working.series.set i.val e i.isLt } }

def seriesIndex (b : Byte) : Option (Fin 16) := if h : b.toNat < 16 then some ⟨b.toNat, h⟩ else none

/-- Another LOADED entry holds the code (R51). -/
def codeElsewhere (t : Vector (Option SeriesFields) 16) (i : Fin 16) (code : Half) : Bool :=
  (List.finRange 16).any fun j => j ≠ i && (t[j.val]'j.isLt).map SeriesFields.code = some code

/-- SERIES LOAD's table (R51): none when it is refused RANGE; action 0 clears, 1 loads (R169). -/
def seriesLoaded (t : Vector (Option SeriesFields) 16) (i : Fin 16) (action : Byte) (code : Half) (weight : Byte)
    (maxIssued : Half) (retries accepting : Byte) : Option (Option SeriesFields) :=
  if action = 0#8 then some none
  else if action = 1#8 then
    match yesNoOf accepting with
    | none => none
    | some y =>
      if codeElsewhere t i code then none
      else some (some { code := code, weight := weight, maxIssued := maxIssued, retries := retries, accepting := y })
  else none

/-- SERIES_LOAD (R51). -/
def State.doSeriesLoad (s : State) : State :=
  match s.front .identification with
  | none => s
  | some r =>
    match r.body with
    | .seriesLoad index action code weight maxIssued retries accepting =>
      (s.takeFront .identification).guarded r fun s =>
        match seriesIndex index with
        | none => s.answer r (.refusal .range)
        | some i =>
          match seriesLoaded s.working.series i action code weight maxIssued retries accepting with
          | none => s.answer r (.refusal .range)
          | some e => (s.writeSeries i e).answer r .ok
    | _ => s

/-- SERIES_READ (R52). -/
def State.doSeriesRead (s : State) : State :=
  match s.front .identification with
  | none => s
  | some r =>
    match r.body with
    | .seriesRead index =>
      let s1 := s.takeFront .identification
      match seriesIndex index with
      | none => s1.answer r (.refusal .range)
      | some i => s1.answer r (.series index (s.working.series[i.val]'i.isLt))
    | _ => s

/-! ## The block list -/

def State.writeBlocks (s : State) (bs : List Range) : State := { s with working := { s.working with blocks := bs } }

/-- The new list and its count, or TABLE_FULL (R54, R55). -/
def State.blocksChanged (s : State) (r : Request) (bs : Option (List Range)) : State :=
  match bs with
  | none => s.answer r (.refusal .tableFull)
  | some bs => (s.writeBlocks bs).answer r (.count bs.length)

/-- First above last (R54, R55). -/
def Range.empty (x : Range) : Bool := x.last.toNat < x.first.toNat

/-- BLOCK_ADD (R54). -/
def State.doBlockAdd (s : State) : State :=
  match s.front .identification with
  | none => s
  | some r =>
    match r.body with
    | .blockAdd x =>
      (s.takeFront .identification).guarded r fun s =>
        if Range.empty x then s.answer r (.refusal .range) else s.blocksChanged r (addRange s.working.blocks x)
    | _ => s

/-- BLOCK_REMOVE (R55). -/
def State.doBlockRemove (s : State) : State :=
  match s.front .identification with
  | none => s
  | some r =>
    match r.body with
    | .blockRemove x =>
      (s.takeFront .identification).guarded r fun s =>
        if Range.empty x then s.answer r (.refusal .range) else s.blocksChanged r (removeSpan s.working.blocks x)
    | _ => s

/-- BLOCK_CLEAR (R56). -/
def State.doBlockClear (s : State) : State :=
  match s.front .identification with
  | none => s
  | some r =>
    match r.body with
    | .blockClear => (s.takeFront .identification).guarded r fun s => s.blocksChanged r (some [])
    | _ => s

/-- Ranges a BLOCK READ carries (R56). -/
def carriedRanges (bs : List Range) (start : Nat) : List Range := (bs.drop start).take 8

/-- BLOCK_READ (R56). -/
def State.doBlockRead (s : State) : State :=
  match s.front .identification with
  | none => s
  | some r =>
    match r.body with
    | .blockRead start =>
      (s.takeFront .identification).answer r
        (.ranges s.working.blocks.length (carriedRanges s.working.blocks start.toNat))
    | _ => s

/-! ## Records and doubts -/

/-- TAKE RECORDS on retained memory: the records removed, what is left with the held resolutions stored, and whether any
was stored (R120, R134). -/
def Retained.takeRecords (m : Retained) (n : Nat) : List Record × Retained × Bool :=
  let m1 : Retained := { m with records := m.records.drop n }
  let held := m.doubts.filter fun e => e.resolved.isSome
  let (m2, stored) := m1.offerHeld held
  (m.records.take n, m2, stored)

/-- TAKE_RECORDS (R134, R136). -/
def State.doTakeRecords (s : State) : State :=
  match s.front .recordList with
  | none => s
  | some r =>
    match r.body with
    | .takeRecords count =>
      let (carried, m, stored) := s.retained.takeRecords (takeCount count.toNat)
      let s1 : State := { s.takeFront .recordList with retained := m }
      let s2 := if stored then s1.raisePart .recordsWaiting else s1
      s2.answer r (.records m.records.length carried)
    | _ => s

/-- DOUBT_READ (R122). -/
def State.doDoubtRead (s : State) : State :=
  match s.front .doubtList with
  | none => s
  | some r =>
    match r.body with
    | .doubtRead start =>
      (s.takeFront .doubtList).answer r
        (.doubts (s.retained.doubts.filter fun e => e.resolved.isNone).length
          (s.retained.doubts.filter fun e => e.resolved.isSome).length ((s.retained.doubts.drop start.toNat).take 6))
    | _ => s

/-- The doubt list without the PENDING entry of an identity (R123). -/
def Retained.discard (m : Retained) (i : Identity) : Retained :=
  { m with doubts := m.doubts.eraseP fun e => e.id = i && e.resolved.isNone }

/-- DOUBT_DISCARD (R123). -/
def State.doDoubtDiscard (s : State) : State :=
  match s.front .doubtList with
  | none => s
  | some r =>
    match r.body with
    | .doubtDiscard i =>
      let s1 := s.takeFront .doubtList
      if (s.retained.pendingEntry i).isSome then (s1.modRetained fun m => m.discard i).answer r .ok
      else if s.retained.doubts.any fun e => e.id = i then s1.answer r (.refusal .state)
      else s1.answer r (.refusal .notFound)
    | _ => s

def execSeriesLoad (s : State) : Host.Outcome State Fault Refusal := .next s.doSeriesLoad
def execSeriesRead (s : State) : Host.Outcome State Fault Refusal := .next s.doSeriesRead
def execBlockAdd (s : State) : Host.Outcome State Fault Refusal := .next s.doBlockAdd
def execBlockRemove (s : State) : Host.Outcome State Fault Refusal := .next s.doBlockRemove
def execBlockClear (s : State) : Host.Outcome State Fault Refusal := .next s.doBlockClear
def execBlockRead (s : State) : Host.Outcome State Fault Refusal := .next s.doBlockRead
def execTakeRecords (s : State) : Host.Outcome State Fault Refusal := .next s.doTakeRecords
def execDoubtRead (s : State) : Host.Outcome State Fault Refusal := .next s.doDoubtRead
def execDoubtDiscard (s : State) : Host.Outcome State Fault Refusal := .next s.doDoubtDiscard

end Sys2Proof.Machine
end

