-- ==== Sys2Proof/Machine/Store.lean ====
section
/-! DEFINITION. The settings store and the maintenance key: PROTECT, SAVE, SAVE_WRITE_COMPLETE, KEY_INPUT_CHANGE,
KEY_DEBOUNCE_EXPIRY (R155 to R159). -/

namespace Sys2Proof.Machine

/-! ## PROTECT -/

/-- The unlocked mode a PROTECT sets; LOCKED leaves it (R159). -/
def Mode.unlocked : Mode → Option Unlocked
  | .openMode => some .openMode
  | .keyed => some .keyed
  | .locked => none

/-- PROTECT sets the mode in force and, but for LOCKED, the unlocked mode (R159). -/
def State.setMode (s : State) (m : Mode) : State :=
  match m.unlocked with
  | some u => { s with mode := m, working := { s.working with unlocked := u } }
  | none => { s with mode := m }

/-- PROTECT (R159). The modes that refuse it are those of the protection check. -/
def State.takeProtect (s : State) (r : Request) (m : Mode) : State :=
  if m ≠ .locked ∧ s.isGuarded = true then s.answer r (.refusal .isProtected) else (s.setMode m).answer r (.mode m)

def State.doProtect (s : State) : State :=
  match s.front .settings with
  | none => s
  | some r =>
    match r.body with
    | .protect b =>
      match modeOf b with
      | none => (s.takeFront .settings).answer r (.refusal .range)
      | some m => (s.takeFront .settings).takeProtect r m
    | _ => s

/-! ## SAVE -/

/-- The idle-to-rest time after a SAVE: 0xFF leaves it, a value above 60 is taken as 60 (R155, R169). -/
def savedIdle (b : Byte) (now : Nat) : Nat := if b = 0xFF#8 then now else min b.toNat 60

/-- The link rate after a SAVE: 0xFF leaves it; none when it is no rate (R155, R169). -/
def savedRate (b : Byte) (now : Rate) : Option Rate := if b = 0xFF#8 then some now else rateOf b

/-- SAVE accepted: the part settings written, the copy taken, the write begun (R155). -/
def State.beginSave (s : State) (r : Request) (idle : Nat) (rate : Rate) : State :=
  let w : Settings := { s.working with idle := idle, rate := rate }
  { s with working := w, save := some { copy := w, tag := r.tag, pos := r.pos } }

/-- SAVE (R155, R156, R158). -/
def State.doSave (s : State) : State :=
  match s.front .settings with
  | none => s
  | some r =>
    match r.body with
    | .save idle rate =>
      (s.takeFront .settings).guarded r fun s =>
        if s.test.isSome then s.answer r (.refusal .busy)
        else
          match savedRate rate s.working.rate with
          | none => s.answer r (.refusal .range)
          | some x => s.beginSave r (savedIdle idle s.working.idle) x
    | _ => s

/-- SAVE_WRITE_COMPLETE (R155). -/
def State.doSaveWriteComplete (s : State) : State :=
  match s.save with
  | none => s
  | some x =>
    ({ s with stored := x.copy, storeCheck := true, save := none } : State).send
      (.reply 0x51#8 x.tag x.pos (.saved x.copy.idle x.copy.rate))

/-! ## The maintenance key -/

/-- KEY_INPUT_CHANGE: the contact closes or opens; a level that is not the one counted begins its debounce, and so does any
level before the first is settled (R157). -/
def State.doKeyInputChange (s : State) (closed : Bool) : State :=
  if s.key.closed = closed then s
  else
    let k : Key := { s.key with closed := closed }
    let d := if s.powered ∧ (k.settled = false ∨ closed ≠ k.input) then some 0 else none
    { s with key := { k with debounce := d } }

/-- A counted change of the key input raises KEY_CHANGED (R157); one counted within start-up does at step 7 (R161). -/
def State.keyChanged (s : State) : State :=
  match s.starting with
  | some x => { s with starting := some { x with keyChanged := true } }
  | none => s.raisePart .keyChanged

/-- KEY_DEBOUNCE_EXPIRY: the level has held for 50 ms; the first level since start-up raises no flag (R157). -/
def State.doKeyDebounceExpiry (s : State) : State :=
  if s.key.debounce.isSome then
    let changed := s.key.settled && (s.key.closed != s.key.input)
    let s1 : State := { s with key := { s.key with input := s.key.closed, settled := true, debounce := none } }
    if changed then s1.keyChanged else s1
  else s

def execProtect (s : State) : Host.Outcome State Fault Refusal := .next s.doProtect
def execSave (s : State) : Host.Outcome State Fault Refusal := .next s.doSave
def execSaveWriteComplete (s : State) : Host.Outcome State Fault Refusal := .next s.doSaveWriteComplete
def execKeyInputChange (closed : Bool) (s : State) : Host.Outcome State Fault Refusal := .next (s.doKeyInputChange closed)
def execKeyDebounceExpiry (s : State) : Host.Outcome State Fault Refusal := .next s.doKeyDebounceExpiry

end Sys2Proof.Machine
end

