-- ==== Sys2Proof/Machine/LinkPort.lean ====
section
/-! DEFINITION. The link port (chapter The Management Link): FRAME_RECEIVED, FRAME_GAP_TIMEOUT, LENGTH_BYTE_OUT_OF_RANGE,
MESSAGE_TRANSMIT_START, MESSAGE_SENT, STATUS, QUERY, ACKNOWLEDGE. -/

namespace Sys2Proof.Machine

/-! ## Receiving (R138 to R142) -/

/-- The position of a request, by its byte, is OFF. -/
def State.posOff (s : State) (b : Byte) : Bool :=
  match posOf b with
  | some p => (s.line p).state = .off
  | none => false

/-- A request that an OFF position refuses: a position request other than QUERY, CONFIGURE and RESET POSITION, and
ACKNOWLEDGE naming a position (R142, R152). -/
def ReqBody.refusedOff : ReqBody → Bool
  | .openCall _ => true
  | .charge _ => true
  | .close => true
  | .acknowledge _ _ => true
  | _ => false

def ReqBody.isAcknowledge : ReqBody → Bool
  | .acknowledge _ _ => true
  | _ => false

/-- The position byte is out of range for the type (R142). -/
def posRefused (body : ReqBody) (pos : Byte) : Bool :=
  (posOf pos).isNone && (body.isPositionRequest || (body.isAcknowledge && pos ≠ partByte))

/-- The link port's checks after the type and the length (R142). -/
def State.linkRefusal (s : State) (body : ReqBody) (pos : Byte) : Option ResultCode :=
  if posRefused body pos then some .position
  else if body.refusedOff && s.posOff pos then some .state
  else none

/-- A received frame becomes a request, or its refusal joins the outbound queue (R139, R141, R142). -/
def State.dispatch (s : State) (type tag pos : Byte) (payload : List Byte) : State :=
  match requestLength type with
  | none => s.send (.reply type tag pos (.refusal .unknownType))
  | some n =>
    if payload.length + 3 ≠ n then s.send (.reply type tag pos (.refusal .format))
    else
      match requestBody type payload with
      | none => s.send (.reply type tag pos (.refusal .format))
      | some body =>
        match s.linkRefusal body pos with
        | some c => s.send (.reply type tag pos (.refusal c))
        | none => s.modLink fun l => { l with received := l.received ++ [{ tag := tag, pos := pos, body := body }] }

/-- The outstanding count rises; at 16 the hold line is asserted (R139, R140). -/
def Link.countRequest (l : Link) : Link :=
  { l with outstanding := l.outstanding + 1, hold := l.hold || l.outstanding + 1 = Config.outstandingLimit }

/-- A frame that completes while the hold line is asserted is discarded; OVERRUN is raised, but not while a RESTART is
pending (R140, R153). -/
def State.holdDiscard (s : State) : State := if s.restart = .none then s.raisePart .overrun else s

/-- A complete frame: discarded when its check fails or its tag is 0, or for the hold line; else received (R138 to
R140). -/
def State.frameComplete (s : State) (f : LinkFrame) : State :=
  match f.body with
  | type :: tag :: pos :: payload =>
    if !f.checkGood || tag = 0#8 then s
    else if s.link.hold then s.holdDiscard
    else (s.modLink Link.countRequest).dispatch type tag pos payload
  | _ => s

/-- Bytes arrive: the framer gathers them and takes each frame they complete (R138). -/
def State.bytesArrive (s : State) (bs : List Byte) : State :=
  let (framer, frames) := s.link.framer.run bs
  frames.foldl State.frameComplete (s.modLink fun l => { l with framer := framer, gap := 0 })

/-- FRAME_RECEIVED (R138 to R142). Bytes that arrive before step 7 of start-up are not gathered (R161). -/
def State.doFrameReceived (s : State) (bs : List Byte) : State := if s.running then s.bytesArrive bs else s

/-- FRAME_GAP_TIMEOUT: the bytes gathered so far, then the gap; the framer hunts again (R138). -/
def State.doFrameGapTimeout (s : State) (bs : List Byte) : State :=
  if s.running then (s.bytesArrive bs).modLink fun l => { l with framer := .hunting, gap := 0 } else s

/-- LENGTH_BYTE_OUT_OF_RANGE: the length byte after a start byte; the framer drops the frame and hunts at the next byte
(R138). -/
def State.doLengthByteOutOfRange (s : State) (length : Byte) : State :=
  if s.running && !lengthInRange length && (s.link.framer = .started || s.link.framer = .hunting) then
    s.modLink fun l => { l with framer := .hunting, gap := 0 }
  else s

/-! ## Sending (R140, R145) -/

def Message.isReply : Message → Bool
  | .reply _ _ _ _ => true
  | .positionNotice _ => false
  | .partNotice => false

/-- MESSAGE_TRANSMIT_START: the oldest message leaves the queue; a notice's content is fixed now (R145, R151). -/
def State.doMessageTransmitStart (s : State) : State :=
  match s.link.transmitting, s.link.outbound with
  | none, m :: rest =>
    s.modLink fun l =>
      { l with outbound := rest, transmitting := some { frame := s.messageFrame m, isReply := Message.isReply m } }
  | _, _ => s

/-- The hold line after a reply has been sent (R140). -/
def State.holdAfter (s : State) (outstanding : Nat) : Bool :=
  Config.outstandingLimit ≤ outstanding || s.restart ≠ .none || s.starting.isSome

/-- MESSAGE_SENT: for a reply, its request stops being outstanding, and the hold line may be released (R139, R140,
R145). -/
def State.doMessageSent (s : State) : State :=
  match s.link.transmitting with
  | none => s
  | some t =>
    let n := if t.isReply then s.link.outstanding - 1 else s.link.outstanding
    s.modLink fun l => { l with transmitting := none, outstanding := n, hold := s.holdAfter n }

/-! ## Requests the link port answers -/

/-- STATUS (R146). -/
def State.doStatus (s : State) : State :=
  match s.front .linkPort with
  | none => s
  | some r =>
    match r.body with
    | .status => (s.takeFront .linkPort).answer r (.status s.figures)
    | _ => s

/-- QUERY (R147). -/
def State.doQuery (s : State) : State :=
  match s.front .linkPort with
  | none => s
  | some r =>
    match r.body, posOf r.pos with
    | .query, some p => (s.takeFront .linkPort).answer r (.query (s.snapshot p))
    | _, _ => s

/-- ACKNOWLEDGE on the flags its position byte names (R152). -/
def State.takeAcknowledge (s : State) (r : Request) (mask value : Half) : State :=
  match posOf r.pos with
  | some p =>
    let s1 := s.acknowledge p (mask.setWidth 9) (value.setWidth 9)
    s1.answer r (.flags ((s1.unit p).flags.setWidth 16))
  | none =>
    let s1 := s.acknowledgePart (mask.setWidth 5) (value.setWidth 5)
    s1.answer r (.flags (s1.link.flags.setWidth 16))

/-- ACKNOWLEDGE (R152). -/
def State.doAcknowledge (s : State) : State :=
  match s.front .linkPort with
  | none => s
  | some r =>
    match r.body with
    | .acknowledge mask value => (s.takeFront .linkPort).takeAcknowledge r mask value
    | _ => s

def execFrameReceived (bs : List Byte) (s : State) : Host.Outcome State Fault Refusal := .next (s.doFrameReceived bs)
def execFrameGapTimeout (bs : List Byte) (s : State) : Host.Outcome State Fault Refusal := .next (s.doFrameGapTimeout bs)
def execLengthByteOutOfRange (length : Byte) (s : State) : Host.Outcome State Fault Refusal :=
  .next (s.doLengthByteOutOfRange length)
def execMessageTransmitStart (s : State) : Host.Outcome State Fault Refusal := .next s.doMessageTransmitStart
def execMessageSent (s : State) : Host.Outcome State Fault Refusal := .next s.doMessageSent
def execStatus (s : State) : Host.Outcome State Fault Refusal := .next s.doStatus
def execQuery (s : State) : Host.Outcome State Fault Refusal := .next s.doQuery
def execAcknowledge (s : State) : Host.Outcome State Fault Refusal := .next s.doAcknowledge

end Sys2Proof.Machine
end

