-- ==== Sys2Proof/Machine/Time.lean ====
section
/-! DEFINITION. Time: with no command waiting, a step is one millisecond in which every running count goes on, and the
commands of the counts that come to their end join the queue (log 3). -/

namespace Sys2Proof.Machine

/-- The debounce of presence that is running (R18, R19). -/
def LineUnit.debounceMs (l : LineUnit) : Nat := if l.present then Config.removalMs else Config.insertionMs

/-- The rest count's end in milliseconds (R24). -/
def RestCount.limit (c : RestCount) : Nat := c.target * 1000

/-- An order's wait goes on once its frame has ended (R26, R27). -/
def Order.tick (o : Order) : Order := if o.ended then { o with elapsed := countOn o.timeout o.elapsed } else o

def RestCount.tick (c : RestCount) : RestCount := { c with elapsed := countOn c.limit c.elapsed }

def LineUnit.tick (l : LineUnit) : LineUnit :=
  { l with debounce := l.debounce.map (countOn l.debounceMs), order := l.order.map Order.tick,
           rest := l.rest.map RestCount.tick }

/-- The time a card has worked its order, up to its answer time (R15). -/
def Card.tick (c : Card) : Card :=
  match c.power with
  | .working o takes n => { c with power := .working o takes (countOn (cardAnswerMs o) n) }
  | _ => c

def Position.tick (u : Position) : Position :=
  { u with line := u.line.tick, reader := u.reader.map (Seated.onCard Card.tick) }

/-- The gap between two bytes of one frame (R138). -/
def Link.tick (l : Link) : Link := if l.framer = .hunting then l else { l with gap := countOn Config.gapMs l.gap }

def Key.tick (k : Key) : Key := { k with debounce := k.debounce.map (countOn Config.keyMs) }

/-- The command of a presence debounce that ends with this millisecond (R18, R19). -/
def LineUnit.debounceEnds (p : Pos) (l : LineUnit) : List Instr :=
  match l.debounce with
  | some n => if countDue l.debounceMs n then [if l.present then .removal p else .insertion p] else []
  | none => []

def LineUnit.restEnds (p : Pos) (l : LineUnit) : List Instr :=
  match l.rest with
  | some c => if countDue c.limit c.elapsed then [.restCountExpiry p] else []
  | none => []

/-- The timeout command of an order, by its purpose and kind (R27, R164). -/
def Order.timeoutCommand (p : Pos) (o : Order) : Instr :=
  if o.purpose = .test then (if o.kind = .loopback then .loopbackTimeout p else .echoTimeout p) else .answerTimeout p

def LineUnit.orderEnds (p : Pos) (l : LineUnit) : List Instr :=
  match l.order with
  | some o => if o.ended && countDue o.timeout o.elapsed then [o.timeoutCommand p] else []
  | none => []

/-- A card that has not answered before answers at its answer time (R15). -/
def Position.answerEnds (p : Pos) (u : Position) : List Instr :=
  match u.reader with
  | some (.card c) =>
    match c.power with
    | .working o _ n => if countDue (cardAnswerMs o) n then [.answerFrame p .answer] else []
    | _ => []
  | _ => []

def LineUnit.ends (p : Pos) (l : LineUnit) : List Instr := l.debounceEnds p ++ l.restEnds p ++ l.orderEnds p

def Key.ends (k : Key) : List Instr :=
  match k.debounce with
  | some n => if countDue Config.keyMs n then [.keyDebounceExpiry] else []
  | none => []

def Link.ends (l : Link) : List Instr :=
  if l.framer ≠ .hunting ∧ countDue Config.gapMs l.gap = true then [.frameGapTimeout []] else []

/-- The commands that this millisecond brings: by position, its card's answer first, then the key, then the link (log 3). -/
def State.dueCommands (s : State) : List Instr :=
  positions.flatMap (fun p => (s.unit p).answerEnds p ++ (s.line p).ends p) ++ s.key.ends ++ s.link.ends

/-- One millisecond; with the supply off nothing runs. -/
def State.tick (s : State) : State :=
  if s.powered then
    { s with units := s.units.map Position.tick, key := s.key.tick, link := s.link.tick,
             pending := s.pending ++ s.dueCommands }
  else s

end Sys2Proof.Machine
end

