-- ==== Sys2Proof/Machine/Dispatch.lean ====
section
/-! DEFINITION. One arm per command of the part. -/

namespace Sys2Proof.Machine

def exec (i : Instr) (s : State) : Host.Outcome State Fault Refusal :=
  match i with
  | .frameReceived bs => Sys2Proof.Machine.execFrameReceived bs s
  | .frameGapTimeout bs => Sys2Proof.Machine.execFrameGapTimeout bs s
  | .messageTransmitStart => Sys2Proof.Machine.execMessageTransmitStart s
  | .messageSent => Sys2Proof.Machine.execMessageSent s
  | .status => Sys2Proof.Machine.execStatus s
  | .query => Sys2Proof.Machine.execQuery s
  | .configure p => Sys2Proof.Machine.execConfigure p s
  | .configureOutOfServiceAct p => Sys2Proof.Machine.execConfigureOutOfServiceAct p s
  | .acknowledge => Sys2Proof.Machine.execAcknowledge s
  | .seriesLoad => Sys2Proof.Machine.execSeriesLoad s
  | .seriesRead => Sys2Proof.Machine.execSeriesRead s
  | .blockAdd => Sys2Proof.Machine.execBlockAdd s
  | .blockRemove => Sys2Proof.Machine.execBlockRemove s
  | .blockClear => Sys2Proof.Machine.execBlockClear s
  | .blockRead => Sys2Proof.Machine.execBlockRead s
  | .openCall => Sys2Proof.Machine.execOpen s
  | .charge => Sys2Proof.Machine.execCharge s
  | .close => Sys2Proof.Machine.execClose s
  | .closeCompletion p => Sys2Proof.Machine.execCloseCompletion p s
  | .resetPosition p => Sys2Proof.Machine.execResetPosition p s
  | .resetPositionAct p => Sys2Proof.Machine.execResetPositionAct p s
  | .takeRecords => Sys2Proof.Machine.execTakeRecords s
  | .doubtRead => Sys2Proof.Machine.execDoubtRead s
  | .doubtDiscard => Sys2Proof.Machine.execDoubtDiscard s
  | .protect => Sys2Proof.Machine.execProtect s
  | .save => Sys2Proof.Machine.execSave s
  | .saveWriteComplete => Sys2Proof.Machine.execSaveWriteComplete s
  | .selfTest => Sys2Proof.Machine.execSelfTest s
  | .restart => Sys2Proof.Machine.execRestart s
  | .partRestart pause => Sys2Proof.Machine.execPartRestart s pause
  | .loopCurrentChange p change => Sys2Proof.Machine.execLoopCurrentChange p change s
  | .insertion p => Sys2Proof.Machine.execInsertion p s
  | .removal p => Sys2Proof.Machine.execRemoval p s
  | .restCountExpiry p => Sys2Proof.Machine.execRestCountExpiry p s
  | .orderFrameEnd p passage takes => Sys2Proof.Machine.execOrderFrameEnd p passage takes s
  | .answerFrame p a => Sys2Proof.Machine.execAnswerFrame p a s
  | .answerTimeout p => Sys2Proof.Machine.execAnswerTimeout p s
  | .loopbackReturn p bs => Sys2Proof.Machine.execLoopbackReturn p bs s
  | .loopbackTimeout p => Sys2Proof.Machine.execLoopbackTimeout p s
  | .echoAnswer p bs => Sys2Proof.Machine.execEchoAnswer p bs s
  | .echoTimeout p => Sys2Proof.Machine.execEchoTimeout p s
  | .keyInputChange closed => Sys2Proof.Machine.execKeyInputChange closed s
  | .keyDebounceExpiry => Sys2Proof.Machine.execKeyDebounceExpiry s
  | .powerOn kept pause => Sys2Proof.Machine.execPowerOn kept s pause
  | .mainSupplyLoss points => Sys2Proof.Machine.execMainSupplyLoss points s
  | .lengthByteOutOfRange length => Sys2Proof.Machine.execLengthByteOutOfRange length s

end Sys2Proof.Machine
end

