-- ==== Sys2Proof/Safety.lean ====
section
/-! DEFINITION. The laws of the manual that every step keeps, as predicates on a state; what a frame says; the sums that the
arithmetic laws speak of. -/

namespace Sys2Proof.Machine

/-! ## The link (R139, R140, R144) -/

/-- No more than 16 requests are outstanding, and the hold line is asserted exactly at 16, while a RESTART is pending and
until start-up is complete (R139, R140, R161). -/
def State.linkLawful (s : State) : Prop :=
  s.link.outstanding ≤ 16 ∧
    (s.link.hold = true ↔ s.link.outstanding = 16 ∨ s.restart ≠ .none ∨ s.starting.isSome = true)

/-- While the supply is off or start-up is not complete, nothing is outstanding, no RESTART is pending, no order is in
flight, and every position is OFF or EMPTY (R16, R160, R161). -/
def State.quietLawful (s : State) : Prop :=
  s.running = false → s.link.outstanding = 0 ∧ s.restart = .none ∧
    ∀ p, (s.line p).order = none ∧ ((s.line p).state = .off ∨ (s.line p).state = .empty)

def Message.isNotice (m : Message) : Bool := !Message.isReply m

/-- At most one notice for each position, and one part notice, is in the outbound queue (R144, R150). -/
def State.noticesOnce (s : State) : Prop := (s.link.outbound.filter Message.isNotice).Nodup

def optCount {α : Type} (x : Option α) : Nat := if x.isSome then 1 else 0

/-- Requests that wait at one position for their replies: charges queued, CLOSEs held, a RESET POSITION or CONFIGURE. A
charge that start-up finds in retained memory is owed none (R96). -/
def State.owedAt (s : State) (p : Pos) : Nat :=
  (if s.running then (s.ctx p).queue.length else 0) + (s.unit p).closes.length + optCount (s.unit p).wait

/-- Replies that are in the outbound queue or being sent. -/
def Link.repliesOut (l : Link) : Nat :=
  (l.outbound.filter Message.isReply).length + (match l.transmitting with
    | some t => if t.isReply then 1 else 0
    | none => 0)

/-- Every request in the part: not yet taken, waiting for its reply, or its reply not yet sent (R139). -/
def State.requestsHeld (s : State) : Nat :=
  s.link.received.length + (positions.map s.owedAt).sum + optCount s.save + optCount s.test + s.link.repliesOut

/-! ## Write channels (R98) -/

/-- The positions that hold a channel or wait for one. -/
def Arbiter.users (a : Arbiter) : List Pos := a.held.map (·.position) ++ a.waiting.map (·.position)

/-- At most four channels are held, and no position holds or waits twice (R98). -/
def Arbiter.lawful (a : Arbiter) : Prop := a.held.length ≤ 4 ∧ a.users.Nodup

/-- A write order stands on the position's line (R98, R101). -/
def LineUnit.writing (l : LineUnit) : Bool :=
  match l.order with
  | some o => o.purpose = .write
  | none => false

/-- Every position whose line carries a write order holds a channel (R98, R101). -/
def State.writersHold (s : State) : Prop := ∀ p : Pos, (s.line p).writing = true → ∃ h ∈ s.arbiter.held, h.position = p

/-! ## Retained memory (R78, R111, R127, R130) -/

/-- Stored records and reservations keep within 64, and the reservations are those of the open calls, one each (R130). -/
def Retained.roomLawful (m : Retained) : Prop :=
  m.room ≤ 64 ∧ m.reservations.Nodup ∧
    ∀ r : Reservation, r ∈ m.reservations ↔ (m.ctx r.position).state ≠ .noCall ∧ (m.ctx r.position).callId = r.callId

/-- The capacities and counters of retained memory (R76, R111, R127). -/
def Retained.countsLawful (m : Retained) : Prop :=
  m.doubts.length ≤ 48 ∧ m.callCounter ≤ 65535 ∧ m.creationCounter ≤ 65535 ∧ m.seqCounter ≤ 65535

/-- A queue holds at most four charges, and none where no call is open (R78). -/
def Retained.queuesLawful (m : Retained) : Prop :=
  ∀ p : Pos, (m.ctx p).queue.length ≤ 4 ∧ ((m.ctx p).queue ≠ [] → (m.ctx p).state ≠ .noCall)

/-- Weights and retries lie in the ranges of R39, in the held series terms and in every open call. -/
def State.termsLawful (s : State) : Prop :=
  ∀ p : Pos,
    (∀ x, (s.unit p).terms = some x → 1 ≤ x.weight ∧ x.weight ≤ 100 ∧ x.retries ≤ 3) ∧
    ((s.ctx p).state ≠ .noCall → 1 ≤ (s.ctx p).weight ∧ (s.ctx p).weight ≤ 100 ∧ (s.ctx p).retries ≤ 3)

/-! ## Tables (R43, R51, R53) -/

/-- At most 256 ranges, each with its first serial not above its last, in ascending order of series and first serial, and
no two of one series overlapping or adjacent (R53). -/
def blocksCanonical (bs : List Range) : Prop :=
  bs.length ≤ 256 ∧ (∀ r ∈ bs, r.first.toNat ≤ r.last.toNat) ∧
    bs.Pairwise fun a b => a.before b = true ∧ a.touches b = false

/-- LOADED entries are unique by code (R39, R51). -/
def seriesUnique (t : Vector (Option SeriesFields) 16) : Prop :=
  ∀ i j : Fin 16, ∀ a b : SeriesFields, t[i.val]'i.isLt = some a → t[j.val]'j.isLt = some b → a.code = b.code → i = j

def Settings.tablesLawful (x : Settings) : Prop := blocksCanonical x.blocks ∧ seriesUnique x.series

/-- The tables of the working settings, of the store and of a SAVE being written. -/
def State.tablesLawful (s : State) : Prop :=
  s.working.tablesLawful ∧ s.stored.tablesLawful ∧ ∀ x, s.save = some x → x.copy.tablesLawful

/-- No two positions hold the same identity in the present-card set (R43). -/
def State.presentSetLawful (s : State) : Prop :=
  ∀ p q : Pos, ∀ i : Identity, (s.unit p).held = some i → (s.unit q).held = some i → p = q

/-! ## Frames -/

/-- Outside position p, its call context, the outbound queue, the part's flags and the model's count of free values,
nothing has changed: no other position, no other context, no counter, record or doubt, no setting, no channel. -/
def State.sameApartFrom (p : Pos) (s t : State) : Prop :=
  (∀ q, q ≠ p → t.unit q = s.unit q ∧ t.ctx q = s.ctx q) ∧
    t = { s with
          units := t.units
          retained := { s.retained with ctxs := t.retained.ctxs }
          link := { s.link with outbound := t.link.outbound, flags := t.link.flags }
          freeCount := t.freeCount }

/-- The owner has taken its oldest request, and the reply has joined the outbound queue; nothing else has changed. -/
def State.replied (s : State) (o : Owner) (type : Byte) (r : Request) (b : ReplyBody) : State :=
  { s with link := { s.link with
      received := s.link.received.eraseP fun x => x.owner = o
      outbound := s.link.outbound ++ [.reply type r.tag r.pos b] } }

/-- The owner has taken its oldest request, and nothing else has changed. -/
def State.taken (s : State) (o : Owner) : State :=
  { s with link := { s.link with received := s.link.received.eraseP fun x => x.owner = o } }

/-- The notice that a raising of a position flag queues, if any (R150). -/
def State.noticeOf (s : State) (p : Pos) (f : PosFlag) : List Message :=
  if (s.unit p).flags &&& f.bit = 0#9 ∧ (s.posSettings p).notify = true ∧ Message.positionNotice p ∉ s.link.outbound then
    [.positionNotice p]
  else []

/-- The part notice that a raising of a part-wide flag queues, if any (R150). -/
def State.partNoticeOf (s : State) (f : PartFlag) : List Message :=
  if s.link.flags &&& f.bit = 0#5 ∧ Message.partNotice ∉ s.link.outbound then [.partNotice] else []

/-- The pulses that the charge at the head of a position's queue has at its settlement: by R63 when it is in work; the
call's credit when it is not, or when there is none (R63, R66). -/
def State.cutAvailable (s : State) (p : Pos) : Nat :=
  match (s.ctx p).queue, (s.unit p).work with
  | h :: _, some w => w.credit + h.steps * w.weight
  | _, _ => (s.ctx p).credit

/-- The pulses covered when the head is cut: none when it is not in work (R63, R66). -/
def State.cutCovered (s : State) (p : Pos) : Nat :=
  match (s.ctx p).queue, (s.unit p).work with
  | h :: _, some _ => min h.pulses (s.cutAvailable p)
  | _, _ => 0

/-- The replies of the charges of a position that are cut, in queue order: the head by R63, those behind it by R66, each with
the outcome and the failing location given (R67, R88, R107; log 16 on the location behind the head). -/
def State.cutReplies (s : State) (p : Pos) (o : ChargeOutcome) (failing : Option Location) : List Message :=
  let settled (x : Charge) (n : Nat) : Message := .reply 0x31#8 x.tag (posByte p) (.charge {
    outcome := o, covered := n, uncovered := x.pulses - n, steps := x.steps, balance := (s.ctx p).balance
    credit := s.cutAvailable p - s.cutCovered p, failing := failing })
  match (s.ctx p).queue with
  | [] => []
  | h :: behind => settled h (s.cutCovered p) :: behind.map fun x => settled x 0

/-- The figures that the record of a call takes when all its charges are cut: the head is settled by R63 where it is in work,
every other charge by R66, and the credit left is forfeited (R67, R71). -/
def State.cutFigures (s : State) (p : Pos) (r : CallRecord) : Prop :=
  let c := s.ctx p
  let asked := (c.queue.map (·.pulses)).sum
  r.forfeited = s.cutAvailable p - s.cutCovered p ∧
  (c.queue = [] → r.covered = c.covered ∧ r.uncovered = c.uncovered) ∧
  (c.queue ≠ [] → r.uncovered = min (c.uncovered + (asked - s.cutCovered p)) 4294967295) ∧
  (c.queue ≠ [] → (s.unit p).work.isSome = true → r.covered = min (c.covered + s.cutCovered p) 4294967295) ∧
  (c.queue ≠ [] → (s.unit p).work = none → r.covered = c.covered)

/-- The replies of charges that need no step, taken into work one after another with this balance and credit: each DONE when
credit covers it, else EXHAUSTED (R62 to R64, R79). -/
def freeReplies (p : Pos) (balance : Nat) : Nat → List Charge → List Message
  | _, [] => []
  | credit, x :: behind =>
    let rest := credit - min x.pulses credit
    .reply 0x31#8 x.tag (posByte p) (.charge {
      outcome := if x.pulses ≤ credit then .done else .exhausted, covered := min x.pulses credit
      uncovered := x.pulses - credit, steps := 0, balance := balance, credit := rest, failing := none }) ::
      freeReplies p balance rest behind

/-- The replies of the CLOSEs that wait at a position: the record of the close (R85, R94). -/
def State.closeReplies (s : State) (p : Pos) (r : CallRecord) : List Message :=
  (s.unit p).closes.map fun tag => .reply 0x32#8 tag (posByte p) (.record r)

/-- A guarded request, with its owner, its command and its type (R155, R158). -/
def guardedCommand : ReqBody → Option (Owner × Instr × Byte)
  | .seriesLoad _ _ _ _ _ _ _ => some (.identification, .seriesLoad, 0x20#8)
  | .blockAdd _ => some (.identification, .blockAdd, 0x22#8)
  | .blockRemove _ => some (.identification, .blockRemove, 0x23#8)
  | .blockClear => some (.identification, .blockClear, 0x24#8)
  | .save _ _ => some (.settings, .save, 0x51#8)
  | _ => none

/-- The mode in force, with the key, refuses guarded requests (R158). -/
def State.refusesGuarded (s : State) : Prop := s.mode = .locked ∨ (s.mode = .keyed ∧ s.key.input = false)

/-! ## Start-up (R16, R35, R97, R137, R161) -/

/-- A line unit and what the other blocks hold of its position right after start-up (R16, R35, R61, R137). -/
def Position.fresh (u : Position) (inService : Bool) : Prop :=
  u.line.state = (if inService then .empty else .off) ∧ u.line.cause = none ∧ u.line.shownId = none ∧
    u.line.shownTally = none ∧ u.line.failing = none ∧ u.line.present = false ∧ u.line.contact = .unpowered ∧
    u.line.order = none ∧ u.line.checkLatch = false ∧ u.line.rest = none ∧
    u.line.debounce = (if u.reader.isSome then some 0 else none) ∧ u.seq = none ∧ u.terms = none ∧ u.held = none ∧
    u.inForce = false ∧ u.work = none ∧ u.flags = 0#9 ∧ u.closes = [] ∧ u.wait = none ∧ u.test = none

/-- The part after the steps of start-up that set the blocks, from the state s: the settings loaded or the defaults, every
block at its start (R16, R35, R97, R137, R154, R157, R161). -/
def State.blocksStartedFrom (s t : State) : Prop :=
  t.powered = true ∧ t.working = (if s.storeCheck then s.stored else Settings.defaults) ∧
    t.mode = (match t.working.unlocked with | .openMode => .openMode | .keyed => .keyed) ∧
    (∀ p, (t.unit p).fresh (t.posSettings p).inService) ∧
    t.arbiter = { held := [], waiting := [], granting := true } ∧
    t.link.framer = .hunting ∧ t.link.received = [] ∧ t.link.outstanding = 0 ∧ t.link.transmitting = none ∧
    t.link.rate = t.working.rate ∧ t.save = none ∧ t.test = none ∧ t.restart = .none ∧
    t.stored = s.stored ∧ t.storeCheck = s.storeCheck ∧ t.key.input = false

/-- The part right after start-up from the state s: the blocks as above, the hold line released, no call open and the
restart marker clear (R161). -/
def State.startedFrom (s t : State) : Prop :=
  s.blocksStartedFrom t ∧ t.starting = none ∧ t.link.hold = false ∧
    (∀ p, (t.ctx p).state = .noCall ∧ (t.ctx p).field = none) ∧ t.retained.restartMarker = false

/-- Start-up has stopped before its end: the blocks as above, the hold line asserted, no message queued, and the key not
counted as changed (R161). -/
def State.stoppedFrom (s t : State) : Prop :=
  s.blocksStartedFrom t ∧ t.link.hold = true ∧ t.link.outbound = [] ∧ t.link.flags = 0#5

/-! ## Byte layouts (R168, R169) -/

/-- A number in a field of so many bytes, the most significant first (R168). -/
def fieldBytes (width n : Nat) : List Byte := (List.range width).reverse.map fun i => BitVec.ofNat 8 (n / 256 ^ i)

end Sys2Proof.Machine
end

