-- ==== Sys2Proof/Certificates/Slice0/Obligations.lean ====
section
/-! DEFINITION. The statements for the provers, chapter by chapter. -/

open Sys2Proof Sys2Proof.Machine

/-! ## The machine -/

/-- A step runs the command at the front of the queue on the state with the queue's rest. -/
def Obligations.StepRunsFrontCommand : Prop :=
  ∀ (c : Instr) (rest : List Instr) (s : State), s.pending = c :: rest → step s = exec c { s with pending := rest }

/-- Every command answers a next state, and leaves the queue of commands as it found it. That no command stops the machine
is the model's reading (log 28), and that a command which is not due still answers, with nothing changed, is its choice
(log 1). -/
def Obligations.EveryCommandAnswersNext : Prop :=
  ∀ (c : Instr) (s : State), ∃ t, exec c s = .next t ∧ t.pending = s.pending

/-- With no command waiting a step is one millisecond: the model's choice (log 3). Every running count goes on by one, up to
its limit: the debounces to 50 and 20 ms (R18, R19), the rest count to the idle-to-rest time (R24), the wait for an answer
or a test frame to its timeout, from the end of the order's frame (R27, R164; from when a loopback's counts is the model's
choice, log 42), a card's work on an order to its answer time (R15), the key's debounce to 50 ms (R157), the gap within a frame past 20 ms (R138). A count that ends queues its command in
that very millisecond, once, and nothing else is queued. With the supply off nothing runs. -/
def Obligations.IdleStepIsOneMillisecond : Prop :=
  ∀ s : State, s.pending = [] →
    (s.powered = false → step s = .next s) ∧
    (s.powered = true → ∃ t, step s = .next t ∧
      let next (limit n : Nat) : Nat := if n < limit then n + 1 else n
      let answerMs (o : CardOrder) : Nat := match o with
        | .wake => 20
        | .readHead => 4
        | .readTally => 4
        | .burn _ => 8
        | .restage _ => 15
      let expires (p : Pos) (o : Order) : Prop :=
        (s.line p).order = some o ∧ o.ended = true ∧ o.elapsed + 1 = o.timeout
      t = { s with units := t.units, key := { s.key with debounce := s.key.debounce.map (next 50) },
                   link := { s.link with gap := if s.link.framer = .hunting then s.link.gap else next 21 s.link.gap },
                   pending := t.pending } ∧
      (∀ p, t.unit p = { s.unit p with
        line := { s.line p with
          debounce := (s.line p).debounce.map (next (if (s.line p).present then 20 else 50))
          order := (s.line p).order.map fun o =>
            if o.ended then { o with elapsed := next o.timeout o.elapsed } else o
          rest := (s.line p).rest.map fun c => { c with elapsed := next (c.target * 1000) c.elapsed } }
        reader := (s.unit p).reader.map fun x => match x with
          | .card c => .card (match c.power with
            | .working o b n => { c with power := .working o b (next (answerMs o) n) }
            | _ => c)
          | .other => .other }) ∧
      (∀ p,
        (.insertion p ∈ t.pending ↔ (s.line p).present = false ∧ (s.line p).debounce = some 49) ∧
        (.removal p ∈ t.pending ↔ (s.line p).present = true ∧ (s.line p).debounce = some 19) ∧
        (.restCountExpiry p ∈ t.pending ↔ ∃ c, (s.line p).rest = some c ∧ c.elapsed + 1 = c.target * 1000) ∧
        (.answerTimeout p ∈ t.pending ↔ ∃ o, expires p o ∧ o.purpose ≠ .test) ∧
        (.loopbackTimeout p ∈ t.pending ↔ ∃ o, expires p o ∧ o.purpose = .test ∧ o.kind = .loopback) ∧
        (.echoTimeout p ∈ t.pending ↔ ∃ o, expires p o ∧ o.purpose = .test ∧ o.kind ≠ .loopback) ∧
        (.answerFrame p .answer ∈ t.pending ↔ ∃ (c : Card) (o : CardOrder) (b : Bool) (n : Nat),
          (s.unit p).reader = some (.card c) ∧ c.power = .working o b n ∧ n + 1 = answerMs o)) ∧
      (.keyDebounceExpiry ∈ t.pending ↔ s.key.debounce = some 49) ∧
      (.frameGapTimeout [] ∈ t.pending ↔ s.link.framer ≠ .hunting ∧ s.link.gap = 20) ∧
      (∀ i ∈ t.pending, i = .keyDebounceExpiry ∨ i = .frameGapTimeout [] ∨ ∃ p,
        i ∈ [.insertion p, .removal p, .restCountExpiry p, .answerTimeout p, .loopbackTimeout p, .echoTimeout p,
          .answerFrame p .answer]) ∧
      t.pending.Nodup)

/-! ## Start-up and supply -/

/-- The state after reset: the defaults of 10.1, every block at its start, nothing held in retained memory (R16, R35, R61,
R97, R137, R160), and every law of the end of this file obeyed. That reset is the end of a first start-up, whose
STORE_INVALID and RETAINED_LOST queue one part notice, is the model's choice (log 4), and so are the zeros of a context that
holds no call (log 5). -/
def Obligations.ResetState : Prop :=
  State.reset.powered = true ∧ State.reset.mode = .openMode ∧ State.reset.pending = [] ∧
  (∀ i : Fin 16, State.reset.working.series[i.val]'i.isLt = none) ∧ State.reset.working.blocks = [] ∧
  (∀ p, State.reset.posSettings p = { inService := true, notify := true, lineClass := .short }) ∧
  State.reset.working.idle = 3 ∧ State.reset.working.rate = .b9600 ∧ State.reset.working.unlocked = .openMode ∧
  (∀ p, (State.reset.unit p).fresh true) ∧ (∀ p, State.reset.ctx p = Context.cleared) ∧
  State.reset.retained.doubts = [] ∧ State.reset.retained.records = [] ∧ State.reset.retained.reservations = [] ∧
  State.reset.retained.callCounter = 0 ∧ State.reset.retained.creationCounter = 0 ∧
  State.reset.retained.seqCounter = 0 ∧ State.reset.retained.restartMarker = false ∧
  State.reset.arbiter = { held := [], waiting := [], granting := true } ∧
  State.reset.link = { framer := .hunting, gap := 0, received := [], outstanding := 0, outbound := [.partNotice],
                       transmitting := none, hold := false, flags := 0x0C#5, rate := .b9600 } ∧
  State.reset.save = none ∧ State.reset.test = none ∧ State.reset.restart = .none ∧ State.reset.key.input = false ∧
  State.reset.starting = none ∧
  State.reset.linkLawful ∧ State.reset.quietLawful ∧ State.reset.writersHold ∧ State.reset.noticesOnce ∧
  State.reset.requestsHeld ≤ State.reset.link.outstanding ∧
  State.reset.arbiter.lawful ∧ State.reset.retained.roomLawful ∧ State.reset.retained.countsLawful ∧
  State.reset.retained.queuesLawful ∧ State.reset.tablesLawful ∧ State.reset.presentSetLawful ∧
  State.reset.termsLawful

/-- POWER_ON runs the start-up routine when the supply was off (R161): the settings of the store or the defaults, every
block at its start, no call open, retained memory cleared when its check word fails, and the part flags that say so. Where
the world stops the routine in its step 5, the hold line is asserted and no flag is raised; the POWER_ON that goes on raises
KEY_CHANGED for a change of the key counted meanwhile, and acts on the insertions held (R157, R161). In what steps the
routine comes is the model's choice (log 23), and so are the zeros of cleared memory (log 5) and the ascending order of
position in which the insertions held queue their notices (log 41); with the supply on and the routine at its end, POWER_ON
changes nothing (log 1). -/
def Obligations.PowerOnStartsUp : Prop :=
  ∀ (kept : Bool) (s : State),
    (s.powered = true → s.starting = none → ∀ pause, exec (.powerOn kept pause) s = .next s) ∧
    (s.powered = false → ∃ t, exec (.powerOn kept) s = .next t ∧ s.startedFrom t ∧ t.pending = s.pending ∧
      t.cardsOut = s.cardsOut ∧ (∀ p, (t.unit p).reader.isSome = (s.unit p).reader.isSome) ∧
      ((s.retained.check && kept) = false → t.retained = Retained.cleared) ∧
      t.link.flags = (if s.storeCheck then 0#5 else 0x04#5) ||| (if s.retained.check && kept then 0#5 else 0x08#5) |||
        (if t.retained.records = [] then 0#5 else 0x01#5) ∧
      t.link.outbound = if t.link.flags = 0#5 then [] else [.partNotice]) ∧
    (s.powered = false → ∀ n, ∃ t, exec (.powerOn kept (some n)) s = .next t ∧ s.stoppedFrom t ∧
      t.pending = s.pending ∧ t.cardsOut = s.cardsOut ∧
      t.starting = some { lost := !(s.retained.check && kept), keyChanged := false } ∧
      ((s.retained.check && kept) = false → t.retained = Retained.cleared)) ∧
    (∀ x : StartUp, s.powered = true → s.starting = some x → (∀ p, (s.unit p).wait = none) →
      let held (p : Pos) : Bool := (s.line p).state = .empty && (s.line p).present
      ∃ t, exec (.powerOn kept) s = .next t ∧ t.starting = none ∧ t.restart = .none ∧ t.link.hold = false ∧
        t.link.received = [] ∧ t.link.outstanding = 0 ∧ t.link.transmitting = none ∧ t.link.rate = s.working.rate ∧
        t.working = s.working ∧ t.mode = s.mode ∧ t.arbiter = s.arbiter ∧ t.key = s.key ∧ t.pending = s.pending ∧
        t.retained.restartMarker = false ∧ (∀ p, (t.ctx p).state = .noCall ∧ (t.ctx p).field = none) ∧
        t.link.flags = (if s.storeCheck then 0#5 else 0x04#5) ||| (if x.lost then 0x08#5 else 0#5) |||
          (if x.keyChanged then 0x10#5 else 0#5) ||| (if t.retained.records = [] then 0#5 else 0x01#5) ∧
        t.link.outbound = (if t.link.flags = 0#5 then [] else [.partNotice]) ++
          (positions.filter fun p =>
            held p && (s.posSettings p).notify && decide ((s.unit p).flags &&& 0x001#9 = 0#9)).map .positionNotice ∧
        (∀ p, held p = false → t.unit p = s.unit p) ∧
        (∀ p, held p = true → (t.line p).state = .identifying ∧ (t.line p).contact = .waking ∧
          (t.unit p).flags = (s.unit p).flags ||| 0x001#9 ∧
          ∃ o : Order, (t.line p).order = some o ∧ o.kind = .wake ∧ o.purpose = .firstWake ∧ o.begun = true))

/-- PART_RESTART runs the start-up routine when a RESTART is pending, no write is in progress and no SAVE is writing (R95,
R162); stopped in its step 5, the routine leaves the restart marker set and the hold line asserted (R161, log 23). Else
PART_RESTART changes nothing (log 1). What counts as a write in progress includes the READ TALLY after a refusal that came
while the RESTART waited: the model's reading (log 15). -/
def Obligations.PartRestartStartsUp : Prop :=
  ∀ s : State,
    (s.restart ≠ .none → s.writesSettled = true → s.save = none →
      (∃ t, exec .partRestart s = .next t ∧ s.startedFrom t ∧ t.pending = s.pending ∧ t.cardsOut = s.cardsOut ∧
        t.retained.callCounter = (if s.retained.check then s.retained.callCounter else 0)) ∧
      (∀ n, s.retained.check = true → ∃ t, exec (.partRestart (some n)) s = .next t ∧ s.stoppedFrom t ∧
        t.starting = some { lost := false, keyChanged := false } ∧ t.retained.restartMarker = true ∧
        t.pending = s.pending ∧ t.cardsOut = s.cardsOut)) ∧
    (s.restart = .none ∨ s.writesSettled = false ∨ s.save.isSome = true →
      ∀ pause, exec (.partRestart pause) s = .next s)

/-- Start-up closes every call it finds, in ascending order of position, with cause RESTART when the restart marker is set
and POWER_LOSS otherwise (R96, R125). A BURN in the in-flight-write field becomes a PENDING entry while the doubt list has
room, the lower positions taking the slots, and the call is marked JOURNALLED, or else UNJOURNALLED; another field is cleared
(R113, R114, R125). The head is settled by R63 with the steps it holds, those behind it by R66, with no reply, and what is
left of the credit is forfeited (R67, R71, R72); that a head found at start-up is settled as one in work is the model's
reading (log 31). The records take consecutive sequence numbers, each in place of its reservation (R127, R132). Where the
routine stops after so many closes, those calls are closed, the others are as they were, and so is the marker, which the end
of the routine clears (R161, log 23). -/
def Obligations.StartUpClosesEveryCall : Prop :=
  ∀ (s : State) (pause : Option Nat), s.powered = false ∨ s.starting.isSome = true → s.retained.check = true →
    s.retained.countsLawful →
    let found := positions.filter fun p => (s.ctx p).state ≠ .noCall
    let closed := match pause with
      | some n => found.take n
      | none => found
    let torn : List (Pos × InFlight) := closed.filterMap fun p =>
      (s.ctx p).field.bind fun f => if f.kind = .burn then some (p, f) else none
    let entered := torn.take (48 - s.retained.doubts.length)
    ∃ (t : State) (new : List CallRecord), exec (.powerOn true pause) s = .next t ∧
      t.retained.records = s.retained.records ++ new.map .call ∧
      new.map (·.position) = closed ∧
      new.map (·.seq) = (List.range closed.length).map (fun i => (s.retained.seqCounter + i) % 65536) ∧
      t.retained.seqCounter = (s.retained.seqCounter + closed.length) % 65536 ∧
      t.retained.reservations = s.retained.reservations.filter
        (fun x => !(x.position ∈ closed ∧ x.callId = (s.ctx x.position).callId)) ∧
      t.retained.doubts = s.retained.doubts ++ entered.zipIdx.map (fun ((p, f), i) =>
        { creation := (s.retained.creationCounter + 1 + i) % 65536, id := (s.ctx p).id, position := p
          callId := (s.ctx p).callId, stage := f.stage, before := f.before.digits, resolved := none }) ∧
      t.retained.creationCounter = (s.retained.creationCounter + entered.length) % 65536 ∧
      (∀ c ∈ new,
        let x := s.ctx c.position
        let a := match x.queue with
          | [] => x.credit
          | h :: _ => x.credit + h.steps * x.weight
        let n := match x.queue with
          | [] => 0
          | h :: _ => min h.pulses a
        c.cause = (if s.retained.restartMarker then .restart else .powerLoss) ∧
        c.callId = x.callId ∧ c.id = x.id ∧ c.balanceAtOpen = x.balanceAtOpen ∧ c.burned = x.burned ∧
        c.failing = none ∧
        c.mark = (if c.position ∉ torn.map (·.1) then x.mark
          else if c.position ∈ entered.map (·.1) then .journalled else .unjournalled) ∧
        c.forfeited = a - n ∧
        (x.queue = [] → c.covered = x.covered ∧ c.uncovered = x.uncovered) ∧
        (x.queue ≠ [] → c.covered = min (x.covered + n) 4294967295 ∧
          c.uncovered = min (x.uncovered + ((x.queue.map (·.pulses)).sum - n)) 4294967295)) ∧
      (∀ p ∈ closed, (t.ctx p).state = .noCall ∧ (t.ctx p).field = none ∧ (t.ctx p).queue = []) ∧
      (pause = none → t.retained.restartMarker = false ∧ ∀ p, (t.ctx p).state = .noCall ∧ (t.ctx p).field = none) ∧
      (pause ≠ none → t.retained.restartMarker = s.retained.restartMarker ∧ ∀ p, p ∉ closed → t.ctx p = s.ctx p)

/-- MAIN_SUPPLY_LOSS: retained memory and the store are kept, a SAVE being written and a start-up routine are cut, and every
seated card is cut off at the point it had reached (R13, R14, R156, R160, R161). The blank values of what is lost are the
model's choice (log 5), and so is that a loss with the supply off changes nothing (log 1). -/
def Obligations.MainSupplyLossKeepsRetained : Prop :=
  ∀ (points : List Nat) (s : State),
    (s.powered = true → ∃ t, exec (.mainSupplyLoss points) s = .next t ∧ t.powered = false ∧
      t.retained = s.retained ∧ t.stored = s.stored ∧ t.storeCheck = (s.storeCheck && s.save.isNone) ∧
      t.cardsOut = s.cardsOut ∧ t.pending = s.pending ∧ t.link.outbound = [] ∧ t.link.outstanding = 0 ∧
      t.starting = none ∧
      (∀ p c, (s.unit p).reader = some (.card c) →
        (t.unit p).reader = some (.card (cardCut (points.getD p.val 0) c))) ∧
      (∀ p, (s.unit p).reader = none → (t.unit p).reader = none)) ∧
    (s.powered = false → exec (.mainSupplyLoss points) s = .next s)

/-! ## The management link -/

/-- A frame whose check matches and whose tag is not 0 becomes a request: it is handed on with its tag, position byte and
payload, it is outstanding, and the hold line is asserted at 16 (R138 to R142). The types, lengths and payload layouts of the
requests are those of R169, the most significant byte of a field first (R168). A position request (QUERY, CONFIGURE, OPEN,
CHARGE, CLOSE, RESET POSITION) names a position of 0 to 31, an ACKNOWLEDGE such a position or 0xFF, and the position of an
OPEN, CHARGE, CLOSE or ACKNOWLEDGE is not OFF (R142, R152). -/
def Obligations.FrameBecomesRequest : Prop :=
  (∀ type : Byte, requestLength type =
    if type ∈ [0x10#8, 0x11#8, 0x21#8, 0x24#8, 0x31#8, 0x32#8, 0x33#8, 0x40#8, 0x41#8, 0x50#8, 0x5F#8] then some 4
    else if type ∈ [0x25#8, 0x30#8, 0x51#8] then some 5
    else if type = 0x12#8 then some 6
    else if type = 0x13#8 ∨ type = 0x52#8 then some 7
    else if type = 0x42#8 then some 9
    else if type = 0x20#8 then some 12
    else if type = 0x22#8 ∨ type = 0x23#8 then some 13
    else none) ∧
  (∀ (type : Byte) (payload : List Byte),
    (requestBody type payload).isSome = true ↔ requestLength type = some (payload.length + 3)) ∧
  (∀ a b c d e f g h i j : Byte,
    let half (x y : Byte) : Half := BitVec.ofNat 16 (256 * x.toNat + y.toNat)
    let quad (x y z w : Byte) : Quad :=
      BitVec.ofNat 32 (16777216 * x.toNat + 65536 * y.toNat + 256 * z.toNat + w.toNat)
    let range : Range := { series := half a b, first := quad c d e f, last := quad g h i j }
    requestBody 0x10#8 [a] = some .status ∧ requestBody 0x11#8 [a] = some .query ∧
    requestBody 0x12#8 [a, b, c] = some (.configure a b c) ∧
    requestBody 0x13#8 [a, b, c, d] = some (.acknowledge (half a b) (half c d)) ∧
    requestBody 0x20#8 [a, b, c, d, e, f, g, h, i] = some (.seriesLoad a b (half c d) e (half f g) h i) ∧
    requestBody 0x21#8 [a] = some (.seriesRead a) ∧
    requestBody 0x22#8 [a, b, c, d, e, f, g, h, i, j] = some (.blockAdd range) ∧
    requestBody 0x23#8 [a, b, c, d, e, f, g, h, i, j] = some (.blockRemove range) ∧
    requestBody 0x24#8 [a] = some .blockClear ∧ requestBody 0x25#8 [a, b] = some (.blockRead (half a b)) ∧
    requestBody 0x30#8 [a, b] = some (.openCall (half a b)) ∧ requestBody 0x31#8 [a] = some (.charge a) ∧
    requestBody 0x32#8 [a] = some .close ∧ requestBody 0x33#8 [a] = some .resetPosition ∧
    requestBody 0x40#8 [a] = some (.takeRecords a) ∧ requestBody 0x41#8 [a] = some (.doubtRead a) ∧
    requestBody 0x42#8 [a, b, c, d, e, f] = some (.doubtDiscard { series := half a b, serial := quad c d e f }) ∧
    requestBody 0x50#8 [a] = some (.protect a) ∧ requestBody 0x51#8 [a, b] = some (.save a b) ∧
    requestBody 0x52#8 [a, b, c, d] = some (.selfTest (quad a b c d)) ∧ requestBody 0x5F#8 [a] = some .restart) ∧
  ∀ (type tag pos : Byte) (payload : List Byte) (body : ReqBody) (s : State),
    s.powered = true → s.starting = none → s.link.framer = .hunting → s.link.hold = false → tag ≠ 0#8 →
    requestLength type = some (payload.length + 3) → requestBody type payload = some body →
    (type ∈ [0x11#8, 0x12#8, 0x30#8, 0x31#8, 0x32#8, 0x33#8] → pos.toNat < 32) →
    (type = 0x13#8 → pos.toNat < 32 ∨ pos = 0xFF#8) →
    (type ∈ [0x30#8, 0x31#8, 0x32#8, 0x13#8] → ∀ p : Pos, p.val = pos.toNat → (s.line p).state ≠ .off) →
    exec (.frameReceived (linkFrame type tag pos payload)) s =
      .next { s with link := { s.link with
        gap := 0, outstanding := s.link.outstanding + 1, hold := decide (s.link.outstanding + 1 = 16),
        received := s.link.received ++ [{ tag := tag, pos := pos, body := body }] } }

/-- The link port's checks in their order: UNKNOWN_TYPE, FORMAT, POSITION, STATE. A refused request is outstanding like any
other, and its refusal joins the outbound queue at once (R139, R142). POSITION is for a position request (QUERY, CONFIGURE,
OPEN, CHARGE, CLOSE, RESET POSITION) with a byte above 31, and for an ACKNOWLEDGE with such a byte other than 0xFF; STATE is
for an OPEN, CHARGE, CLOSE or ACKNOWLEDGE that names an OFF position (R142, R152). -/
def Obligations.FrameRefusedByLinkPort : Prop :=
  ∀ (type tag pos : Byte) (payload : List Byte) (s : State),
    s.powered = true → s.starting = none → s.link.framer = .hunting → s.link.hold = false → tag ≠ 0#8 →
    1 ≤ payload.length → payload.length + 3 ≤ 250 →
    let refused (c : ResultCode) : Host.Outcome State Fault Refusal :=
      .next { s with link := { s.link with
        gap := 0, outstanding := s.link.outstanding + 1, hold := decide (s.link.outstanding + 1 = 16),
        outbound := s.link.outbound ++ [.reply type tag pos (.refusal c)] } }
    let run := exec (.frameReceived (linkFrame type tag pos payload)) s
    (requestLength type = none → run = refused .unknownType) ∧
    (∀ n, requestLength type = some n → n ≠ payload.length + 3 → run = refused .format) ∧
    (requestLength type = some (payload.length + 3) →
      (type ∈ [0x11#8, 0x12#8, 0x30#8, 0x31#8, 0x32#8, 0x33#8] → 32 ≤ pos.toNat → run = refused .position) ∧
      (type = 0x13#8 → 32 ≤ pos.toNat → pos ≠ 0xFF#8 → run = refused .position) ∧
      (type ∈ [0x30#8, 0x31#8, 0x32#8, 0x13#8] → ∀ p : Pos, p.val = pos.toNat → (s.line p).state = .off →
        run = refused .state))

/-- A frame that completes while the hold line is asserted is discarded, and raises OVERRUN but for a RESTART that is
pending; a frame with tag 0 or with a check that does not match is discarded and leaves no trace; a gap of more than 20 ms
and a length byte outside 4 to 250 drop the frame being gathered, and the framer hunts. Until start-up is complete no byte
is gathered (R138, R140, R153, R161). -/
def Obligations.FrameDiscarded : Prop :=
  (∀ (type tag pos : Byte) (payload : List Byte) (s : State),
    s.powered = true → s.starting = none → s.link.framer = .hunting → 1 ≤ payload.length → payload.length + 3 ≤ 250 →
    (s.link.hold = true → tag ≠ 0#8 → s.restart = .none →
      exec (.frameReceived (linkFrame type tag pos payload)) s =
        .next { s with link := { s.link with
          gap := 0, flags := s.link.flags ||| 0x02#5, outbound := s.link.outbound ++ s.partNoticeOf .overrun } }) ∧
    (s.link.hold = true → tag ≠ 0#8 → s.restart ≠ .none →
      exec (.frameReceived (linkFrame type tag pos payload)) s = .next { s with link := { s.link with gap := 0 } }) ∧
    (tag = 0#8 →
      exec (.frameReceived (linkFrame type tag pos payload)) s = .next { s with link := { s.link with gap := 0 } }) ∧
    (∀ check : Half,
      check ≠ crc (natByte (payload.length + 3) :: type :: tag :: pos :: payload) →
      exec (.frameReceived
          (0x01#8 :: natByte (payload.length + 3) :: type :: tag :: pos :: payload ++ halfBytes check)) s =
        .next { s with link := { s.link with gap := 0 } })) ∧
  (∀ (s : State) (bs : List Byte), s.powered = false ∨ s.starting.isSome = true →
    exec (.frameReceived bs) s = .next s ∧ exec (.frameGapTimeout bs) s = .next s) ∧
  (∀ s : State, s.powered = true → s.starting = none →
    (∀ bs : List Byte, (s.link.framer.run bs).2 = [] →
      exec (.frameGapTimeout bs) s = .next { s with link := { s.link with framer := .hunting, gap := 0 } }) ∧
    (∀ length : Byte, length.toNat < 4 ∨ 250 < length.toNat → s.link.framer = .started ∨ s.link.framer = .hunting →
      exec (.lengthByteOutOfRange length) s = .next { s with link := { s.link with framer := .hunting, gap := 0 } }))

/-- Messages leave in queue order, a notice with the figures of that moment; with a reply's last byte its request stops
being outstanding, and the hold line is released below 16 unless a RESTART is pending or start-up is not complete (R139,
R140, R145, R161). The frame of a message, the codes of its fields and the byte layouts of every reply, of both notices, of
snapshots, records and doubt entries are those of R168 and R169. -/
def Obligations.MessageTransmitted : Prop :=
  (∀ s : State,
    (∀ m rest, s.link.transmitting = none → s.link.outbound = m :: rest →
      exec .messageTransmitStart s =
        .next { s with link := { s.link with
          outbound := rest, transmitting := some { frame := s.messageFrame m, isReply := m.isReply } } }) ∧
    (∀ x, s.link.transmitting = some x →
      let n := if x.isReply then s.link.outstanding - 1 else s.link.outstanding
      exec .messageSent s =
        .next { s with link := { s.link with
          transmitting := none, outstanding := n
          hold := decide (16 ≤ n ∨ s.restart ≠ .none ∨ s.starting.isSome = true) } })) ∧
  (∀ (s : State) (type tag pos : Byte) (body : ReplyBody) (p : Pos),
    let frame (type tag pos : Byte) (payload : List Byte) : List Byte :=
      let span := fieldBytes 1 (payload.length + 3) ++ [type, tag, pos] ++ payload
      0x01#8 :: span ++ fieldBytes 2 (crc span).toNat
    s.messageFrame (.reply type tag pos body) = frame type tag pos body.bytes ∧
    s.messageFrame (.positionNotice p) = frame 0x7E#8 0#8 (BitVec.ofNat 8 p.val) (s.snapshot p).bytes ∧
    s.messageFrame .partNotice = frame 0x7F#8 0#8 0xFF#8 s.figures.bytes) ∧
  crc [0x31#8, 0x32#8, 0x33#8, 0x34#8, 0x35#8, 0x36#8, 0x37#8, 0x38#8, 0x39#8] = 0x29B1#16 ∧
  ([.ok, .format, .unknownType, .position, .state, .busy, .range, .isProtected, .tableFull, .recordsFull, .blocked,
    .notFound] : List ResultCode).map (·.code.toNat) = List.range 12 ∧
  ([.done, .exhausted, .cut, .removed, .reset, .fault, .restart] : List ChargeOutcome).map (·.code.toNat) =
    [0x20, 0x21, 0x22, 0x23, 0x24, 0x25, 0x26] ∧
  ([.openMode, .keyed, .locked] : List Mode).map (·.code.toNat) = [0, 1, 2] ∧
  ([.running, .saving, .testing] : List PartState).map (·.code.toNat) = [0, 1, 2] ∧
  ([.b9600, .b19200, .b38400, .b115200] : List Rate).map (·.code.toNat) = [0, 1, 2, 3] ∧
  ([.off, .empty, .identifying, .rejected, .ready, .inCall, .faulted, .testing] : List PosState).map (·.code.toNat) =
    List.range 8 ∧
  ([.unpowered, .waking, .powered, .rest] : List Contact).map (·.code.toNat) = List.range 4 ∧
  ([.unreadable, .header, .seriesUnknown, .withdrawn, .seriesInvalid, .overIssue, .blocked, .duplicate, .inconsistent,
    .emptyCard, .lineFault, .cardFault, .tallyMismatch] : List Cause).map (·.code.toNat) = (List.range 13).map (· + 1) ∧
  (CtxState.code .openCall, CtxState.code .closing) = (1#8, 2#8) ∧
  ([.requested, .removed, .positionReset, .cardFault, .lineFault, .tallyMismatch, .restart, .powerLoss] :
    List EndCause).map (·.code.toNat) = (List.range 8).map (· + 1) ∧
  ([.none, .journalled, .unjournalled] : List DoubtMark).map (·.code.toNat) = [0, 1, 2] ∧
  ([.taken, .notTaken, .mismatch] : List DoubtOutcome).map (·.code.toNat) = [1, 2, 3] ∧
  (let bit (b : Bool) (v : Nat) : Nat := if b then v else 0
   let identity (i : Identity) : List Byte := fieldBytes 2 i.series.toNat ++ fieldBytes 4 i.serial.toNat
   let digits (d : Digits) : List Byte := [d.d0, d.d1, d.d2, d.d3].flatMap fun x => fieldBytes 1 x.val
   let location (l : Option Location) : List Byte :=
     (l.map fun x => fieldBytes 1 x.stage.val ++ fieldBytes 1 x.cell.val).getD [0#8, 0#8]
   let zeros (n : Nat) : List Byte := List.replicate n 0#8
   let entry (e : Option SeriesFields) : List Byte :=
     (e.map fun f => fieldBytes 2 f.code.toNat ++ [f.weight] ++ fieldBytes 2 f.maxIssued.toNat ++ [f.retries] ++
       fieldBytes 1 (bit f.accepting 1)).getD (zeros 7)
   let range (r : Range) : List Byte :=
     fieldBytes 2 r.series.toNat ++ fieldBytes 4 r.first.toNat ++ fieldBytes 4 r.last.toNat
   (∀ f : Figures, f.bytes = [f.part.code, f.mode.code] ++ fieldBytes 1 (bit f.key 1) ++ fieldBytes 1 f.callsOpen ++
     fieldBytes 1 f.stored ++ fieldBytes 1 f.reserved ++ fieldBytes 1 f.pendingDoubts ++ fieldBytes 1 f.resolvedDoubts ++
     fieldBytes 2 f.ranges ++ fieldBytes 1 f.loadedSeries ++ fieldBytes 1 f.outstanding ++ fieldBytes 1 f.flags.toNat) ∧
   (∀ x : Snapshot, x.bytes = fieldBytes 1 x.position.val ++ [x.state.code, x.contact.code] ++
     fieldBytes 1 (bit x.present 1 + bit x.settings.inService 2 + bit x.settings.notify 4 +
       bit (x.settings.lineClass = .long) 8 + bit x.checkLatch 16) ++
     fieldBytes 2 x.flags.toNat ++
     fieldBytes 1 (bit x.cause.isSome 1 + bit x.id.isSome 2 + bit x.tally.isSome 4 + bit x.balance.isSome 8 +
       bit x.call.isSome 16 + bit x.steps.isSome 32 + bit x.failing.isSome 64) ++
     [(x.cause.map (·.code)).getD 0#8] ++ (x.id.map identity).getD (zeros 6) ++
     (x.tally.map fun t => digits t.digits ++ fieldBytes 1 t.latch.val).getD (zeros 5) ++
     (x.balance.map fun b => fieldBytes 2 b.toNat).getD (zeros 2) ++
     (x.call.map fun f => [f.state.code] ++ fieldBytes 2 f.callId ++ fieldBytes 1 f.credit ++ fieldBytes 2 f.burned ++
       fieldBytes 1 f.queued ++ fieldBytes 4 f.value).getD (zeros 11) ++
     fieldBytes 1 (x.steps.getD 0) ++ location x.failing ∧ x.bytes.length = 35) ∧
   (∀ r : CallRecord, r.bytes = [1#8] ++ fieldBytes 2 r.seq ++ fieldBytes 1 r.position.val ++ fieldBytes 2 r.callId ++
     identity r.id ++ fieldBytes 2 r.balanceAtOpen ++ fieldBytes 2 r.burned ++ fieldBytes 4 r.covered ++
     fieldBytes 4 r.uncovered ++ fieldBytes 1 r.forfeited ++ [r.cause.code, r.mark.code] ++
     fieldBytes 1 (bit r.failing.isSome 1) ++ location r.failing ∧ r.bytes.length = 30) ∧
   (∀ r : ResolutionRecord, r.bytes = [2#8] ++ fieldBytes 2 r.seq ++ identity r.id ++ fieldBytes 2 r.callId ++
     fieldBytes 1 r.stage.val ++ [r.outcome.code] ++ fieldBytes 1 r.position.val ++ zeros 16 ∧ r.bytes.length = 30) ∧
   (∀ e : DoubtEntry, doubtEntryBytes e = fieldBytes 2 e.creation ++ identity e.id ++ fieldBytes 1 e.position.val ++
     fieldBytes 2 e.callId ++ fieldBytes 1 e.stage.val ++ digits e.before ++
     (e.resolved.map fun x => [1#8, x.1.code] ++ fieldBytes 1 x.2.val).getD (zeros 3) ∧
     (doubtEntryBytes e).length = 19) ∧
   (∀ c, (ReplyBody.refusal c).bytes = [c.code]) ∧ ReplyBody.ok.bytes = [0#8] ∧
   (∀ f, (ReplyBody.status f).bytes = 0#8 :: f.bytes) ∧ (∀ x, (ReplyBody.query x).bytes = 0#8 :: x.bytes) ∧
   (∀ f : Half, (ReplyBody.flags f).bytes = 0#8 :: fieldBytes 2 f.toNat) ∧
   (∀ i e, (ReplyBody.series i e).bytes = [0#8, i] ++ fieldBytes 1 (bit e.isSome 1) ++ entry e) ∧
   (∀ n, (ReplyBody.count n).bytes = 0#8 :: fieldBytes 2 n) ∧
   (∀ n rs, (ReplyBody.ranges n rs).bytes = [0#8] ++ fieldBytes 2 n ++ fieldBytes 1 rs.length ++ rs.flatMap range) ∧
   (∀ i b w v, (ReplyBody.opened i b w v).bytes =
     [0#8] ++ fieldBytes 2 i ++ fieldBytes 2 b ++ fieldBytes 1 w ++ fieldBytes 4 v) ∧
   (∀ c, (ReplyBody.charge c).bytes = [c.outcome.code] ++ fieldBytes 1 c.covered ++ fieldBytes 1 c.uncovered ++
     fieldBytes 1 c.steps ++ fieldBytes 2 c.balance ++ fieldBytes 1 c.credit ++ fieldBytes 1 (bit c.failing.isSome 1) ++
     location c.failing ∧ (ReplyBody.charge c).bytes.length = 10) ∧
   (∀ r, (ReplyBody.record r).bytes = 0#8 :: r.bytes) ∧
   (∀ n rs, (ReplyBody.records n rs).bytes = [0#8] ++ fieldBytes 1 rs.length ++ fieldBytes 1 n ++
     rs.flatMap fun x => match x with
       | .call r => r.bytes
       | .resolution r => r.bytes) ∧
   (∀ m n es, (ReplyBody.doubts m n es).bytes =
     [0#8] ++ fieldBytes 1 m ++ fieldBytes 1 n ++ fieldBytes 1 es.length ++ es.flatMap doubtEntryBytes) ∧
   (∀ m, (ReplyBody.mode m).bytes = [0#8, m.code]) ∧
   (∀ i r, (ReplyBody.saved i r).bytes = [0#8] ++ fieldBytes 1 i ++ [r.code]) ∧
   (∀ c cs, (ReplyBody.test c cs).bytes = [0#8, c] ++ cs))

/-- STATUS is answered with the part's figures, and QUERY with the position's snapshot, every field of them as it stands;
nothing else changes (R146, R147). The balance of an image in force whose consumption exceeds its issued units is a free
value (log 10). -/
def Obligations.StatusAndQueryReplies : Prop :=
  ∀ (s : State) (r : Request), s.front .linkPort = some r →
    (r.body = .status → exec .status s = .next (s.replied .linkPort 0x10#8 r (.status {
      part := if s.save.isSome then .saving else if s.test.isSome then .testing else .running
      mode := s.mode
      key := s.key.input
      callsOpen := (positions.filter fun p => (s.ctx p).state ≠ .noCall).length
      stored := s.retained.records.length
      reserved := s.retained.reservations.length
      pendingDoubts := (s.retained.doubts.filter fun e => e.resolved.isNone).length
      resolvedDoubts := (s.retained.doubts.filter fun e => e.resolved.isSome).length
      ranges := s.working.blocks.length
      loadedSeries := ((List.finRange 16).filter fun i => (s.working.series[i.val]'i.isLt).isSome).length
      outstanding := s.link.outstanding
      flags := s.link.flags }))) ∧
    (∀ p, r.body = .query → posOf r.pos = some p →
      let l := s.line p
      let c := s.ctx p
      let inCall : Bool := l.state = .inCall
      ∃ shown : Half, exec .query s = .next (s.replied .linkPort 0x11#8 r (.query {
          position := p
          state := l.state
          contact := l.contact
          present := l.present
          settings := s.posSettings p
          checkLatch := l.checkLatch
          flags := (s.unit p).flags
          cause := l.cause
          id := l.shownId
          tally := if (s.unit p).inForce then c.image.map (·.tally)
            else if l.state = .identifying ∨ l.state = .faulted then l.shownTally
            else none
          balance := if (s.unit p).inForce && (inCall || c.image.isSome) then some shown else none
          call := if inCall then some { state := c.state, callId := c.callId, credit := c.credit, burned := c.burned,
                                        queued := c.queue.length, value := c.balance * c.weight + c.credit }
            else none
          steps := if inCall && (s.unit p).work.isSome then c.queue.head?.map (·.steps) else none
          failing := if l.state = .faulted ∧ l.cause = some .cardFault then l.failing else none })) ∧
        (inCall = true → shown = BitVec.ofNat 16 c.balance) ∧
        (∀ i : Image, inCall = false → c.image = some i → i.tally.consumption ≤ i.header.issued.toNat →
          shown = BitVec.ofNat 16 (i.header.issued.toNat - i.tally.consumption)))

/-- ACKNOWLEDGE changes each flag by its mask and value places; a flag it sets that was clear is a raising (R150, R152). -/
def Obligations.AcknowledgeSetsFlags : Prop :=
  ∀ (s : State) (r : Request) (mask value : Half), s.front .linkPort = some r → r.body = .acknowledge mask value →
    (∀ p, posOf r.pos = some p →
      let old := (s.unit p).flags
      ∃ flags : BitVec 9,
        (∀ i : Fin 9, flags.getLsbD i = if mask.getLsbD i then value.getLsbD i else old.getLsbD i) ∧
        exec .acknowledge s = .next { s with
          units := s.units.set p.val { s.unit p with flags := flags } p.isLt
          link := { s.link with
            received := s.link.received.eraseP fun x => x.owner = .linkPort
            outbound := s.link.outbound ++
              (if (∃ i : Fin 9, mask.getLsbD i = true ∧ value.getLsbD i = true ∧ old.getLsbD i = false) ∧
                  (s.posSettings p).notify = true ∧ Message.positionNotice p ∉ s.link.outbound then
                [.positionNotice p] else []) ++
              [.reply 0x13#8 r.tag r.pos (.flags (flags.setWidth 16))] } }) ∧
    (posOf r.pos = none →
      let old := s.link.flags
      ∃ flags : BitVec 5,
        (∀ i : Fin 5, flags.getLsbD i = if mask.getLsbD i then value.getLsbD i else old.getLsbD i) ∧
        exec .acknowledge s = .next { s with
          link := { s.link with
            received := s.link.received.eraseP fun x => x.owner = .linkPort
            flags := flags
            outbound := s.link.outbound ++
              (if (∃ i : Fin 5, mask.getLsbD i = true ∧ value.getLsbD i = true ∧ old.getLsbD i = false) ∧
                  Message.partNotice ∉ s.link.outbound then [.partNotice] else []) ++
              [.reply 0x13#8 r.tag r.pos (.flags (flags.setWidth 16))] } })

/-! ## Tables, settings and the key -/

/-- SERIES LOAD that passes the protection check: RANGE for an index above 15, or for a code another LOADED entry holds;
else the entry is cleared or takes the fields as given (R51). A byte that names no value of its kind is refused RANGE
(R169). -/
def Obligations.SeriesLoadOutcomes : Prop :=
  ∀ (s : State) (r : Request) (index action : Byte) (code : Half) (weight : Byte) (maxIssued : Half)
      (retries accepting : Byte),
    s.front .identification = some r →
    r.body = .seriesLoad index action code weight maxIssued retries accepting → ¬ s.refusesGuarded → s.save = none →
    let ok (i : Fin 16) (e : Option SeriesFields) : Host.Outcome State Fault Refusal :=
      .next ({ s with working := { s.working with series := s.working.series.set i.val e i.isLt } }.replied
        .identification 0x20#8 r .ok)
    let range : Host.Outcome State Fault Refusal := .next (s.replied .identification 0x20#8 r (.refusal .range))
    (15 < index.toNat → exec .seriesLoad s = range) ∧
    (∀ i : Fin 16, i.val = index.toNat →
      let held := ∃ (j : Fin 16) (e : SeriesFields), j ≠ i ∧ s.working.series[j.val]'j.isLt = some e ∧ e.code = code
      (action = 0#8 → exec .seriesLoad s = ok i none) ∧
      (action = 1#8 → held → exec .seriesLoad s = range) ∧
      (action = 1#8 → ¬ held → accepting = 0#8 ∨ accepting = 1#8 →
        exec .seriesLoad s = ok i (some { code := code, weight := weight, maxIssued := maxIssued, retries := retries,
                                          accepting := decide (accepting = 1#8) })) ∧
      (action = 1#8 → accepting ≠ 0#8 → accepting ≠ 1#8 → exec .seriesLoad s = range) ∧
      (action ≠ 0#8 → action ≠ 1#8 → exec .seriesLoad s = range))

/-- SERIES READ, in every protection mode and while a SAVE runs: RANGE above 15, else the entry as loaded (R52). -/
def Obligations.SeriesReadReplies : Prop :=
  ∀ (s : State) (r : Request) (index : Byte), s.front .identification = some r → r.body = .seriesRead index →
    (15 < index.toNat → exec .seriesRead s = .next (s.replied .identification 0x21#8 r (.refusal .range))) ∧
    (∀ i : Fin 16, i.val = index.toNat →
      exec .seriesRead s = .next (s.replied .identification 0x21#8 r (.series index (s.working.series[i.val]'i.isLt))))

/-- BLOCK ADD that passes the protection check: RANGE when first is above last; TABLE_FULL when the list holds 256 ranges
and none of them overlaps the new one or is adjacent to it; else afterwards exactly the serials covered before and those
of the new range are covered, and the count, which no merging raises, is in the reply (R54). -/
def Obligations.BlockAddCoversRange : Prop :=
  ∀ (s : State) (r : Request) (x : Range), s.front .identification = some r → r.body = .blockAdd x →
    ¬ s.refusesGuarded → s.save = none → blocksCanonical s.working.blocks →
    let touching := ∃ y ∈ s.working.blocks, y.touches x = true
    (x.last.toNat < x.first.toNat →
      exec .blockAdd s = .next (s.replied .identification 0x22#8 r (.refusal .range))) ∧
    (x.first.toNat ≤ x.last.toNat → ¬ touching → s.working.blocks.length = 256 →
      exec .blockAdd s = .next (s.replied .identification 0x22#8 r (.refusal .tableFull))) ∧
    (x.first.toNat ≤ x.last.toNat → touching ∨ s.working.blocks.length < 256 →
      ∃ bs, exec .blockAdd s = .next ({ s with working := { s.working with blocks := bs } }.replied
          .identification 0x22#8 r (.count bs.length)) ∧
        (∀ i : Identity, blocked bs i = true ↔
          blocked s.working.blocks i = true ∨
            (i.series = x.series ∧ x.first.toNat ≤ i.serial.toNat ∧ i.serial.toNat ≤ x.last.toNat)) ∧
        (touching → bs.length ≤ s.working.blocks.length) ∧
        (¬ touching → bs.length = s.working.blocks.length + 1))

/-- BLOCK REMOVE that passes the protection check: RANGE when first is above last; TABLE_FULL when a split is needed and
the list holds 256 ranges; else afterwards exactly the serials covered before and outside the span are covered, and only a
split raises the count (R55). -/
def Obligations.BlockRemoveUncoversSpan : Prop :=
  ∀ (s : State) (r : Request) (x : Range), s.front .identification = some r → r.body = .blockRemove x →
    ¬ s.refusesGuarded → s.save = none → blocksCanonical s.working.blocks →
    let split := ∃ y ∈ s.working.blocks, y.series = x.series ∧ y.first.toNat < x.first.toNat ∧
      x.last.toNat < y.last.toNat
    (x.last.toNat < x.first.toNat →
      exec .blockRemove s = .next (s.replied .identification 0x23#8 r (.refusal .range))) ∧
    (x.first.toNat ≤ x.last.toNat → split → s.working.blocks.length = 256 →
      exec .blockRemove s = .next (s.replied .identification 0x23#8 r (.refusal .tableFull))) ∧
    (x.first.toNat ≤ x.last.toNat → ¬ split ∨ s.working.blocks.length < 256 →
      ∃ bs, exec .blockRemove s = .next ({ s with working := { s.working with blocks := bs } }.replied
          .identification 0x23#8 r (.count bs.length)) ∧
        (∀ i : Identity, blocked bs i = true ↔
          blocked s.working.blocks i = true ∧
            ¬ (i.series = x.series ∧ x.first.toNat ≤ i.serial.toNat ∧ i.serial.toNat ≤ x.last.toNat)) ∧
        (¬ split → bs.length ≤ s.working.blocks.length) ∧
        (split → bs.length = s.working.blocks.length + 1))

/-- BLOCK CLEAR that passes the protection check empties the list; BLOCK READ, never guarded, carries the total and up to 8
ranges in list order from its start index (R56). -/
def Obligations.BlockClearAndRead : Prop :=
  ∀ (s : State) (r : Request), s.front .identification = some r →
    (r.body = .blockClear → ¬ s.refusesGuarded → s.save = none →
      exec .blockClear s = .next ({ s with working := { s.working with blocks := [] } }.replied
        .identification 0x24#8 r (.count 0))) ∧
    (∀ start : Half, r.body = .blockRead start →
      exec .blockRead s = .next (s.replied .identification 0x25#8 r
        (.ranges s.working.blocks.length ((s.working.blocks.drop start.toNat).take 8))))

/-- A guarded request is refused PROTECTED when the mode in force is LOCKED, or KEYED with the key off, and then BUSY while
a SAVE is writing; a refusal changes nothing (R156, R158). -/
def Obligations.GuardedRequestRefused : Prop :=
  ∀ (s : State) (r : Request) (o : Owner) (c : Instr) (type : Byte),
    guardedCommand r.body = some (o, c, type) → s.front o = some r →
    (s.refusesGuarded → exec c s = .next (s.replied o type r (.refusal .isProtected))) ∧
    (¬ s.refusesGuarded → s.save.isSome = true → exec c s = .next (s.replied o type r (.refusal .busy)))

/-- PROTECT: RANGE for a byte that names no mode; LOCKED is always taken and leaves the unlocked mode; OPEN and KEYED set
both modes, and are refused PROTECTED in LOCKED and in KEYED with the key off (R159). -/
def Obligations.ProtectOutcomes : Prop :=
  ∀ (s : State) (r : Request) (mode : Byte), s.front .settings = some r → r.body = .protect mode →
    (mode = 2#8 → exec .protect s = .next ({ s with mode := .locked }.replied .settings 0x50#8 r (.mode .locked))) ∧
    (mode = 0#8 → ¬ s.refusesGuarded →
      exec .protect s = .next ({ s with mode := .openMode, working := { s.working with unlocked := .openMode } }.replied
        .settings 0x50#8 r (.mode .openMode))) ∧
    (mode = 1#8 → ¬ s.refusesGuarded →
      exec .protect s = .next ({ s with mode := .keyed, working := { s.working with unlocked := .keyed } }.replied
        .settings 0x50#8 r (.mode .keyed))) ∧
    (mode = 0#8 ∨ mode = 1#8 → s.refusesGuarded →
      exec .protect s = .next (s.replied .settings 0x50#8 r (.refusal .isProtected))) ∧
    (2 < mode.toNat → exec .protect s = .next (s.replied .settings 0x50#8 r (.refusal .range)))

/-- SAVE that passes the protection check: BUSY during a self-test, RANGE for a byte that names no rate, else the two part
settings are written and the copy of the working settings is taken, with no reply yet. With SAVE_WRITE_COMPLETE the stored
settings equal the copy and the reply is queued (R155). -/
def Obligations.SaveStoresCopy : Prop :=
  ∀ s : State,
    (∀ (r : Request) (idle rate : Byte), s.front .settings = some r → r.body = .save idle rate →
      ¬ s.refusesGuarded → s.save = none →
      (s.test.isSome = true → exec .save s = .next (s.replied .settings 0x51#8 r (.refusal .busy))) ∧
      (s.test = none → 4 ≤ rate.toNat → rate ≠ 0xFF#8 →
        exec .save s = .next (s.replied .settings 0x51#8 r (.refusal .range))) ∧
      (∀ x : Rate, s.test = none → (rate = 0xFF#8 ∧ x = s.working.rate) ∨ rate = x.code →
        let w : Settings :=
          { s.working with idle := if idle = 0xFF#8 then s.working.idle else min idle.toNat 60, rate := x }
        exec .save s = .next
          { s.taken .settings with working := w, save := some { copy := w, tag := r.tag, pos := r.pos } })) ∧
    (∀ x, s.save = some x →
      exec .saveWriteComplete s = .next { s with
        stored := x.copy, storeCheck := true, save := none
        link := { s.link with
          outbound := s.link.outbound ++ [.reply 0x51#8 x.tag x.pos (.saved x.copy.idle x.copy.rate)] } })

/-- The key: a contact that leaves the counted level begins its debounce and one that returns to it ends it; a level that
has held counts, and a counted change raises KEY_CHANGED, but for the first level since start-up; until start-up is complete
it is kept for step 7 (R157, R161). -/
def Obligations.KeyDebounced : Prop :=
  ∀ s : State,
    (∀ closed : Bool, s.powered = true → s.key.closed ≠ closed →
      exec (.keyInputChange closed) s = .next { s with
        key := { s.key with
          closed := closed, debounce := if s.key.settled = false ∨ closed ≠ s.key.input then some 0 else none } }) ∧
    (∀ n, s.key.debounce = some n →
      let counted : Key := { s.key with input := s.key.closed, settled := true, debounce := none }
      (∀ x : StartUp, s.key.settled = true → s.key.closed ≠ s.key.input → s.starting = some x →
        exec .keyDebounceExpiry s =
          .next { s with key := counted, starting := some { x with keyChanged := true } }) ∧
      (s.key.settled = true → s.key.closed ≠ s.key.input → s.starting = none →
        exec .keyDebounceExpiry s = .next { s with
          key := counted
          link := { s.link with
            flags := s.link.flags ||| 0x10#5, outbound := s.link.outbound ++ s.partNoticeOf .keyChanged } }) ∧
      (s.key.settled = false ∨ s.key.closed = s.key.input →
        exec .keyDebounceExpiry s = .next { s with key := counted }))

/-! ## Calls and charges -/

/-- An accepted OPEN: the next call id, the reservation and the context of R77, IN_CALL, LOW when V is below the threshold,
and the reply; nothing else changes (R69, R75 to R77, R131). That it is accepted at balance 0 too is the model's choice
(log 45), and so is that a RESET POSITION which waits at the READY position does not act before it (log 12). -/
def Obligations.OpenAccepted : Prop :=
  ∀ (s : State) (r : Request) (p : Pos) (threshold : Half) (i : Image) (x : Terms),
    s.front .callTable = some r → r.body = .openCall threshold → posOf r.pos = some p →
    (s.line p).state = .ready → (s.ctx p).state = .noCall → (s.ctx p).image = some i → (s.unit p).terms = some x →
    i.tally.consumption ≤ i.header.issued.toNat → blocked s.working.blocks i.header.id = false →
    s.retained.records.length + s.retained.reservations.length + 1 ≤ 56 →
    let n := if s.retained.callCounter = 65535 then 1 else s.retained.callCounter + 1
    let balance := i.header.issued.toNat - i.tally.consumption
    let low := threshold ≠ 0#16 ∧ balance * x.weight < threshold.toNat
    ∃ t, exec .openCall s = .next t ∧
      t.ctx p = { state := .openCall, callId := n, id := i.header.id, weight := x.weight, retries := x.retries,
                  balanceAtOpen := balance, balance := balance, burned := 0, credit := 0, covered := 0, uncovered := 0,
                  threshold := threshold.toNat, warned := decide low, mark := .none, image := some i, field := none,
                  queue := [] } ∧
      t.unit p = { s.unit p with
        line := { s.line p with state := .inCall }
        flags := (s.unit p).flags ||| (if low then 0x010#9 else 0#9) } ∧
      (∀ q, q ≠ p → t.unit q = s.unit q ∧ t.ctx q = s.ctx q) ∧
      t = { s with
        units := t.units
        retained := { s.retained with
          ctxs := t.retained.ctxs, callCounter := n
          reservations := s.retained.reservations ++ [{ position := p, callId := n }] }
        link := { s.link with
          received := s.link.received.eraseP fun x => x.owner = .callTable
          outbound := s.link.outbound ++ (if low then s.noticeOf p .low else []) ++
            [.reply 0x30#8 r.tag r.pos (.opened n balance x.weight (balance * x.weight))] } }

/-- A refused OPEN: STATE when the position is not READY, BLOCKED when the block list has come to cover the card, which
goes REJECTED, and RECORDS_FULL when no reservation is granted (R57, R75, R131). A completion that is due is made before
an OPEN is looked at (log 12). -/
def Obligations.OpenRefused : Prop :=
  ∀ (s : State) (r : Request) (p : Pos) (threshold : Half),
    s.front .callTable = some r → r.body = .openCall threshold → posOf r.pos = some p →
    ((s.line p).state ≠ .ready → (s.ctx p).completionDue = false →
      exec .openCall s = .next (s.replied .callTable 0x30#8 r (.refusal .state))) ∧
    (∀ (i : Image) (x : Terms), (s.line p).state = .ready → (s.ctx p).state = .noCall →
      (s.ctx p).image = some i → (s.unit p).terms = some x →
      (blocked s.working.blocks i.header.id = true →
        ∃ t, exec .openCall s = .next t ∧ (s.taken .callTable).sameApartFrom p t ∧ t.retained = s.retained ∧
          (t.line p).state = .rejected ∧ (t.line p).cause = some .blocked ∧ (t.line p).contact = .unpowered ∧
          (t.line p).shownId = (s.line p).shownId ∧ (t.unit p).held = none ∧ (t.unit p).terms = none ∧
          (t.unit p).inForce = false ∧ (t.unit p).flags = (s.unit p).flags ||| 0x008#9 ∧
          t.link.outbound = s.link.outbound ++ s.noticeOf p .rejected ++
            [.reply 0x30#8 r.tag r.pos (.refusal .blocked)]) ∧
      (blocked s.working.blocks i.header.id = false →
        56 < s.retained.records.length + s.retained.reservations.length + 1 →
        exec .openCall s = .next (s.replied .callTable 0x30#8 r (.refusal .recordsFull))))

/-- CHARGE by context and queue: STATE when the context is not OPEN, BUSY when the queue holds four; behind a head that is
in work it joins the tail with no reply, and changes nothing else but the rest count it stops (R24, R78, R79). -/
def Obligations.ChargeRefusedOrWaits : Prop :=
  ∀ (s : State) (r : Request) (p : Pos) (n : Byte),
    s.front .callTable = some r → r.body = .charge n → posOf r.pos = some p →
    ((s.ctx p).state ≠ .openCall → exec .charge s = .next (s.replied .callTable 0x31#8 r (.refusal .state))) ∧
    ((s.ctx p).state = .openCall → 4 ≤ (s.ctx p).queue.length →
      exec .charge s = .next (s.replied .callTable 0x31#8 r (.refusal .busy))) ∧
    ((s.ctx p).state = .openCall → (s.ctx p).queue.length < 4 → (s.unit p).work.isSome = true →
      ∃ t, exec .charge s = .next t ∧ (s.taken .callTable).sameApartFrom p t ∧
        t.ctx p = { s.ctx p with
          queue := (s.ctx p).queue ++ [{ tag := r.tag, pulses := n.toNat, steps := 0 }] } ∧
        t.unit p = { s.unit p with line := { s.line p with rest := none } } ∧
        t.link.outbound = s.link.outbound ∧ t.link.flags = s.link.flags)

/-- A charge taken into work with no step planned is settled at once, with no order to the card: DONE when credit covers
it, EXHAUSTED when the balance is 0; covered, uncovered, credit and totals by R63 and R67, then LOW and EXHAUSTED, and the
reply behind the notice they queue (R62, R65, R69, R70, R79); so too on a call opened after the closes of a RESTART (R162).
While a RESTART has its closes still to make such a charge stays in work, for the close by RESTART to settle it with its
call: the model's reading of R153 (log 14). -/
def Obligations.ChargeSettledAtOnce : Prop :=
  ∀ (s : State) (r : Request) (p : Pos) (n : Byte),
    s.front .callTable = some r → r.body = .charge n → posOf r.pos = some p → s.termsLawful →
    (s.ctx p).state = .openCall → (s.ctx p).queue = [] → (s.unit p).work = none → (s.unit p).resetWaits = false →
    n.toNat ≤ (s.ctx p).credit ∨ (s.ctx p).balance = 0 →
    let c := s.ctx p
    let covered := min n.toNat c.credit
    let done := n.toNat ≤ c.credit
    let low := c.threshold ≠ 0 ∧ c.balance * c.weight + (c.credit - covered) < c.threshold ∧ c.warned = false
    (s.restart ≠ .settling → ∃ t, exec .charge s = .next t ∧ (s.taken .callTable).sameApartFrom p t ∧
      t.ctx p = { c with
        credit := c.credit - covered
        covered := min (c.covered + covered) 4294967295
        uncovered := min (c.uncovered + (n.toNat - covered)) 4294967295
        warned := c.warned || decide low
        queue := [] } ∧
      t.unit p = { s.unit p with
        line := { s.line p with rest := (t.line p).rest }
        flags := (s.unit p).flags ||| (if low then 0x010#9 else 0#9) ||| (if done then 0#9 else 0x020#9) } ∧
      t.link.outbound = s.link.outbound ++
        (if ((low ∧ (s.unit p).flags &&& 0x010#9 = 0#9) ∨ (¬ done ∧ (s.unit p).flags &&& 0x020#9 = 0#9)) ∧
            (s.posSettings p).notify = true ∧ Message.positionNotice p ∉ s.link.outbound then
          [.positionNotice p] else []) ++
        [.reply 0x31#8 r.tag r.pos (.charge {
          outcome := if done then .done else .exhausted, covered := covered, uncovered := n.toNat - covered, steps := 0,
          balance := c.balance, credit := c.credit - covered, failing := none })] ∧
      t.link.flags = s.link.flags) ∧
    (s.restart = .settling → ∃ (t : State) (w : Work), exec .charge s = .next t ∧ (s.taken .callTable).sameApartFrom p t ∧
      t.ctx p = { c with queue := [{ tag := r.tag, pulses := n.toNat, steps := 0 }] } ∧
      t.unit p = { s.unit p with work := some w, line := { s.line p with rest := none } } ∧
      w.pulses = n.toNat ∧ w.credit = c.credit ∧ w.weight = c.weight ∧ w.balance = c.balance ∧ w.planned = 0 ∧
      w.step = none ∧ t.link.outbound = s.link.outbound ∧ t.link.flags = s.link.flags)

/-- A charge taken into work that needs a step plans it, and takes the step's form from the card image: the write is a BURN of
the lowest stage whose digit is below 7, and the step a carry when that stage is not S0 (R58, R61). It asks for a write
channel (R98): with one free and nobody waiting it is granted, the in-flight-write field is written and the order begun
(R82, R100); with all four held it waits. With the contacts at REST a WAKE goes first and no channel is asked for (R25,
R83). -/
def Obligations.ChargeAsksForBurn : Prop :=
  ∀ (s : State) (r : Request) (p : Pos) (n : Byte) (i : Image) (k : Stage),
    s.front .callTable = some r → r.body = .charge n → posOf r.pos = some p → 1 ≤ (s.ctx p).weight →
    (s.ctx p).state = .openCall → (s.ctx p).queue = [] → (s.unit p).work = none → (s.unit p).wait = none →
    s.restart = .none → (s.line p).state = .inCall → (s.line p).order = none →
    (∀ h ∈ s.arbiter.held, h.position ≠ p) → (∀ w ∈ s.arbiter.waiting, w.position ≠ p) →
    (s.ctx p).image = some i → i.tally.latch = 0 →
    (i.tally.digits.get k).val < 7 → (∀ j, j < k → (i.tally.digits.get j).val = 7) →
    (s.ctx p).credit < n.toNat → 1 ≤ (s.ctx p).balance →
    let c := s.ctx p
    let b := (n.toNat - c.credit + c.weight - 1) / c.weight
    let step : Step := { carry := decide (k ≠ 0), stage := k, awaited := .burn, sends := 0, begun := false }
    let work : Work := { pulses := n.toNat, credit := c.credit, weight := c.weight, balance := c.balance, needed := b,
                         planned := min b c.balance, step := some step }
    let queue : List Charge := [{ tag := r.tag, pulses := n.toNat, steps := 0 }]
    ((s.line p).contact = .powered → s.arbiter.granting = true → s.arbiter.held.length < 4 → s.arbiter.waiting = [] →
      ∃ t, exec .charge s = .next t ∧
        t.ctx p = { c with queue := queue, field := some { kind := .burn, stage := k, before := i.tally } } ∧
        t.unit p = { s.unit p with
          work := some { work with step := some { step with sends := 1, begun := true } }
          line := { s.line p with
            rest := none
            order := some { kind := .burn, stage := k, retry := false, begun := true, ended := false, elapsed := 0,
                            timeout := 25, purpose := .write } } } ∧
        (∀ q, q ≠ p → t.unit q = s.unit q ∧ t.ctx q = s.ctx q) ∧
        t = { s.taken .callTable with
          units := t.units, retained := { s.retained with ctxs := t.retained.ctxs }
          arbiter := { s.arbiter with held := s.arbiter.held ++ [{ position := p, kind := .burn, stage := k }] } }) ∧
    ((s.line p).contact = .powered → 4 ≤ s.arbiter.held.length →
      ∃ t, exec .charge s = .next t ∧
        t.ctx p = { c with queue := queue } ∧
        t.unit p = { s.unit p with work := some work, line := { s.line p with rest := none } } ∧
        (∀ q, q ≠ p → t.unit q = s.unit q ∧ t.ctx q = s.ctx q) ∧
        t = { s.taken .callTable with
          units := t.units, retained := { s.retained with ctxs := t.retained.ctxs }
          arbiter := { s.arbiter with waiting := s.arbiter.waiting ++
            [{ position := p, kind := .burn, stage := k, requester := .chargeProcessor }] } }) ∧
    ((s.line p).contact = .rest →
      ∃ t, exec .charge s = .next t ∧
        t.ctx p = { c with queue := queue } ∧
        t.unit p = { s.unit p with
          work := some work
          line := { s.line p with
            contact := .waking
            rest := none
            order := some { kind := .wake, stage := 0, retry := false, begun := true, ended := false, elapsed := 0,
                            timeout := 30, purpose := .wakeRequest } }
          reader := (s.unit p).reader.map fun x => match x with
            | .card y => .card { y with power := if y.power = .unpowered then .asleep else y.power }
            | .other => .other } ∧
        (∀ q, q ≠ p → t.unit q = s.unit q ∧ t.ctx q = s.ctx q) ∧
        t = { s.taken .callTable with units := t.units, retained := { s.retained with ctxs := t.retained.ctxs } })

/-- A call with no charge left is completed: by CLOSE at once, and by CLOSE_COMPLETION once it is CLOSING. The reservation
becomes the CALL record with end cause REQUESTED, the context goes to NONE and the position to READY, no CLOSED flag is
raised, and every CLOSE that waited gets the record (R87, R88, R127, R132). -/
def Obligations.CallCompletedRequested : Prop :=
  ∀ (s : State) (p : Pos), (s.ctx p).queue = [] →
    let c := s.ctx p
    let completes (i : Instr) (closes : List Byte) : Prop :=
      ∃ (t : State) (rec : CallRecord), exec i s = .next t ∧
        rec = { seq := s.retained.seqCounter, position := p, callId := c.callId, id := c.id,
                balanceAtOpen := c.balanceAtOpen, burned := c.burned, covered := c.covered, uncovered := c.uncovered,
                forfeited := c.credit, cause := .requested, mark := rec.mark, failing := none } ∧
        (c.field = none → rec.mark = c.mark ∧ t.retained.doubts = s.retained.doubts) ∧
        t.retained.records = s.retained.records ++ [.call rec] ∧
        t.retained.reservations =
          s.retained.reservations.filter (fun x => !(x.position = p && x.callId = c.callId)) ∧
        t.retained.seqCounter = (if s.retained.seqCounter = 65535 then 0 else s.retained.seqCounter + 1) ∧
        (t.ctx p).state = .noCall ∧ (t.ctx p).queue = [] ∧ (t.ctx p).image = c.image ∧
        (t.line p).state = .ready ∧ (t.unit p).terms = (s.unit p).terms ∧ (t.unit p).inForce = (s.unit p).inForce ∧
        (t.unit p).flags = (s.unit p).flags ∧ (t.unit p).closes = [] ∧
        t.link.flags = s.link.flags ||| 0x01#5 ∧
        t.link.outbound = s.link.outbound ++ s.partNoticeOf .recordsWaiting ++
          closes.map (fun tag => .reply 0x32#8 tag (posByte p) (.record rec)) ∧
        t.arbiter = s.arbiter ∧ (∀ q, q ≠ p → t.unit q = s.unit q ∧ t.ctx q = s.ctx q)
    (∀ r : Request, s.front .callTable = some r → r.body = .close → posOf r.pos = some p → c.state = .openCall →
      (s.unit p).resetWaits = false → completes .close ((s.unit p).closes ++ [r.tag])) ∧
    (c.state = .closing → s.powered = true → s.starting = none → completes (.closeCompletion p) (s.unit p).closes)

/-- CLOSE on a call whose head goes on (its RESTAGE is due, or an order begun for it is in flight): the context goes to
CLOSING and every charge behind the head is settled CUT, in queue order, with nothing covered (R66, R85, R86). A head with no
order in flight and no RESTAGE due, its BURN not yet sent or waiting to be sent again, is settled CUT as well, by R63: its
channel request is withdrawn and nothing is written for it (R86, R102). A CLOSE of a context that is not OPEN is refused
STATE, and one taken while a reset waits is held (R34, R85). -/
def Obligations.CloseCutsWaitingCharges : Prop :=
  ∀ (s : State) (r : Request) (p : Pos), s.front .callTable = some r → r.body = .close → posOf r.pos = some p →
    let c := s.ctx p
    let cut (x : Charge) : Message := .reply 0x31#8 x.tag (posByte p) (.charge {
      outcome := .cut, covered := 0, uncovered := x.pulses, steps := x.steps, balance := c.balance, credit := c.credit,
      failing := none })
    (c.state ≠ .openCall → exec .close s = .next (s.replied .callTable 0x32#8 r (.refusal .state))) ∧
    (c.state = .openCall → (s.unit p).resetWaits = true →
      exec .close s = .next { s.taken .callTable with
        units := s.units.set p.val { s.unit p with closes := (s.unit p).closes ++ [r.tag] } p.isLt }) ∧
    (∀ (h : Charge) (behind : List Charge), c.state = .openCall → (s.unit p).resetWaits = false →
      c.queue = h :: behind → s.headFinishes p = true →
      ∃ t, exec .close s = .next t ∧ (s.taken .callTable).sameApartFrom p t ∧
        (t.ctx p).state = .closing ∧ (t.ctx p).queue = [h] ∧ (t.ctx p).credit = c.credit ∧
        (t.ctx p).balance = c.balance ∧ (t.ctx p).covered = c.covered ∧
        (t.ctx p).uncovered =
          (if behind = [] then c.uncovered else min (c.uncovered + (behind.map (·.pulses)).sum) 4294967295) ∧
        (t.ctx p).image = c.image ∧ (t.ctx p).field = c.field ∧
        (t.unit p).closes = (s.unit p).closes ++ [r.tag] ∧ (t.unit p).line = s.line p ∧
        (t.unit p).work = (s.unit p).work ∧
        t.link.outbound.filter Message.isReply = s.link.outbound.filter Message.isReply ++ behind.map cut) ∧
    (∀ (h : Charge) (behind : List Charge) (w : Work), c.state = .openCall → (s.unit p).resetWaits = false →
      c.queue = h :: behind → (s.unit p).work = some w → (∀ st, w.step = some st → st.awaited = .burn) →
      (s.line p).order = none →
      let a := w.credit + h.steps * w.weight
      let covered := min h.pulses a
      ∃ t, exec .close s = .next t ∧
        (∀ q, q ≠ p → t.unit q = s.unit q ∧ t.ctx q = s.ctx q) ∧
        t.arbiter = { s.arbiter with waiting := s.arbiter.waiting.filter fun x => x.position ≠ p } ∧
        t.retained = { s.retained with ctxs := t.retained.ctxs } ∧ t.working = s.working ∧
        t.link.flags = s.link.flags ∧
        (t.ctx p).state = .closing ∧ (t.ctx p).queue = [] ∧ (t.ctx p).credit = a - covered ∧
        (t.ctx p).balance = c.balance ∧ (t.ctx p).burned = c.burned ∧
        (t.ctx p).covered = min (c.covered + covered) 4294967295 ∧
        (t.ctx p).uncovered =
          min (c.uncovered + (behind.map (·.pulses)).sum + (h.pulses - covered)) 4294967295 ∧
        (t.ctx p).image = c.image ∧ (t.ctx p).field = c.field ∧
        (t.unit p).closes = (s.unit p).closes ++ [r.tag] ∧ (t.unit p).work = none ∧
        (t.line p).state = (s.line p).state ∧ (t.line p).contact = (s.line p).contact ∧ (t.line p).order = none ∧
        t.link.outbound.filter Message.isReply = s.link.outbound.filter Message.isReply ++ behind.map cut ++
          [.reply 0x31#8 h.tag (posByte p) (.charge {
            outcome := .cut, covered := covered, uncovered := h.pulses - covered, steps := h.steps, balance := c.balance,
            credit := a - covered, failing := none })])

/-- The settlement of a charge in work (R61, R63, R67): covered and uncovered make up its pulses, covered and credit take
in exactly what its counted steps bought, the credit stays below the weight, and the steps needed are the fewest that
reach its pulses. -/
def Obligations.SettlementKeepsPulseLaw : Prop :=
  ∀ (c : Context) (h : Charge) (rest : List Charge),
    c.queue = h :: rest → 1 ≤ c.weight → c.credit < c.weight →
    let w := planCharge c h
    let after := c.settleHead (w.available h)
    h.steps ≤ w.planned → c.covered + h.pulses ≤ 4294967295 → c.uncovered + h.pulses ≤ 4294967295 →
    (h.pulses ≤ c.credit + w.needed * c.weight ∧ ∀ m, h.pulses ≤ c.credit + m * c.weight → w.needed ≤ m) ∧
    w.planned = min w.needed c.balance ∧
    after.covered + after.uncovered = c.covered + c.uncovered + h.pulses ∧
    after.covered + after.credit = c.covered + c.credit + h.steps * c.weight ∧
    after.credit < c.weight ∧
    (h.steps = w.needed → after.uncovered = c.uncovered) ∧ (h.steps < w.needed → after.credit = 0) ∧
    after = { c with credit := after.credit, covered := after.covered, uncovered := after.uncovered, queue := rest }

/-! ## Records and doubts -/

/-- TAKE RECORDS carries the oldest records, 1 to 4 of them by its count, in the order in which they were stored. Then the
held entries, those RESOLVED whose records found no room, store their records at the tail in creation order while the stored
records and reservations stay below 64, and leave the doubt list; RECORDS_WAITING is raised when any was stored, and the
reply says how many records are left (R120, R133, R134, R136). Entries leave by their creation number (log 40). -/
def Obligations.TakeRecordsHandsOldest : Prop :=
  ∀ (s : State) (r : Request) (count : Byte), s.front .recordList = some r → r.body = .takeRecords count →
    s.retained.seqCounter ≤ 65535 →
    let m := s.retained
    let k := if count = 0#8 then 1 else min count.toNat 4
    let held := (m.doubts.filter fun e => e.resolved.isSome).take
      (64 - ((m.records.drop k).length + m.reservations.length))
    let new := held.zipIdx.map fun (e, i) => Record.resolution {
      seq := (m.seqCounter + i) % 65536, id := e.id, callId := e.callId, stage := e.stage
      outcome := (e.resolved.map (·.1)).getD .mismatch, position := (e.resolved.map (·.2)).getD 0 }
    let left := m.records.drop k ++ new
    exec .takeRecords s = .next { s with
      retained := { m with
        records := left
        doubts := m.doubts.filter fun x => x.creation ∉ held.map (·.creation)
        seqCounter := (m.seqCounter + held.length) % 65536 }
      link := { s.link with
        received := s.link.received.eraseP fun x => x.owner = .recordList
        flags := s.link.flags ||| (if held = [] then 0#5 else 0x01#5)
        outbound := s.link.outbound ++ (if held = [] then [] else s.partNoticeOf .recordsWaiting) ++
          [.reply 0x40#8 r.tag r.pos (.records left.length (m.records.take k))] } }

/-- DOUBT READ: the two counts and up to 6 entries in creation order from its start index; it changes nothing (R122). -/
def Obligations.DoubtReadReplies : Prop :=
  ∀ (s : State) (r : Request) (start : Byte), s.front .doubtList = some r → r.body = .doubtRead start →
    exec .doubtRead s = .next (s.replied .doubtList 0x41#8 r
      (.doubts (s.retained.doubts.filter fun e => e.resolved.isNone).length
        (s.retained.doubts.filter fun e => e.resolved.isSome).length
        ((s.retained.doubts.drop start.toNat).take 6)))

/-- DOUBT DISCARD: the PENDING entry of the identity is removed, with no record and the creation counter as it was; STATE
when it has RESOLVED entries only, NOT_FOUND when it has none (R123). -/
def Obligations.DoubtDiscardOutcomes : Prop :=
  ∀ (s : State) (r : Request) (i : Identity), s.front .doubtList = some r → r.body = .doubtDiscard i →
    (∀ (before : List DoubtEntry) (e : DoubtEntry) (behind : List DoubtEntry),
      s.retained.doubts = before ++ e :: behind → e.id = i → e.resolved = none →
      (∀ x ∈ before, ¬ (x.id = i ∧ x.resolved = none)) →
      exec .doubtDiscard s = .next ({ s with retained := { s.retained with doubts := before ++ behind } }.replied
        .doubtList 0x42#8 r .ok)) ∧
    ((∀ x ∈ s.retained.doubts, x.id = i → x.resolved.isSome = true) →
      ((∃ x ∈ s.retained.doubts, x.id = i) →
        exec .doubtDiscard s = .next (s.replied .doubtList 0x42#8 r (.refusal .state))) ∧
      ((∀ x ∈ s.retained.doubts, x.id ≠ i) →
        exec .doubtDiscard s = .next (s.replied .doubtList 0x42#8 r (.refusal .notFound))))

/-! ## Requests to a position -/

/-- RESET POSITION: refused STATE in TESTING; else it waits at the position, the position's channel request is withdrawn,
and a read in flight that is not of a write in progress is abandoned; nothing is taken while an earlier request waits there
(R33, R34). A completion that is due is made first (log 12), and the read kept is that of `awaited`, which takes in the READ
TALLY after a refusal that came while something waited: the model's reading (log 15). -/
def Obligations.ResetPositionTaken : Prop :=
  ∀ (s : State) (r : Request) (p : Pos),
    s.front (.lineUnit (posByte p)) = some r → r.body = .resetPosition →
    ((s.unit p).wait.isSome = true → exec (.resetPosition p) s = .next s) ∧
    ((s.unit p).wait = none → (s.line p).state = .testing →
      exec (.resetPosition p) s = .next (s.replied (.lineUnit (posByte p)) 0x33#8 r (.refusal .state))) ∧
    ((s.unit p).wait = none → (s.line p).state ≠ .testing → (s.ctx p).completionDue = false →
      (s.line p).unsent = false →
      exec (.resetPosition p) s = .next { s.taken (.lineUnit (posByte p)) with
        arbiter := { s.arbiter with waiting := s.arbiter.waiting.filter fun w => w.position ≠ p }
        units := s.units.set p.val { s.unit p with
          line := { s.line p with order := if (s.line p).awaited then (s.line p).order else none }
          wait := some (.reset r.tag) } p.isLt })

/-- RESET POSITION acts once no write is in progress, by the state it finds: nothing in OFF, the check latch cleared in
EMPTY, else the identification begun again, a call being closed POSITION_RESET first; then its reply (R33, R36, R92). While
a write is in progress it waits (R33). The record of that call has the figures of its charges, which are settled RESET, the
head by R63 and the others by R66; their replies come first, then the record to each CLOSE that waited, then the reset's own
(R34, R67, R71, R88, R94). -/
def Obligations.ResetPositionActs : Prop :=
  ∀ (s : State) (p : Pos) (tag : Byte), (s.unit p).wait = some (.reset tag) →
    let reply : Message := .reply 0x33#8 tag (posByte p) .ok
    ((s.line p).writeInProgress = true → exec (.resetPositionAct p) s = .next s) ∧
    ((s.line p).awaited = false →
      ((s.line p).state = .off → ∃ t, exec (.resetPositionAct p) s = .next t ∧ s.sameApartFrom p t ∧
        t.unit p = { s.unit p with wait := none } ∧ t.ctx p = s.ctx p ∧
        t.link.outbound = s.link.outbound ++ [reply]) ∧
      ((s.line p).state = .empty → ∃ t, exec (.resetPositionAct p) s = .next t ∧ s.sameApartFrom p t ∧
        t.unit p = { s.unit p with wait := none, line := { s.line p with checkLatch := false } } ∧ t.ctx p = s.ctx p ∧
        t.link.outbound = s.link.outbound ++ [reply]) ∧
      ((s.line p).state ≠ .off → (s.line p).state ≠ .empty → (s.line p).state ≠ .testing →
        ∃ t, exec (.resetPositionAct p) s = .next t ∧
          (t.line p).state = .identifying ∧ (t.line p).cause = none ∧ (t.line p).checkLatch = false ∧
          (t.line p).shownId = none ∧ (t.line p).shownTally = none ∧ (t.unit p).held = none ∧
          (t.unit p).terms = none ∧ (t.unit p).inForce = false ∧ (t.unit p).wait = none ∧
          (∃ q : Sequence, (t.unit p).seq = some q ∧ q.step = 1 ∧ q.header = none ∧ q.tally = none) ∧
          (s.restart = .none → (t.line p).contact = .waking ∧
            ∃ o : Order, (t.line p).order = some o ∧ o.kind = .wake ∧ o.begun = true ∧ o.retry = false) ∧
          (s.restart ≠ .none → (t.line p).contact = .unpowered ∧ (t.line p).order = none) ∧
          t.link.outbound.getLast? = some reply ∧
          ((s.line p).state ≠ .inCall → s.sameApartFrom p t ∧ t.ctx p = s.ctx p ∧
            (t.unit p).flags = (s.unit p).flags ∧ t.link.outbound = s.link.outbound ++ [reply]) ∧
          ((s.line p).state = .inCall → (s.ctx p).state ≠ .noCall →
            (t.ctx p).state = .noCall ∧ (t.ctx p).queue = [] ∧ (t.ctx p).field = none ∧ (t.unit p).closes = [] ∧
            (t.unit p).work = none ∧ (t.unit p).flags &&& 0x040#9 = 0x040#9 ∧
            t.link.flags = s.link.flags ||| 0x01#5 ∧
            ∃ rec : CallRecord, t.retained.records = s.retained.records ++ [.call rec] ∧
              rec.cause = .positionReset ∧ rec.position = p ∧ rec.callId = (s.ctx p).callId ∧
              rec.id = (s.ctx p).id ∧ rec.balanceAtOpen = (s.ctx p).balanceAtOpen ∧
              rec.burned = (s.ctx p).burned ∧ rec.seq = s.retained.seqCounter ∧ rec.failing = none ∧
              s.cutFigures p rec ∧
              ((s.ctx p).field = none → rec.mark = (s.ctx p).mark ∧ t.retained.doubts = s.retained.doubts) ∧
              t.link.outbound.filter Message.isReply = s.link.outbound.filter Message.isReply ++
                s.cutReplies p .reset none ++ s.closeReplies p rec ++ [reply])))

/-- CONFIGURE: RANGE for a byte that names no value of its kind (R169), STATE in TESTING and for taking a position in call
out of service; else the settings are written, and the in-service change acts: to EMPTY, or IDENTIFYING with INSERTED, or
OFF, the last after a write in progress (R22, R148). The order RANGE before STATE is the model's (log 26), a completion
that is due is made first (log 12), and what the last waits for is `awaited`, the READ TALLY after a refusal that came while
something waited included: the model's reading (log 15). -/
def Obligations.ConfigureOutcomes : Prop :=
  ∀ (s : State) (r : Request) (p : Pos) (i n c : Byte),
    s.front (.lineUnit (posByte p)) = some r → r.body = .configure i n c → (s.unit p).wait = none →
    (s.ctx p).completionDue = false →
    let o : Owner := .lineUnit (posByte p)
    let set : Settings := { s.working with
      posns := s.working.posns.set p.val
        { inService := decide (i = 1#8), notify := decide (n = 1#8),
          lineClass := if c = 1#8 then .long else .short } p.isLt }
    let legal := i.toNat ≤ 1 ∧ n.toNat ≤ 1 ∧ c.toNat ≤ 1
    (¬ legal → exec (.configure p) s = .next (s.replied o 0x12#8 r (.refusal .range))) ∧
    (legal → (s.line p).state = .testing ∨ ((s.line p).state = .inCall ∧ i = 0#8) →
      exec (.configure p) s = .next (s.replied o 0x12#8 r (.refusal .state))) ∧
    (legal → (s.line p).state ≠ .testing →
      ((s.line p).state = .off ∧ i = 0#8) ∨ ((s.line p).state ≠ .off ∧ i = 1#8) →
      exec (.configure p) s = .next ({ s with working := set }.replied o 0x12#8 r .ok)) ∧
    (legal → (s.line p).state = .off → i = 1#8 → (s.line p).present = false →
      exec (.configure p) s = .next ({ s with
        working := set
        units := s.units.set p.val { s.unit p with line := { s.line p with state := .empty } } p.isLt }.replied
          o 0x12#8 r .ok)) ∧
    (legal → (s.line p).state = .off → i = 1#8 → (s.line p).present = true →
      ∃ t, exec (.configure p) s = .next t ∧ ({ s.taken o with working := set }).sameApartFrom p t ∧
        t.ctx p = s.ctx p ∧ (t.line p).state = .identifying ∧ (t.line p).cause = none ∧
        (t.unit p).flags = (s.unit p).flags ||| 0x001#9 ∧
        t.link.outbound.getLast? = some (.reply 0x12#8 r.tag r.pos .ok)) ∧
    (legal → (s.line p).state ≠ .off → (s.line p).state ≠ .testing → (s.line p).state ≠ .inCall → i = 0#8 →
      (s.line p).unsent = false →
      ((s.line p).awaited = true → exec (.configure p) s = .next { s.taken o with
        working := set
        arbiter := { s.arbiter with waiting := s.arbiter.waiting.filter fun w => w.position ≠ p }
        units := s.units.set p.val { s.unit p with wait := some (.configure r.tag) } p.isLt }) ∧
      ((s.line p).awaited = false →
        ∃ t, exec (.configure p) s = .next t ∧ (t.line p).state = .off ∧ (t.line p).contact = .unpowered ∧
          (t.line p).order = none ∧ (t.line p).checkLatch = false ∧ (t.line p).cause = (s.line p).cause ∧
          (t.unit p).held = none ∧ (t.unit p).terms = none ∧ (t.unit p).inForce = false ∧ (t.ctx p).field = none ∧
          t.working = set ∧ t.link.outbound = s.link.outbound ++ [.reply 0x12#8 r.tag r.pos .ok]))

/-- CONFIGURE_OUT_OF_SERVICE_ACT: once the write in progress has settled, the position goes OFF and the CONFIGURE gets its
reply (R22, R23, R43). While the write is in progress it waits (R22). -/
def Obligations.ConfigureOutOfServiceActs : Prop :=
  ∀ (s : State) (p : Pos) (tag : Byte), (s.unit p).wait = some (.configure tag) →
    ((s.line p).writeInProgress = true → exec (.configureOutOfServiceAct p) s = .next s) ∧
    ((s.line p).awaited = false → (s.line p).state ≠ .testing → (s.line p).unsent = false →
      ∃ t, exec (.configureOutOfServiceAct p) s = .next t ∧ (t.line p).state = .off ∧ (t.unit p).wait = none ∧
        (t.unit p).flags = (s.unit p).flags ∧ (t.line p).cause = (s.line p).cause ∧
        ((s.line p).state ≠ .off → (t.line p).contact = .unpowered ∧ (t.unit p).held = none ∧
          (t.unit p).terms = none ∧ (t.unit p).inForce = false ∧ (t.unit p).seq = none) ∧
        (∀ q, q ≠ p → t.unit q = s.unit q ∧ t.ctx q = s.ctx q) ∧ t.retained.records = s.retained.records ∧
        t.working = s.working ∧ t.link.outbound = s.link.outbound ++ [.reply 0x12#8 tag (posByte p) .ok])

/-! ## Self-test and RESTART -/

/-- SELF TEST: BUSY while a SAVE writes or a test runs; else every named EMPTY or OFF position goes to TESTING and begins
its loopback, every other position is coded SKIPPED, and with none to test the reply is formed at once (R163, R165). -/
def Obligations.SelfTestTaken : Prop :=
  ∀ (s : State) (r : Request) (mask : Quad), s.front .selfTest = some r → r.body = .selfTest mask →
    let joins (p : Pos) : Prop := mask.getLsbD p.val = true ∧ ((s.line p).state = .empty ∨ (s.line p).state = .off)
    (s.save.isSome = true ∨ s.test.isSome = true →
      exec .selfTest s = .next (s.replied .selfTest 0x52#8 r (.refusal .busy))) ∧
    (s.save = none → s.test = none → s.restart = .none → (∀ p, ¬ joins p) →
      exec .selfTest s = .next (s.replied .selfTest 0x52#8 r (.test
        (if s.storeCheck = true ∧ s.retained.check = true then 0x01#8
         else natByte ((if s.storeCheck then 0 else 2) + (if s.retained.check then 0 else 4)))
        (List.replicate 32 0x10#8)))) ∧
    (s.save = none → s.test = none → s.restart = .none → (∃ p, joins p) →
      ∃ (t : State) (run : TestRun), exec .selfTest s = .next t ∧ t.test = some run ∧
        run.mask = mask ∧ run.tag = r.tag ∧ run.pos = r.pos ∧ run.storeGood = s.storeCheck ∧ run.retainedGood = s.retained.check ∧
        (∀ p, joins p → run.codes[p.val]'p.isLt = none ∧ (t.line p).state = .testing ∧
          (∃ x : PosTest, (t.unit p).test = some x ∧ (x.wasOff = true ↔ (s.line p).state = .off)) ∧
          ∃ o : Order, (t.line p).order = some o ∧ o.kind = .loopback ∧ o.purpose = .test) ∧
        (∀ p, ¬ joins p → run.codes[p.val]'p.isLt = some 0x10#8 ∧ t.unit p = s.unit p) ∧
        t.link = (s.taken .selfTest).link ∧ t.retained = s.retained ∧ t.working = s.working ∧ t.arbiter = s.arbiter)

/-- The line test of one position (R164 to R166): a loopback frame returned unchanged leads to the echo order, one returned
changed or not at all is coded 0x01; an echo answer with its pattern is coded 0x00; a missing or a corrupt one is sent again
once, and then coded 0x02 or 0x03. With its code the position leaves TESTING for the state it left, and a card found seated
is taken as inserted; with the last code the reply is formed, its part code by R165. An echo that carries the first
attempt's pattern is passed over at the retry, and bytes that are no frame always (logs 18, 29). That an echo of malformed
content counts as corrupt (log 43), and that the notice of an insertion acted on comes before the reply (log 41), are the
model's choices. -/
def Obligations.LineTestCodes : Prop :=
  ∀ (s : State) (p : Pos) (run : TestRun) (x : PosTest) (o : Order),
    s.test = some run → (s.unit p).test = some x → (s.line p).order = some o → o.purpose = .test →
    let coded (c : Byte) (i : Instr) : Prop :=
      let codes := run.codes.set p.val (some c) p.isLt
      let list := codes.toList.map fun y => y.getD 0#8
      let failures := (if list.any fun y => y = 0x01#8 || y = 0x02#8 || y = 0x03#8 then 0x80 else 0) +
        (if run.storeGood then 0 else 0x02) + (if run.retainedGood then 0 else 0x04)
      let part : Byte := if failures = 0 then 0x01#8 else BitVec.ofNat 8 failures
      let last : Bool := positions.all fun q => q = p || (run.codes[q.val]'q.isLt).isSome
      let test := if last then none else some { run with codes := codes }
      let reply : List Message := if last then [.reply 0x52#8 run.tag run.pos (.test part list)] else []
      ((s.line p).present = false ∨ x.wasOff = true → exec i s = .next { s with
        test := test
        units := s.units.set p.val { s.unit p with
          test := none, line := { s.line p with state := if x.wasOff then .off else .empty, order := none } } p.isLt
        link := { s.link with outbound := s.link.outbound ++ reply } }) ∧
      ((s.line p).present = true → x.wasOff = false → ∃ t, exec i s = .next t ∧ t.test = test ∧
        (t.line p).state = .identifying ∧ (t.line p).present = true ∧ (t.unit p).test = none ∧
        (t.unit p).flags = (s.unit p).flags ||| 0x001#9 ∧ t.ctx p = s.ctx p ∧
        t.link.outbound = s.link.outbound ++ s.noticeOf p .inserted ++ reply ∧
        ∀ q, q ≠ p → t.unit q = s.unit q ∧ t.ctx q = s.ctx q)
    let echoes (retry : Bool) (i : Instr) : Prop := ∃ (t : State) (e : Order) (y : PosTest), exec i s = .next t ∧
      (t.line p).order = some e ∧ e.kind = .echo ∧ e.retry = retry ∧ e.begun = true ∧ e.purpose = .test ∧
      (t.unit p).test = some y ∧ y.wasOff = x.wasOff ∧ (retry = true → y.pattern ≠ x.pattern) ∧
      t.test = s.test ∧ (t.line p).state = (s.line p).state ∧ s.sameApartFrom p t
    (o.kind = .loopback →
      echoes false (.loopbackReturn p (lineFrame 0x07#8 (quadBytes x.pattern))) ∧
      (∀ bs, readLineFrame bs ≠ .good 0x07#8 (quadBytes x.pattern) → coded 0x01#8 (.loopbackReturn p bs)) ∧
      coded 0x01#8 (.loopbackTimeout p)) ∧
    (o.kind = .echo →
      coded 0x00#8 (.echoAnswer p (lineFrame 0x06#8 (0#8 :: quadBytes x.pattern))) ∧
      (o.ended = true → o.retry = false → echoes true (.echoTimeout p)) ∧
      (o.ended = true → o.retry = true → coded 0x02#8 (.echoTimeout p)) ∧
      (∀ bs : List Byte,
        (readLineFrame bs = .bad ∨ ∃ content, readLineFrame bs = .good 0x06#8 content ∧
          content ≠ 0#8 :: quadBytes x.pattern ∧ ∀ q, x.earlier = some q → content ≠ 0#8 :: quadBytes q) →
        (o.retry = false → echoes true (.echoAnswer p bs)) ∧ (o.retry = true → coded 0x03#8 (.echoAnswer p bs))) ∧
      (∀ (bs : List Byte) (q : Quad),
        readLineFrame bs = .noFrame ∨ (x.earlier = some q ∧ q ≠ x.pattern ∧ bs = lineFrame 0x06#8 (0#8 :: quadBytes q)) →
        exec (.echoAnswer p bs) s = .next s))

/-- RESTART: answered OK at once, the hold line asserted, granting stopped and every request withdrawn, a self-test ended
with no reply; where no write is in progress every open call is closed (R95, R110, R153, R167), with end cause RESTART, its
charges settled RESTART and each CLOSE that waits answered with its record; a call whose completion is due has end cause
REQUESTED (log 12), and the calls come in an order the model leaves free (log 9). That the closes are made within RESTART is
the model's choice (log 13), that a second RESTART received before the first was taken is worked as the first is too (log 39),
and that it waits for the READ TALLY after a refusal too is its reading (log 15). -/
def Obligations.RestartTaken : Prop :=
  ∀ (s : State) (r : Request), s.front .linkPort = some r → r.body = .restart →
    ∃ (t : State) (more : List Message), exec .restart s = .next t ∧
      t.link.outbound = s.link.outbound ++ [.reply 0x5F#8 r.tag r.pos .ok] ++ more ∧
      t.link.hold = true ∧ t.restart ≠ .none ∧ t.arbiter.granting = false ∧ t.arbiter.waiting = [] ∧ t.test = none ∧
      (∀ p, (t.line p).state ≠ .testing) ∧ t.working = s.working ∧ t.stored = s.stored ∧
      t.link.outstanding = s.link.outstanding ∧
      (s.writesSettled = true → t.restart = .closed ∧
        (∀ p, (t.ctx p).state = .noCall ∧
          ((s.ctx p).state ≠ .noCall → (t.ctx p).queue = [] ∧ (t.unit p).work = none ∧ (t.unit p).closes = [])) ∧
        ∃ new : List CallRecord,
          (new.map (·.position)).Perm (positions.filter fun p => (s.ctx p).state ≠ .noCall) ∧
          t.retained.records = s.retained.records ++ new.map .call ∧
          (s.retained.seqCounter ≤ 65535 →
            new.map (·.seq) = (List.range new.length).map fun i => (s.retained.seqCounter + i) % 65536) ∧
          (∀ c ∈ new,
            let x := s.ctx c.position
            c.cause = (if x.completionDue then .requested else .restart) ∧ c.callId = x.callId ∧ c.id = x.id ∧
            c.balanceAtOpen = x.balanceAtOpen ∧ c.burned = x.burned ∧ c.failing = none ∧
            s.cutFigures c.position c) ∧
          t.link.outbound.filter Message.isReply = s.link.outbound.filter Message.isReply ++
            [.reply 0x5F#8 r.tag r.pos .ok] ++
            new.flatMap fun c => s.cutReplies c.position .restart none ++ s.closeReplies c.position c) ∧
      ((∃ p, (s.line p).awaited = true ∧ (s.line p).state ≠ .testing) →
        t.restart = .settling ∧ t.retained.records = s.retained.records)

/-! ## Presence and rest -/

/-- Loop current that stops sets a running insertion count back, or begins the removal count, and the card loses its power
at the point it had reached; current that starts begins the insertion count, or ends the removal count, and a break that
was no removal leaves WAKING or POWERED contacts at REST (R1, R13, R18, R19, R25). -/
def Obligations.LoopCurrentSensed : Prop :=
  ∀ (s : State) (p : Pos), s.powered = true →
    (∀ (point : Nat) (x : Seated), (s.unit p).reader = some x →
      exec (.loopCurrentChange p (.stops point)) s = .next { s with
        cardsOut := (match x with
          | .card c => cardCut point c :: s.cardsOut
          | .other => s.cardsOut)
        units := s.units.set p.val { s.unit p with
          reader := none
          line := { s.line p with debounce := if (s.line p).present then some 0 else none } } p.isLt }) ∧
    (∀ (y : Seating) (x : Seated) (out : List Card), (s.unit p).reader = none → s.seating y = some (x, out) →
      (∀ c : Card, x = .card c → c.power = .unpowered) →
      let seated (l : LineUnit) : Host.Outcome State Fault Refusal :=
        .next { s with cardsOut := out, units := s.units.set p.val { s.unit p with reader := some x, line := l } p.isLt }
      let run := exec (.loopCurrentChange p (.starts y)) s
      ((s.line p).present = false → run = seated { s.line p with debounce := some 0 }) ∧
      ((s.line p).present = true → (s.line p).contact = .unpowered ∨ (s.line p).contact = .rest →
        run = seated { s.line p with debounce := none }) ∧
      ((s.line p).present = true → (s.line p).contact = .waking ∨ (s.line p).contact = .powered →
        run = seated { s.line p with debounce := none, contact := .rest, rest := none }))

/-- An insertion whose count has run makes presence PRESENT. In EMPTY the identification begins with its first WAKE and
INSERTED is raised; in OFF and TESTING nothing else changes, nor before the end of start-up, which acts on it then (R18,
R21, R23, R36, R37, R161). -/
def Obligations.InsertionBeginsIdentification : Prop :=
  ∀ (s : State) (p : Pos), (s.line p).present = false → (s.line p).debounce.isSome = true →
    ((s.line p).state = .empty → s.powered = true → s.starting = none →
      ∃ t, exec (.insertion p) s = .next t ∧ s.sameApartFrom p t ∧ t.ctx p = s.ctx p ∧
      (t.line p).state = .identifying ∧ (t.line p).present = true ∧ (t.line p).debounce = none ∧
      (t.line p).cause = none ∧
      (t.unit p).seq = some { step := 1, reread := false, header := none, tally := none, sends := 0 } ∧
      (t.unit p).flags = (s.unit p).flags ||| 0x001#9 ∧
      t.link.outbound = s.link.outbound ++ s.noticeOf p .inserted ∧
      (s.mayBegin p = true → (t.line p).contact = .waking ∧
        (t.line p).order = some { kind := .wake, stage := 0, retry := false, begun := true, ended := false, elapsed := 0,
                                  timeout := 30, purpose := .firstWake })) ∧
    ((s.line p).state = .off ∨ (s.line p).state = .testing ∨ s.starting.isSome = true →
      exec (.insertion p) s = .next { s with units := s.units.set p.val { s.unit p with
        line := { s.line p with present := true, debounce := none } } p.isLt })

/-- A removal whose count has run takes a position with a card to EMPTY, raises REMOVED, and keeps its cause; in OFF, EMPTY
and TESTING only presence changes (R19, R21, R43). In a call with no BURN in progress the call is closed REMOVED: the head is
settled by R63, the charges behind it by R66, the RESTAGE field, if any, is cleared and is no tear, and the CLOSEs that
waited get the record (R90, R94). A reset or a CONFIGURE that a write in progress holds up goes on waiting (R34). One that
nothing holds up acts first, the reset closing a call POSITION_RESET, the CONFIGURE leaving OFF, where the removal raises no
REMOVED; its reply follows the removal. Which of the two comes first is the model's choice (log 12). -/
def Obligations.RemovalEmptiesPosition : Prop :=
  ∀ (s : State) (p : Pos), (s.line p).present = true → (s.line p).debounce.isSome = true →
    (s.ctx p).completionDue = false → s.restart = .none → s.arbiter.lawful →
    let seated := (s.line p).state = .identifying ∨ (s.line p).state = .rejected ∨ (s.line p).state = .ready ∨
      (s.line p).state = .inCall ∨ (s.line p).state = .faulted
    let nothingActs := (s.unit p).wait = none ∨ (s.line p).awaited = true
    (nothingActs → (s.line p).state = .off ∨ (s.line p).state = .empty ∨ (s.line p).state = .testing →
      exec (.removal p) s = .next { s with units := s.units.set p.val { s.unit p with
        line := { s.line p with present := false, debounce := none } } p.isLt }) ∧
    (∀ tag : Byte, (s.unit p).wait = some (.configure tag) → (s.line p).awaited = false → seated →
      (s.line p).state ≠ .inCall → ∃ t, exec (.removal p) s = .next t ∧ (t.line p).state = .off ∧
        (t.line p).present = false ∧ (t.line p).contact = .unpowered ∧ (t.unit p).wait = none ∧ (t.unit p).held = none ∧
        (t.unit p).flags = (s.unit p).flags ∧ t.retained.records = s.retained.records ∧
        t.link.outbound = s.link.outbound ++ [.reply 0x12#8 tag (posByte p) .ok]) ∧
    (∀ tag : Byte, (s.unit p).wait = some (.reset tag) → (s.line p).awaited = false →
      (s.line p).state = .off ∨ (s.line p).state = .empty → ∃ t, exec (.removal p) s = .next t ∧
        (t.line p).state = (s.line p).state ∧ (t.line p).present = false ∧ (t.unit p).wait = none ∧
        t.retained = s.retained ∧ t.link.outbound = s.link.outbound ++ [.reply 0x33#8 tag (posByte p) .ok]) ∧
    (∀ tag : Byte, (s.unit p).wait = some (.reset tag) → (s.line p).awaited = false → seated →
      ∃ t, exec (.removal p) s = .next t ∧ (t.line p).state = .empty ∧ (t.line p).present = false ∧
        (t.line p).order = none ∧ (t.line p).contact = .unpowered ∧ (t.unit p).wait = none ∧ (t.unit p).held = none ∧
        (t.unit p).flags &&& 0x002#9 = 0x002#9 ∧ t.link.outbound.getLast? = some (.reply 0x33#8 tag (posByte p) .ok) ∧
        ((s.line p).state ≠ .inCall → t.retained.records = s.retained.records) ∧
        ((s.line p).state = .inCall → (s.ctx p).state ≠ .noCall →
          (t.ctx p).state = .noCall ∧ (t.ctx p).queue = [] ∧
          ∃ rec : CallRecord, t.retained.records = s.retained.records ++ [.call rec] ∧ rec.cause = .positionReset ∧
            rec.position = p ∧ rec.callId = (s.ctx p).callId ∧ s.cutFigures p rec ∧
            t.link.outbound.filter Message.isReply = s.link.outbound.filter Message.isReply ++
              s.cutReplies p .reset none ++ s.closeReplies p rec ++ [.reply 0x33#8 tag (posByte p) .ok])) ∧
    (nothingActs → seated → ∃ t, exec (.removal p) s = .next t ∧
      (t.line p).state = .empty ∧ (t.unit p).wait = (s.unit p).wait ∧ (t.line p).present = false ∧ (t.line p).contact = .unpowered ∧
      (t.line p).order = none ∧ (t.line p).cause = (s.line p).cause ∧ (t.line p).checkLatch = false ∧
      (t.line p).shownId = none ∧ (t.unit p).held = none ∧ (t.unit p).terms = none ∧ (t.unit p).seq = none ∧
      (t.unit p).inForce = false ∧ (t.unit p).flags &&& 0x002#9 = 0x002#9 ∧
      t.working = s.working ∧ t.link.received = s.link.received ∧
      (∀ w ∈ t.arbiter.waiting, w.position ≠ p) ∧ (∀ h ∈ t.arbiter.held, h.position ≠ p) ∧
      ((s.line p).state ≠ .inCall →
        t.retained.records = s.retained.records ∧ t.retained.doubts = s.retained.doubts) ∧
      ((s.line p).state = .inCall → (s.ctx p).state ≠ .noCall →
        (∀ f, (s.ctx p).field = some f → f.kind = .restage) →
        let c := s.ctx p
        let replies (new : List Message) : Prop :=
          t.link.outbound.filter Message.isReply = s.link.outbound.filter Message.isReply ++ new
        ∃ rec : CallRecord, t.retained.records = s.retained.records ++ [.call rec] ∧
          rec.seq = s.retained.seqCounter ∧ rec.position = p ∧ rec.callId = c.callId ∧ rec.id = c.id ∧
          rec.balanceAtOpen = c.balanceAtOpen ∧ rec.burned = c.burned ∧ rec.cause = .removed ∧ rec.mark = c.mark ∧
          rec.failing = none ∧ t.retained.doubts = s.retained.doubts ∧ (t.ctx p).state = .noCall ∧
          (t.ctx p).field = none ∧ (t.ctx p).queue = [] ∧ (t.unit p).work = none ∧ (t.unit p).closes = [] ∧
          (t.unit p).flags &&& 0x042#9 = 0x042#9 ∧ t.link.flags = s.link.flags ||| 0x01#5 ∧
          (let closes : List Message := (s.unit p).closes.map fun tag => .reply 0x32#8 tag (posByte p) (.record rec)
           (c.queue = [] → rec.covered = c.covered ∧ rec.uncovered = c.uncovered ∧ rec.forfeited = c.credit ∧
             replies closes) ∧
           (∀ (h : Charge) (behind : List Charge) (w : Work), c.queue = h :: behind → (s.unit p).work = some w →
             let a := w.credit + h.steps * w.weight
             let covered := min h.pulses a
             let settled (x : Charge) (n : Nat) : Message := .reply 0x31#8 x.tag (posByte p) (.charge {
               outcome := .removed, covered := n, uncovered := x.pulses - n, steps := x.steps, balance := c.balance,
               credit := a - covered, failing := none })
             rec.covered = min (c.covered + covered) 4294967295 ∧
             rec.uncovered =
               min (c.uncovered + (h.pulses - covered) + (behind.map (·.pulses)).sum) 4294967295 ∧
             rec.forfeited = a - covered ∧
             replies ([settled h covered] ++ behind.map (fun x => settled x 0) ++ closes)))))

/-- A removal during a BURN in progress: the BURN is torn, a PENDING entry is made while the doubt list has room and the
call is marked, and the call is closed REMOVED with nothing counted for the torn BURN, its charges settled REMOVED and each
CLOSE that waits answered with the record (R20, R66, R90, R93, R94, R111, R113, R114). Where a RESET POSITION waited for that
BURN, the close is REMOVED all the same, and the reset then finds the position EMPTY and replies (R33, R34). -/
def Obligations.RemovalTearsBurn : Prop :=
  ∀ (s : State) (p : Pos) (f : InFlight),
    (s.line p).present = true → (s.line p).debounce.isSome = true → s.restart = .none →
    (s.line p).state = .inCall → (s.ctx p).state ≠ .noCall → (s.ctx p).queue ≠ [] →
    (s.line p).writeInProgress = true → (s.ctx p).field = some f → f.kind = .burn →
    let c := s.ctx p
    let n := if s.retained.creationCounter = 65535 then 0 else s.retained.creationCounter + 1
    let room := s.retained.doubts.length < 48
    ∃ (t : State) (rec : CallRecord), exec (.removal p) s = .next t ∧
      (t.line p).state = .empty ∧ (t.ctx p).state = .noCall ∧ (t.ctx p).field = none ∧ (t.ctx p).queue = [] ∧
      t.retained.doubts = (if room then s.retained.doubts ++
        [{ creation := n, id := c.id, position := p, callId := c.callId, stage := f.stage, before := f.before.digits,
           resolved := none }] else s.retained.doubts) ∧
      t.retained.creationCounter = (if room then n else s.retained.creationCounter) ∧
      t.retained.records = s.retained.records ++ [.call rec] ∧
      rec.seq = s.retained.seqCounter ∧ rec.position = p ∧ rec.callId = c.callId ∧ rec.id = c.id ∧
      rec.balanceAtOpen = c.balanceAtOpen ∧ rec.burned = c.burned ∧ rec.cause = .removed ∧
      rec.mark = (if room then .journalled else .unjournalled) ∧ rec.failing = none ∧
      s.cutFigures p rec ∧
      t.link.outbound.filter Message.isReply = s.link.outbound.filter Message.isReply ++
        s.cutReplies p .removed none ++ s.closeReplies p rec ∧
      (t.unit p).closes = [] ∧ (t.unit p).work = none ∧ (t.unit p).wait = (s.unit p).wait ∧
      (t.unit p).flags &&& 0x042#9 = 0x042#9 ∧ t.link.flags = s.link.flags ||| 0x01#5 ∧
      (∀ tag : Byte, (s.unit p).wait = some (.reset tag) →
        ∃ u, exec (.resetPositionAct p) t = .next u ∧ (u.line p).state = .empty ∧ (u.unit p).wait = none ∧
          u.retained = t.retained ∧ u.link.outbound = t.link.outbound ++ [.reply 0x33#8 tag (posByte p) .ok])

/-- The rest count's end leaves the contacts at REST and the card without power; with an idle-to-rest time of 0 the count
has no end (R24, log 19). -/
def Obligations.RestCountRestsCard : Prop :=
  ∀ (s : State) (p : Pos) (x : RestCount), (s.line p).rest = some x →
    (x.target = 0 → exec (.restCountExpiry p) s = .next s) ∧
    (∀ c : Card, x.target ≠ 0 → (s.unit p).reader = some (.card c) → c.power = .awake →
      exec (.restCountExpiry p) s = .next { s with units := s.units.set p.val { s.unit p with
        reader := some (.card { c with power := .unpowered })
        line := { s.line p with contact := .rest, rest := none } } p.isLt })

/-! ## Orders and answers -/

/-- With the end of an order frame its timeout starts, and the card, when it is awake, begins to work the order; an asleep
card hears a WAKE alone. A card that works an order ignores the frame, and so does every card a frame that came spoilt, with
a check that does not match, or of a kind that is no card order (R1, R2, R26, R27). The frame of an echo order, which the
reader hears and not the card, and a frame sent where no card is seated start the timeout and change nothing else (R164). -/
def Obligations.OrderFrameEndStartsTimeout : Prop :=
  (∀ (s : State) (p : Pos) (o : Order) (passage : Passage) (takes : Bool),
    (s.line p).order = some o → o.ended = false →
    o.purpose = .test ∨ (∀ c : Card, (s.unit p).reader ≠ some (.card c)) →
    exec (.orderFrameEnd p passage takes) s = .next { s with units := s.units.set p.val { s.unit p with
      line := { s.line p with order := some { o with ended := true, elapsed := 0 } } } p.isLt }) ∧
  ∀ (s : State) (p : Pos) (o : Order) (c : Card) (takes : Bool),
    (s.line p).order = some o → o.ended = false → o.purpose ≠ .test → (s.unit p).reader = some (.card c) →
    let heard (x : CardPower) : Host.Outcome State Fault Refusal :=
      .next { s with units := s.units.set p.val { s.unit p with
        reader := some (.card { c with power := x })
        line := { s.line p with order := some { o with ended := true, elapsed := 0 } } } p.isLt }
    let run := exec (.orderFrameEnd p .intact takes) s
    (c.power = .awake →
      (o.kind = .wake → run = heard (.working .wake takes 0)) ∧
      (o.kind = .readHead → run = heard (.working .readHead takes 0)) ∧
      (o.kind = .readTally → run = heard (.working .readTally takes 0)) ∧
      (o.kind = .burn → run = heard (.working (.burn (natByte o.stage.val)) takes 0)) ∧
      (o.kind = .restage → run = heard (.working (.restage (natByte o.stage.val)) takes 0))) ∧
    (c.power = .asleep → o.kind = .wake → run = heard (.working .wake takes 0)) ∧
    (c.power = .asleep → o.kind ≠ .wake → o.kind ≠ .echo → o.kind ≠ .loopback → run = heard .asleep) ∧
    (c.power = .unpowered → o.kind ≠ .echo → o.kind ≠ .loopback → run = heard .unpowered) ∧
    (∀ (x : CardOrder) (b : Bool) (n : Nat) (passage : Passage), c.power = .working x b n →
      exec (.orderFrameEnd p passage takes) s = heard (.working x b n)) ∧
    (∀ bs : List Byte,
      (readLineFrame bs = .noFrame ∨ readLineFrame bs = .bad ∨
        ∃ kind content, readLineFrame bs = .good kind content ∧ (kind = 0#8 ∨ 5 < kind.toNat)) →
      exec (.orderFrameEnd p (.altered bs) takes) s = heard c.power)

/-- Step 1 of an identification: 0x5C makes the contacts POWERED and sends READ HEAD; any other code ends the sequence
REJECTED UNREADABLE with the contacts UNPOWERED, and REJECTED is raised (R3, R23, R36, R37). A WAKE in front of an order that
waited at REST: 0x5C makes the contacts POWERED, and then the read is sent, with the timeout of the line class or, at a retry,
of its first attempt (R27, log 38), or the write channel asked for, to be granted at once or waited for; any other code is a
line failure at once, without a retry (R25, R83, R98, R100). -/
def Obligations.WakeAnswerReadsHeader : Prop :=
  (∀ (s : State) (p : Pos) (o : Order) (q : Sequence),
    (s.line p).order = some o → o.kind = .wake → o.purpose = .firstWake → (s.line p).state = .identifying →
    (s.line p).contact = .waking → (s.unit p).seq = some q → s.mayBegin p = true →
    (∀ (c : Card) (b : Bool) (n : Nat), (s.unit p).reader = some (.card c) → c.power = .working .wake b n → n ≤ 20 →
      ∃ t, exec (.answerFrame p .answer) s = .next t ∧ s.sameApartFrom p t ∧ t.ctx p = s.ctx p ∧
        (t.line p).contact = .powered ∧ (t.line p).state = .identifying ∧
        (t.unit p).seq = some { q with step := 2 } ∧
        (t.unit p).reader = some (.card { c with power := .awake }) ∧
        (∃ e : Order, (t.line p).order = some e ∧ e.kind = .readHead ∧ e.begun = true ∧ e.retry = false) ∧
        t.link = s.link) ∧
    (∀ code : Byte, code ≠ 0x5C#8 →
      ∃ t, exec (.answerFrame p (.stray (lineFrame 0x01#8 [0#8, code]))) s = .next t ∧ s.sameApartFrom p t ∧
        (t.line p).state = .rejected ∧ (t.line p).cause = some .unreadable ∧ (t.line p).contact = .unpowered ∧
        (t.line p).order = none ∧ (t.unit p).seq = none ∧ (t.unit p).terms = none ∧ (t.unit p).held = none ∧
        (t.unit p).flags = (s.unit p).flags ||| 0x008#9)) ∧
  (∀ (s : State) (p : Pos) (o : Order),
    (s.line p).order = some o → o.kind = .wake → (s.line p).contact = .waking → s.restart = .none →
    (∀ (c : Card) (b : Bool) (n : Nat), (s.unit p).reader = some (.card c) → c.power = .working .wake b n → n ≤ 20 →
      let run := exec (.answerFrame p .answer) s
      (∀ (r : ReadFor) (a : Attempt), o.purpose = .wakeRead r a →
        r ≠ .sequence ∨ a ≠ .first ∨ (s.unit p).wait = none →
        ∃ (t : State) (e : Order), run = .next t ∧ s.sameApartFrom p t ∧ t.ctx p = s.ctx p ∧ t.link = s.link ∧
          (t.line p).contact = .powered ∧ (t.line p).state = (s.line p).state ∧
          (t.unit p).reader = some (.card { c with power := .awake }) ∧
          (t.line p).order = some e ∧ e.begun = true ∧ e.purpose = .read r ∧ (e.retry = true ↔ a ≠ .first) ∧
          (∀ ms, a = .retry ms → e.timeout = ms) ∧
          (a = .first → e.timeout = (if (s.posSettings p).lineClass = .short then 10 else 20)) ∧
          (e.kind = .readHead ∨ e.kind = .readTally) ∧
          (e.kind = .readHead ↔ r = .sequence ∧ (s.unit p).seq.map (·.step) = some 2)) ∧
      (o.purpose = .wakeRequest → (s.unit p).wait = none →
        (∀ h ∈ s.arbiter.held, h.position ≠ p) → (∀ w ∈ s.arbiter.waiting, w.position ≠ p) →
        let asks (k : WriteKind) (g : Stage) (who : Requester) (before : Tally) : Prop :=
          (4 ≤ s.arbiter.held.length → ∃ t, run = .next t ∧ (t.line p).contact = .powered ∧
            (t.line p).order = none ∧ t.ctx p = s.ctx p ∧
            t.arbiter = { s.arbiter with waiting := s.arbiter.waiting ++
              [{ position := p, kind := k, stage := g, requester := who }] }) ∧
          (s.arbiter.granting = true → s.arbiter.held.length < 4 → s.arbiter.waiting = [] →
            ∃ (t : State) (e : Order), run = .next t ∧ (t.line p).contact = .powered ∧ (t.line p).order = some e ∧
              e.kind = k.order ∧ e.stage = g ∧ e.purpose = .write ∧ e.begun = true ∧ e.retry = false ∧
              t.ctx p = { s.ctx p with field := some { kind := k, stage := g, before := before } } ∧
              t.arbiter = { s.arbiter with held := s.arbiter.held ++ [{ position := p, kind := k, stage := g }] })
        (∀ (h : Charge) (behind : List Charge) (w : Work) (st : Step) (i : Image), (s.line p).state = .inCall →
          (s.ctx p).state = .openCall → (s.ctx p).queue = h :: behind → (s.unit p).work = some w → w.step = some st →
          (s.ctx p).image = some i → asks st.awaited st.stage .chargeProcessor i.tally) ∧
        (∀ (q : Sequence) (u : Tally), (s.line p).state = .identifying → (s.unit p).seq = some q → q.tally = some u →
          u.latch ≠ 0 → asks .restage u.latch .identificationUnit u))) ∧
    (∀ code : Byte, code ≠ 0x5C#8 → o.purpose = .wakeRequest ∨ (∃ r b, o.purpose = .wakeRead r b) →
      (s.line p).state = .identifying ∨ (s.line p).state = .inCall →
      ∃ t, exec (.answerFrame p (.stray (lineFrame 0x01#8 [0#8, code]))) s = .next t ∧ (t.line p).state = .faulted ∧
        (t.line p).cause = some .lineFault ∧ (t.line p).checkLatch = true ∧ (t.line p).contact = .unpowered ∧
        (t.line p).order = none ∧ (t.unit p).flags &&& 0x100#9 = 0x100#9 ∧ (t.unit p).held = (s.unit p).held ∧
        ((s.line p).state = .inCall → (t.ctx p).state = .noCall)))

/-- Step 2 answered by the card: a bad header check is read once more and then refused HEADER; else the identity is shown
and steps 3 to 6 refuse the card, in this order, SERIES_UNKNOWN, WITHDRAWN, SERIES_INVALID, OVER_ISSUE, BLOCKED or
DUPLICATE, or take its identity into the present-card set, hold the series terms with at most 3 retries, and send READ
TALLY (R36, R38 to R42, R44). -/
def Obligations.HeaderAnswerChecksCard : Prop :=
  ∀ (s : State) (p : Pos) (o : Order) (q : Sequence) (c : Card) (b : Bool) (n : Nat),
    (s.line p).order = some o → o.kind = .readHead → o.purpose = .read .sequence → (s.line p).state = .identifying →
    (s.line p).contact = .powered → (s.unit p).seq = some q → q.step = 2 → s.mayBegin p = true →
    (s.unit p).reader = some (.card c) → c.power = .working .readHead b n → n ≤ 4 →
    let h := c.header
    let good := crc (headerSpan h) = h.check
    let entry := seriesEntry s.working.series h.id.series
    let duplicate := ∃ x, x ≠ p ∧ (s.unit x).held = some h.id
    let refused (x : Cause) (shown : Option Identity) : Prop :=
      ∃ t, exec (.answerFrame p .answer) s = .next t ∧ s.sameApartFrom p t ∧ t.ctx p = s.ctx p ∧
        (t.line p).state = .rejected ∧ (t.line p).cause = some x ∧ (t.line p).contact = .unpowered ∧
        (t.line p).order = none ∧ (t.line p).shownId = shown ∧ (t.unit p).held = none ∧ (t.unit p).seq = none ∧
        (t.unit p).terms = none ∧ (t.unit p).flags = (s.unit p).flags ||| 0x008#9 ∧
        t.link.outbound = s.link.outbound ++ s.noticeOf p .rejected
    let reads (k : OrderKind) (z : Sequence) (t : State) : Prop :=
      exec (.answerFrame p .answer) s = .next t ∧ s.sameApartFrom p t ∧ t.ctx p = s.ctx p ∧ t.link = s.link ∧
        (t.line p).state = .identifying ∧ (t.unit p).seq = some z ∧
        ∃ e : Order, (t.line p).order = some e ∧ e.kind = k ∧ e.begun = true ∧ e.retry = false ∧
          e.purpose = .read .sequence
    (¬ good → q.reread = false → ∃ t, reads .readHead { q with reread := true } t) ∧
    (¬ good → q.reread = true → refused .header (s.line p).shownId) ∧
    (good → entry = none → refused .seriesUnknown (some h.id)) ∧
    (∀ e : SeriesFields, good → entry = some e →
      let valid := (1 ≤ e.weight.toNat ∧ e.weight.toNat ≤ 100) ∧ (1 ≤ e.maxIssued.toNat ∧ e.maxIssued.toNat ≤ 4095)
      let tooMany := h.issued.toNat = 0 ∨ e.maxIssued.toNat < h.issued.toNat
      (e.accepting = false → refused .withdrawn (some h.id)) ∧
      (e.accepting = true → ¬ valid → refused .seriesInvalid (some h.id)) ∧
      (e.accepting = true → valid → tooMany → refused .overIssue (some h.id)) ∧
      (e.accepting = true → valid → ¬ tooMany → blocked s.working.blocks h.id = true → refused .blocked (some h.id)) ∧
      (e.accepting = true → valid → ¬ tooMany → blocked s.working.blocks h.id = false → duplicate →
        refused .duplicate (some h.id)) ∧
      (e.accepting = true → valid → ¬ tooMany → blocked s.working.blocks h.id = false → ¬ duplicate →
        ∃ t, reads .readTally { q with header := some h, step := 7 } t ∧ (t.unit p).held = some h.id ∧
          (t.line p).shownId = some h.id ∧
          (t.unit p).terms = some { weight := e.weight.toNat, retries := min e.retries.toNat 3,
                                    maxIssued := e.maxIssued.toNat }))

/-- Step 7 answered by the card: a PENDING entry of the identity is resolved, and its record stored while the stored records
and reservations stay below 64, its entry leaving the list, with any of the same creation number (log 40), and else held with
its entry; a set latch asks for the channel of its RESTAGE, granted at
once or waited for; else C above the issued units is refused INCONSISTENT, C equal to them EMPTY_CARD, and C below them puts
the card image in force and the position READY, raising IDENTIFIED (R44, R45, R47, R48, R116, R119, R133). The verify read of
latch completion, judged: confirmed, the sequence goes on to those ends; unchanged, the RESTAGE is asked for again below the
limit of 1 + retries sends, and at the limit the position is FAULTED CARD_FAULT with its failing location; mismatched, it is
FAULTED TALLY_MISMATCH (R45, R46, R104, R106, R107). Its RESTAGE answered DONE gives the channel back and begins the verify
read; refused, it clears the in-flight-write field and begins a READ TALLY, which takes the position to FAULTED TALLY_MISMATCH
with the tally shown (R29, R30, R101). -/
def Obligations.TallyAnswerEndsSequence : Prop :=
  (∀ (s : State) (p : Pos) (o : Order) (q : Sequence) (h : Header) (c : Card) (b : Bool) (n : Nat),
    (s.line p).order = some o → o.kind = .readTally → o.purpose = .read .sequence → (s.line p).state = .identifying →
    (s.line p).contact = .powered → (s.unit p).seq = some q → q.header = some h → s.mayBegin p = true →
    (s.unit p).reader = some (.card c) → c.power = .working .readTally b n → n ≤ 4 →
    let used := c.tally.consumption
    let outcome (e : DoubtEntry) : DoubtOutcome := resolveOutcome e.stage e.before c.tally
    ∃ t, exec (.answerFrame p .answer) s = .next t ∧
      (c.tally.latch = 0 ∨ 4 ≤ s.arbiter.held.length → ∀ x, x ≠ p → t.unit x = s.unit x ∧ t.ctx x = s.ctx x) ∧
      (s.retained.pendingEntry h.id = none →
        t.retained.doubts = s.retained.doubts ∧ t.retained.records = s.retained.records) ∧
      (∀ e : DoubtEntry, s.retained.pendingEntry h.id = some e →
        s.retained.records.length + s.retained.reservations.length < 64 →
        t.retained.records = s.retained.records ++ [.resolution {
          seq := s.retained.seqCounter, id := e.id, callId := e.callId, stage := e.stage, outcome := outcome e
          position := p }] ∧
        t.retained.doubts = (s.retained.doubts.filter fun x => x.creation ≠ e.creation) ∧
        t.link.flags = s.link.flags ||| 0x01#5) ∧
      (∀ e : DoubtEntry, s.retained.pendingEntry h.id = some e →
        64 ≤ s.retained.records.length + s.retained.reservations.length →
        (∀ x ∈ s.retained.doubts, x.creation = e.creation → x = e) →
        t.retained.records = s.retained.records ∧ t.link.flags = s.link.flags ∧
        t.retained.doubts = s.retained.doubts.map fun x =>
          if x = e then { e with resolved := some (outcome e, p) } else x) ∧
      (c.tally.latch ≠ 0 → 4 ≤ s.arbiter.held.length → (∀ x ∈ s.arbiter.held, x.position ≠ p) →
        (∀ x ∈ s.arbiter.waiting, x.position ≠ p) →
        (t.line p).state = .identifying ∧ (t.line p).order = none ∧
        t.arbiter = { s.arbiter with waiting := s.arbiter.waiting ++
          [{ position := p, kind := .restage, stage := c.tally.latch, requester := .identificationUnit }] } ∧
        (t.unit p).seq = some { q with tally := some c.tally, step := 9, sends := 0 }) ∧
      (c.tally.latch ≠ 0 → s.arbiter.granting = true → s.arbiter.held.length < 4 → s.arbiter.waiting = [] →
        (∀ x ∈ s.arbiter.held, x.position ≠ p) →
        (t.line p).state = .identifying ∧
        t.arbiter = { s.arbiter with held := s.arbiter.held ++
          [{ position := p, kind := .restage, stage := c.tally.latch }] } ∧
        (t.line p).order = some { kind := .restage, stage := c.tally.latch, retry := false, begun := true,
                                  ended := false, elapsed := 0, timeout := 40, purpose := .write } ∧
        t.ctx p = { s.ctx p with
          field := some { kind := .restage, stage := c.tally.latch, before := c.tally } } ∧
        (t.unit p).seq = some { q with tally := some c.tally, step := 9, sends := 1 }) ∧
      (c.tally.latch = 0 →
        (h.issued.toNat < used → (t.line p).state = .rejected ∧ (t.line p).cause = some .inconsistent ∧
          (t.line p).contact = .unpowered ∧ (t.unit p).held = none ∧ t.ctx p = s.ctx p) ∧
        (h.issued.toNat = used → (t.line p).state = .rejected ∧ (t.line p).cause = some .emptyCard ∧
          (t.line p).contact = .unpowered ∧ (t.unit p).held = none ∧ t.ctx p = s.ctx p) ∧
        (used < h.issued.toNat → (t.line p).state = .ready ∧ (t.line p).contact = .powered ∧
          (t.line p).order = none ∧ (t.unit p).inForce = true ∧ (t.unit p).seq = none ∧
          (t.unit p).held = (s.unit p).held ∧ (t.unit p).terms = (s.unit p).terms ∧
          t.ctx p = { s.ctx p with image := some { header := h, tally := c.tally } } ∧
          (t.unit p).flags = (s.unit p).flags ||| 0x004#9))) ∧
  (∀ (s : State) (p : Pos) (o : Order) (q : Sequence) (h : Header) (u : Tally) (x : Terms) (f : InFlight) (c : Card)
      (b : Bool) (n : Nat),
    (s.line p).order = some o → o.kind = .readTally → o.purpose = .read .verify → (s.line p).state = .identifying →
    (s.line p).contact = .powered → (s.unit p).seq = some q → q.header = some h → q.tally = some u → u.latch ≠ 0 →
    (s.unit p).terms = some x → (s.ctx p).field = some f → f.kind = .restage → s.mayBegin p = true →
    (∀ y ∈ s.arbiter.held, y.position ≠ p) → (∀ y ∈ s.arbiter.waiting, y.position ≠ p) →
    (s.unit p).reader = some (.card c) → c.power = .working .readTally b n → n ≤ 4 →
    let used := c.tally.consumption
    let cleared : Context := { s.ctx p with field := none }
    let judged := judge f c.tally
    ∃ t, exec (.answerFrame p .answer) s = .next t ∧
      t.retained.doubts = s.retained.doubts ∧ t.retained.records = s.retained.records ∧ (t.unit p).held.isSome =
        ((s.unit p).held.isSome && !(judged = .confirmed && h.issued.toNat ≤ used)) ∧
      (judged = .confirmed → h.issued.toNat < used →
        (t.line p).state = .rejected ∧ (t.line p).cause = some .inconsistent ∧ t.ctx p = cleared) ∧
      (judged = .confirmed → h.issued.toNat = used →
        (t.line p).state = .rejected ∧ (t.line p).cause = some .emptyCard ∧ t.ctx p = cleared) ∧
      (judged = .confirmed → used < h.issued.toNat →
        (t.line p).state = .ready ∧ (t.line p).contact = .powered ∧ (t.unit p).seq = none ∧
        (t.unit p).inForce = true ∧ t.ctx p = { cleared with image := some { header := h, tally := c.tally } } ∧
        (t.unit p).flags = (s.unit p).flags ||| 0x004#9) ∧
      (judged = .unchanged → q.sends < 1 + x.retries →
        (t.line p).state = .identifying ∧ (t.line p).shownTally = some c.tally ∧
        (4 ≤ s.arbiter.held.length → t.ctx p = cleared ∧ (t.unit p).seq = some q ∧
          t.arbiter = { s.arbiter with waiting := s.arbiter.waiting ++
            [{ position := p, kind := .restage, stage := u.latch, requester := .identificationUnit }] }) ∧
        (s.arbiter.granting = true → s.arbiter.held.length < 4 → s.arbiter.waiting = [] →
          (t.unit p).seq = some { q with sends := q.sends + 1 } ∧
          t.ctx p = { cleared with field := some { kind := .restage, stage := u.latch, before := u } } ∧
          t.arbiter = { s.arbiter with held := s.arbiter.held ++
            [{ position := p, kind := .restage, stage := u.latch }] } ∧
          ∃ e : Order, (t.line p).order = some e ∧ e.kind = .restage ∧ e.stage = u.latch ∧ e.purpose = .write)) ∧
      (judged = .unchanged → 1 + x.retries ≤ q.sends →
        (t.line p).state = .faulted ∧ (t.line p).cause = some .cardFault ∧ (t.line p).contact = .unpowered ∧
        (t.line p).failing = some { stage := f.stage, cell := c.tally.digits.get f.stage } ∧
        (t.line p).checkLatch = (s.line p).checkLatch ∧ (t.unit p).seq = none ∧ (t.unit p).terms = none ∧
        (t.unit p).flags = (s.unit p).flags ||| 0x080#9 ∧ t.ctx p = cleared) ∧
      (judged = .mismatched →
        (t.line p).state = .faulted ∧ (t.line p).cause = some .tallyMismatch ∧ (t.line p).contact = .unpowered ∧
        (t.line p).shownTally = some c.tally ∧ (t.line p).failing = none ∧ (t.unit p).seq = none ∧
        (t.unit p).terms = none ∧ (t.unit p).flags = (s.unit p).flags ||| 0x080#9 ∧ t.ctx p = cleared)) ∧
  (∀ (s : State) (p : Pos) (o : Order) (c : Card) (b : Bool) (n : Nat),
    (s.line p).order = some o → (s.line p).state = .identifying → (s.line p).contact = .powered → s.restart = .none →
    (s.unit p).reader = some (.card c) →
    (∀ g : Byte, o.kind = .restage → o.purpose = .write → c.power = .working (.restage g) b n → n ≤ 15 →
      s.arbiter.lawful →
      ∃ (t : State) (e : Order), exec (.answerFrame p .answer) s = .next t ∧ (t.line p).order = some e ∧
        e.kind = .readTally ∧ e.retry = false ∧ e.begun = true ∧ e.ended = false ∧
        (t.line p).state = .identifying ∧ (t.unit p).seq = (s.unit p).seq ∧ t.link = s.link ∧
        t.retained.doubts = s.retained.doubts ∧ t.retained.records = s.retained.records ∧
        (∀ y ∈ t.arbiter.held, y.position ≠ p) ∧
        (restageRefusal g c.tally = none → e.purpose = .read .verify ∧ t.ctx p = s.ctx p ∧
          (t.unit p).reader = some (.card { c with tally := formDone (.restage g) b c.tally, power := .awake })) ∧
        (restageRefusal g c.tally ≠ none → e.purpose = .read (.refusal (s.unit p).wait.isSome) ∧
          t.ctx p = { s.ctx p with field := none } ∧
          (t.unit p).reader = some (.card { c with power := .awake }))) ∧
    (∀ owed : Bool, o.kind = .readTally → o.purpose = .read (.refusal owed) → c.power = .working .readTally b n → n ≤ 4 →
      ∃ t, exec (.answerFrame p .answer) s = .next t ∧ (t.line p).state = .faulted ∧
        (t.line p).cause = some .tallyMismatch ∧ (t.line p).contact = .unpowered ∧ (t.line p).order = none ∧
        (t.line p).shownTally = some c.tally ∧ (t.line p).failing = none ∧
        (t.line p).checkLatch = (s.line p).checkLatch ∧ (t.unit p).seq = none ∧ (t.unit p).terms = none ∧
        (t.unit p).held = (s.unit p).held ∧ (t.unit p).flags = (s.unit p).flags ||| 0x080#9 ∧
        t.ctx p = { s.ctx p with field := none } ∧ t.retained.doubts = s.retained.doubts ∧
        t.retained.records = s.retained.records))

/-- A write of a call. Answered DONE, it gives its channel back, keeps its in-flight-write field, and its verify read begins
(R29, R101); refused, its field is cleared and the READ TALLY after it takes the position to FAULTED TALLY_MISMATCH (R30). The
verify read judged: a confirmed write puts the tally read in the card image, and a confirmed BURN is counted in balance, units
burned and the head's steps done (R59, R60, R81, R103, R105). A carry's BURN leads to its RESTAGE. After the last write of a
step the next step begins; after the last step the head is settled DONE or EXHAUSTED with its reply and figures, LOW,
EXHAUSTED and their notice, and the charges behind it are taken into work in turn (R58, R61 to R64, R67, R69, R70, R79). A
write judged unchanged is asked for again while its sends are below 1 + retries. At that limit the position is FAULTED
CARD_FAULT with its failing location; a mismatch, a bare latch among them, takes it to FAULTED TALLY_MISMATCH with the tally
read in the image (R104, R106, R107); each fault closes the call with its own cause, its charges settled FAULT with the failing
location (log 16 for those behind the head), and each CLOSE that waits gets the record (R67, R91, R94). In CLOSING a RESTAGE is still asked
for and worked; after the step, or an unchanged BURN, the head is settled CUT (R66, R86, R108). That a write at its limit
is a fault in CLOSING too, and that the LOW comparison follows the reply of a cut, is the model's reading (logs 17, 36). -/
def Obligations.ConfirmedBurnCounts : Prop :=
  ∀ (s : State) (p : Pos) (o : Order) (c : Card) (b : Bool) (n : Nat) (i : Image) (h : Charge)
      (behind : List Charge) (w : Work) (st : Step),
    (s.line p).order = some o → (s.line p).state = .inCall → (s.ctx p).state ≠ .noCall → s.mayBegin p = true →
    (s.line p).contact = .powered → (s.ctx p).image = some i → (s.ctx p).queue = h :: behind →
    (s.unit p).work = some w → w.step = some st → (s.unit p).reader = some (.card c) →
    let faulted (t : State) (cause : Cause) (ends : EndCause) (failing : Option Location) : Prop :=
      (t.line p).state = .faulted ∧ (t.line p).cause = some cause ∧ (t.line p).contact = .unpowered ∧
        (t.line p).order = none ∧ (t.line p).failing = failing ∧ (t.unit p).flags &&& 0x0C0#9 = 0x0C0#9 ∧
        (t.ctx p).state = .noCall ∧ (t.ctx p).field = none ∧ (t.ctx p).queue = [] ∧
        (t.unit p).work = none ∧ (t.unit p).closes = [] ∧ t.link.flags = s.link.flags ||| 0x01#5 ∧
        t.retained.doubts = s.retained.doubts ∧
        ∃ rec : CallRecord, t.retained.records = s.retained.records ++ [.call rec] ∧ rec.position = p ∧
          rec.seq = s.retained.seqCounter ∧ rec.callId = (s.ctx p).callId ∧ rec.id = (s.ctx p).id ∧
          rec.balanceAtOpen = (s.ctx p).balanceAtOpen ∧ rec.burned = (s.ctx p).burned ∧ rec.cause = ends ∧
          rec.failing = failing ∧ rec.mark = (s.ctx p).mark ∧ s.cutFigures p rec ∧
          t.link.outbound.filter Message.isReply = s.link.outbound.filter Message.isReply ++
            s.cutReplies p .fault failing ++ s.closeReplies p rec
    let asks (t : State) (v : Work) (u : Step) (k : WriteKind) (before : Tally) : Prop :=
      (∀ x ∈ s.arbiter.held, x.position ≠ p) → (∀ x ∈ s.arbiter.waiting, x.position ≠ p) →
        (4 ≤ s.arbiter.held.length → (t.ctx p).field = none ∧ (t.line p).order = none ∧
          (t.unit p).work = some { v with step := some u } ∧
          t.arbiter = { s.arbiter with waiting := s.arbiter.waiting ++
            [{ position := p, kind := k, stage := u.stage, requester := .chargeProcessor }] }) ∧
        (s.arbiter.granting = true → s.arbiter.held.length < 4 → s.arbiter.waiting = [] →
          (t.ctx p).field = some { kind := k, stage := u.stage, before := before } ∧
          (t.unit p).work = some { v with step := some { u with sends := u.sends + 1, begun := true } } ∧
          t.arbiter = { s.arbiter with held := s.arbiter.held ++ [{ position := p, kind := k, stage := u.stage }] } ∧
          ∃ e : Order, (t.line p).order = some e ∧ e.kind = k.order ∧ e.stage = u.stage ∧ e.purpose = .write ∧
            e.begun = true ∧ e.retry = false)
    (∀ f : InFlight, o.kind = .readTally → o.purpose = .read .verify → (s.ctx p).field = some f → st.stage = f.stage →
      st.awaited = f.kind → st.carry = decide (f.stage ≠ 0) → c.power = .working .readTally b n → n ≤ 4 →
      let judged := judge f c.tally
      let x := s.ctx p
      let counted := f.kind = .burn ∧ judged = .confirmed
      let head := if counted then { h with steps := h.steps + 1 } else h
      let balance := if counted then x.balance - 1 else x.balance
      let after : Context := { x with
        balance := balance
        burned := if counted then x.burned + 1 else x.burned
        image := some (if judged = .unchanged then i else { i with tally := c.tally })
        queue := head :: behind
        field := none }
      let available := w.credit + head.steps * w.weight
      let covered := min head.pulses available
      let credit := available - covered
      let low := x.threshold ≠ 0 ∧ balance * x.weight + credit < x.threshold ∧ x.warned = false
      let reply (outcome : ChargeOutcome) : Message := .reply 0x31#8 head.tag (posByte p) (.charge {
        outcome := outcome, covered := covered, uncovered := head.pulses - covered, steps := head.steps
        balance := balance, credit := credit, failing := none })
      let notice (lit : Bool) : List Message :=
        if lit = true ∧ (s.posSettings p).notify = true ∧ Message.positionNotice p ∉ s.link.outbound then
          [.positionNotice p] else []
      let again := judged = .unchanged ∧ st.sends < 1 + x.retries
      let stepDone := judged = .confirmed ∧ (f.kind = .restage ∨ f.stage = 0)
      let begins (t : State) (v : Work) : Prop := ∀ g : Stage, (c.tally.digits.get g).val < 7 →
        (∀ j : Stage, j < g → (c.tally.digits.get j).val = 7) →
        asks t v { carry := decide (g ≠ 0), stage := g, awaited := .burn, sends := 0, begun := false } .burn c.tally
      ∃ t, exec (.answerFrame p .answer) s = .next t ∧ t.retained.doubts = s.retained.doubts ∧
        (judged = .confirmed ∨ again → t.retained.records = s.retained.records ∧ (t.line p).state = .inCall ∧
          (t.ctx p).state = x.state ∧ (t.ctx p).balance = balance ∧ (t.ctx p).burned = after.burned ∧
          (t.ctx p).image = after.image) ∧
        (counted → f.stage ≠ 0 → t.ctx p = { after with field := (t.ctx p).field } ∧ t.link = s.link ∧
          asks t w { st with awaited := .restage, sends := 0 } .restage c.tally) ∧
        (again → x.state = .openCall ∨ f.kind = .restage →
          t.ctx p = { after with field := (t.ctx p).field } ∧ t.link = s.link ∧ asks t w st f.kind i.tally) ∧
        (x.state = .openCall → stepDone → head.steps < w.planned →
          t.ctx p = { after with field := (t.ctx p).field } ∧ t.link = s.link ∧ begins t w) ∧
        (x.state = .openCall → stepDone → w.planned ≤ head.steps →
          let done := head.steps = w.needed
          let own := reply (if done then .done else .exhausted)
          (behind = [] →
            t.ctx p = { after with
              queue := [], credit := credit, warned := x.warned || decide low
              covered := min (x.covered + covered) 4294967295
              uncovered := min (x.uncovered + (head.pulses - covered)) 4294967295 } ∧
            t.unit p = { s.unit p with
              line := { s.line p with order := none, rest := (t.line p).rest }
              reader := some (.card { c with power := .awake }), work := none
              flags := (s.unit p).flags ||| (if low then 0x010#9 else 0#9) ||| (if done then 0#9 else 0x020#9) } ∧
            t.arbiter = s.arbiter ∧ t.link.flags = s.link.flags ∧
            t.link.outbound = s.link.outbound ++ notice ((low && (s.unit p).flags &&& 0x010#9 = 0#9) ||
              (!done && (s.unit p).flags &&& 0x020#9 = 0#9)) ++ [own]) ∧
          (∀ free late : List Charge, behind = free ++ late → behind.length ≤ 3 → (∀ y ∈ behind, y.steps = 0) →
            1 ≤ x.weight →
            let total := (free.map (·.pulses)).sum
            balance = 0 ∨ total ≤ credit →
            let settled : Context := { after with
              queue := late, credit := credit - total, warned := (t.ctx p).warned
              covered := min (x.covered + covered + min total credit) 4294967295
              uncovered := min (x.uncovered + (head.pulses - covered) + (total - credit)) 4294967295 }
            (late = [] ∨ ∃ y ys, late = y :: ys ∧ credit - total < y.pulses ∧ 1 ≤ balance) →
            t.link.outbound.filter Message.isReply = s.link.outbound.filter Message.isReply ++ [own] ++
              freeReplies p balance credit free ∧
            (late = [] → t.ctx p = settled ∧ (t.unit p).work = none) ∧
            (∀ (y : Charge) (ys : List Charge), late = y :: ys →
              let needed := (y.pulses - (credit - total) + x.weight - 1) / x.weight
              t.ctx p = { settled with field := (t.ctx p).field } ∧
              begins t { pulses := y.pulses, credit := credit - total, weight := x.weight, balance := balance,
                         needed := needed, planned := min needed balance, step := none }))) ∧
        (x.state = .closing → behind = [] → stepDone ∨ (again ∧ f.kind = .burn) →
          t.ctx p = { after with
            queue := [], credit := credit, warned := x.warned || decide low
            covered := min (x.covered + covered) 4294967295
            uncovered := min (x.uncovered + (head.pulses - covered)) 4294967295 } ∧
          t.unit p = { s.unit p with
            line := { s.line p with order := none, rest := (t.line p).rest }
            reader := some (.card { c with power := .awake }), work := none
            flags := (s.unit p).flags ||| (if low then 0x010#9 else 0#9) } ∧
          t.arbiter = s.arbiter ∧ t.link.flags = s.link.flags ∧
          t.link.outbound = s.link.outbound ++ [reply .cut] ++
            notice (low && (s.unit p).flags &&& 0x010#9 = 0#9)) ∧
        (judged = .unchanged → 1 + x.retries ≤ st.sends →
          (t.ctx p).image = some i ∧
          faulted t .cardFault .cardFault (some { stage := f.stage, cell := c.tally.digits.get f.stage })) ∧
        (judged = .mismatched →
          (t.ctx p).image = some { i with tally := c.tally } ∧ faulted t .tallyMismatch .tallyMismatch none)) ∧
    (∀ (f : InFlight), f.kind = .burn → f.stage ≠ 0 → f.before.latch = 0 →
      judge f { f.before with latch := f.stage } = .mismatched) ∧
    (∀ (k : WriteKind) (x : CardOrder), o.kind = k.order → o.purpose = .write → c.power = .working x b n →
      n ≤ cardAnswerMs x → s.arbiter.lawful →
      let accepted := ∃ g : Byte, (k = .burn ∧ x = .burn g ∧ burnRefusal g c.tally = none) ∨
        (k = .restage ∧ x = .restage g ∧ restageRefusal g c.tally = none)
      let refused := ∃ g : Byte, (k = .burn ∧ x = .burn g ∧ burnRefusal g c.tally ≠ none) ∨
        (k = .restage ∧ x = .restage g ∧ restageRefusal g c.tally ≠ none)
      accepted ∨ refused →
      ∃ (t : State) (e : Order), exec (.answerFrame p .answer) s = .next t ∧ (t.line p).order = some e ∧
        e.kind = .readTally ∧ e.retry = false ∧ e.begun = true ∧ e.ended = false ∧
        (∀ y ∈ t.arbiter.held, y.position ≠ p) ∧ (t.unit p).work = some w ∧ t.link = s.link ∧
        (t.line p).state = .inCall ∧ t.retained.doubts = s.retained.doubts ∧ t.retained.records = s.retained.records ∧
        (accepted → e.purpose = .read .verify ∧ t.ctx p = s.ctx p ∧
          (t.unit p).reader = some (.card { c with tally := formDone x b c.tally, power := .awake })) ∧
        (refused → e.purpose = .read (.refusal false) ∧ t.ctx p = { s.ctx p with field := none } ∧
          (t.unit p).reader = some (.card { c with power := .awake })) ∧
        (s.arbiter.waiting = [] →
          t.arbiter = { s.arbiter with held := s.arbiter.held.filter fun y => y.position ≠ p })) ∧
    (∀ owed : Bool, o.kind = .readTally → o.purpose = .read (.refusal owed) → c.power = .working .readTally b n →
      n ≤ 4 → (s.ctx p).field = none →
      ∃ t, exec (.answerFrame p .answer) s = .next t ∧ (t.ctx p).image = some { i with tally := c.tally } ∧
        faulted t .tallyMismatch .tallyMismatch none)

/-- An order that failed by timeout: a WAKE, in front of an order too, or a read is sent again once, with the timeout of its
first attempt, a WAKE going before the retry of a read where the contacts are not POWERED; at its retry it fails the line,
FAULTED LINE_FAULT with the check latch set; a write is over on the line, its channel is given back, and its verify read, or
the WAKE in front of it, is sent (R25 to R29, R31, R83, R101; log 38 on the timeout past a WAKE). The channel given back goes to
the oldest request, or, where that position's contacts are no longer POWERED, that grant is given up and a WAKE is sent there
(R99 to R101). The verify read of a call's write that fails at its retry, or whose WAKE does, closes the call LINE_FAULT, its
charges settled FAULT and each CLOSE that waits answered with the record; a BURN is torn by it: a PENDING entry while the doubt
list has room and the mark JOURNALLED, else UNJOURNALLED (R29, R91, R93, R112 to R114). A bad answer frame and a malformed
answer fail the order as its timeout does; bytes that are no frame, and a good frame of another kind, leave it waiting (R26,
log 18). A card that works another order goes on with it (R2). -/
def Obligations.AnswerTimeoutRetriesOrFaults : Prop :=
  ∀ (s : State) (p : Pos) (o : Order),
    (s.line p).order = some o → o.ended = true → s.restart = .none → s.arbiter.lawful →
    let kindOf (x : CardOrder) : OrderKind := match x with
      | .wake => .wake
      | .readHead => .readHead
      | .readTally => .readTally
      | .burn _ => .burn
      | .restage _ => .restage
    let worksOnly (ok : CardOrder → Prop) : Prop := ∀ (c : Card) (x : CardOrder) (b : Bool) (n : Nat),
      (s.unit p).reader = some (.card c) → c.power = .working x b n → ok x
    (∀ k : ReadFor, o.purpose = .read k → o.retry = false → (s.line p).contact = .powered →
      ∃ (t : State) (e : Order), exec (.answerTimeout p) s = .next t ∧ (t.line p).order = some e ∧ e.retry = true ∧
        e.purpose = .read k ∧ e.begun = true ∧ e.ended = false ∧ (e.kind = .readHead ∨ e.kind = .readTally) ∧
        t.ctx p = s.ctx p ∧ (t.line p).state = (s.line p).state ∧ t.link = s.link ∧ t.arbiter = s.arbiter ∧
        e.timeout = o.timeout ∧ (worksOnly (fun x => kindOf x ≠ o.kind) → (t.unit p).reader = (s.unit p).reader)) ∧
    (∀ k : ReadFor, o.purpose = .read k → o.retry = false → (s.line p).contact ≠ .powered →
      ∃ (t : State) (e : Order), exec (.answerTimeout p) s = .next t ∧ (t.line p).order = some e ∧ e.kind = .wake ∧
        e.purpose = .wakeRead k (.retry o.timeout) ∧ e.retry = false ∧ e.begun = true ∧ e.ended = false ∧
        e.timeout = 30 ∧ (t.line p).contact = .waking ∧ (t.line p).state = (s.line p).state ∧ t.ctx p = s.ctx p ∧
        t.link = s.link ∧ t.arbiter = s.arbiter) ∧
    (o.purpose = .firstWake ∨ o.purpose = .wakeRequest ∨ (∃ k a, o.purpose = .wakeRead k a) → o.retry = false →
      ∃ (t : State) (e : Order), exec (.answerTimeout p) s = .next t ∧ (t.line p).order = some e ∧ e.kind = .wake ∧
        e.purpose = o.purpose ∧ e.retry = true ∧ e.begun = true ∧ e.ended = false ∧ e.timeout = o.timeout ∧
        (t.line p).contact = .waking ∧ (t.line p).state = (s.line p).state ∧ t.ctx p = s.ctx p ∧ t.link = s.link ∧
        t.arbiter = s.arbiter) ∧
    ((∃ k : ReadFor, o.purpose = .read k) ∨ o.purpose = .firstWake ∨ o.purpose = .wakeRequest ∨
        (∃ k a, o.purpose = .wakeRead k a) → o.retry = true →
      (s.line p).state = .identifying ∨ (s.line p).state = .inCall →
      ∃ t, exec (.answerTimeout p) s = .next t ∧ (t.line p).state = .faulted ∧ (t.line p).cause = some .lineFault ∧
        (t.line p).checkLatch = true ∧ (t.line p).contact = .unpowered ∧ (t.line p).order = none ∧
        (t.unit p).flags &&& 0x100#9 = 0x100#9 ∧ (t.unit p).held = (s.unit p).held ∧
        ((s.line p).state = .inCall → (t.ctx p).state = .noCall)) ∧
    (∀ f : InFlight, o.purpose = .read .verify ∨ (∃ a, o.purpose = .wakeRead .verify a) → o.retry = true → (s.line p).state = .inCall →
      (s.ctx p).state ≠ .noCall → (s.ctx p).field = some f →
      let c := s.ctx p
      let n := if s.retained.creationCounter = 65535 then 0 else s.retained.creationCounter + 1
      let entered := f.kind = .burn ∧ s.retained.doubts.length < 48
      ∃ (t : State) (rec : CallRecord), exec (.answerTimeout p) s = .next t ∧
        (t.ctx p).state = .noCall ∧ (t.ctx p).field = none ∧ (t.ctx p).queue = [] ∧ (t.unit p).work = none ∧
        (t.unit p).closes = [] ∧ (t.unit p).flags &&& 0x140#9 = 0x140#9 ∧ t.link.flags = s.link.flags ||| 0x01#5 ∧
        t.retained.doubts = (if entered then s.retained.doubts ++
          [{ creation := n, id := c.id, position := p, callId := c.callId, stage := f.stage, before := f.before.digits,
             resolved := none }] else s.retained.doubts) ∧
        t.retained.creationCounter = (if entered then n else s.retained.creationCounter) ∧
        t.retained.records = s.retained.records ++ [.call rec] ∧ rec.seq = s.retained.seqCounter ∧
        rec.position = p ∧ rec.callId = c.callId ∧ rec.id = c.id ∧ rec.balanceAtOpen = c.balanceAtOpen ∧
        rec.burned = c.burned ∧ rec.cause = .lineFault ∧ rec.failing = none ∧
        rec.mark = (if f.kind ≠ .burn then c.mark else if entered then .journalled else .unjournalled) ∧
        s.cutFigures p rec ∧
        t.link.outbound.filter Message.isReply = s.link.outbound.filter Message.isReply ++
          s.cutReplies p .fault none ++ s.closeReplies p rec) ∧
    (o.purpose = .write →
      ∃ (t : State) (e : Order), exec (.answerTimeout p) s = .next t ∧ (t.line p).order = some e ∧ e.retry = false ∧
        ((s.line p).contact = .powered → e.kind = .readTally ∧ e.purpose = .read .verify) ∧
        ((s.line p).contact ≠ .powered → e.kind = .wake ∧ e.purpose = .wakeRead .verify .first ∧
          (t.line p).contact = .waking) ∧
        (∀ x ∈ t.arbiter.held, x.position ≠ p) ∧ (t.ctx p).field = (s.ctx p).field) ∧
    (∀ (r : WriteRequest) (u : Tally), o.purpose = .write → s.arbiter.granting = true →
      (∃ x ∈ s.arbiter.held, x.position = p) → s.arbiter.waiting = [r] → r.position ≠ p →
      (r.requester = .chargeProcessor → (s.ctx r.position).image.map (·.tally) = some u) →
      (r.requester = .identificationUnit → (s.unit r.position).seq.bind (·.tally) = some u) →
      let others := s.arbiter.held.filter fun x => x.position ≠ p
      ∃ (t : State) (e : Order), exec (.answerTimeout p) s = .next t ∧ (t.line r.position).order = some e ∧
        e.begun = true ∧ e.retry = false ∧ t.arbiter.waiting = [] ∧
        ((s.line r.position).contact = .powered → e.kind = r.kind.order ∧ e.stage = r.stage ∧ e.purpose = .write ∧
          t.arbiter.held = others ++ [{ position := r.position, kind := r.kind, stage := r.stage }] ∧
          (t.ctx r.position).field = some { kind := r.kind, stage := r.stage, before := u }) ∧
        ((s.line r.position).contact ≠ .powered → e.kind = .wake ∧ e.purpose = .wakeRequest ∧
          (t.line r.position).contact = .waking ∧ t.arbiter.held = others ∧
          t.ctx r.position = s.ctx r.position)) ∧
    (∀ bs : List Byte, o.purpose ≠ .test →
      let fits (content : List Byte) : Prop := match o.kind with
        | .wake => ∃ code, content = [0#8, code]
        | .readHead => content.length = 11 ∧ content.head? = some 0#8
        | .readTally => content.length = 6 ∧ content.head? = some 0#8 ∧ (∀ d ∈ content.take 5, d.toNat < 8) ∧
            ∀ l ∈ content.drop 5, l.toNat < 4
        | .burn => ∃ k : Byte, content = [k] ∧ k.toNat < 5
        | .restage => content = [0#8] ∨ content = [1#8] ∨ content = [5#8]
        | _ => False
      (readLineFrame bs = .bad ∨ (∃ content, readLineFrame bs = .good o.kind.code content ∧ ¬ fits content) →
        (worksOnly (fun x => kindOf x = o.kind) → exec (.answerFrame p (.altered bs)) s = exec (.answerTimeout p) s) ∧
        (worksOnly (fun x => kindOf x ≠ o.kind) → exec (.answerFrame p (.stray bs)) s = exec (.answerTimeout p) s)) ∧
      (readLineFrame bs = .noFrame ∨ (∃ kind content, readLineFrame bs = .good kind content ∧ kind ≠ o.kind.code) →
        exec (.answerFrame p (.stray bs)) s = .next s))

/-! ## Cards and comparisons -/

/-- Effective consumption C (R9); the refusals of a BURN and of a RESTAGE, in the order in which the card checks for them, and
their codes (R11, R12, R170); and what a BURN or a RESTAGE does to C, whole or cut short at any of its small steps (R11 to
R14): a refused order changes nothing; a BURN that takes raises C by one and otherwise leaves the card as it was or
in the bare latch; a RESTAGE never moves C, and clears its latch only when every stage below it is 0. A card that loses its
power is UNPOWERED, with its header and, of the order it worked, what so many of its small steps left (R1, R13, R14). -/
def Obligations.CardWriteForms : Prop :=
  (∀ t : Tally,
    let d0 := t.digits.d0.val
    let d1 := t.digits.d1.val
    let d2 := t.digits.d2.val
    let d3 := t.digits.d3.val
    (t.latch = 0 → t.consumption = d0 + 8 * d1 + 64 * d2 + 512 * d3) ∧
    (t.latch = 1 → t.consumption = 8 * d1 + 64 * d2 + 512 * d3) ∧
    (t.latch = 2 → t.consumption = 64 * d2 + 512 * d3) ∧ (t.latch = 3 → t.consumption = 512 * d3) ∧
    t.consumption ≤ 4095) ∧
  ([.badStage, .latchSet, .stageFull, .lowerNotFull, .noLatch] : List CardRefusal).map (·.code) =
    [1#8, 2#8, 3#8, 4#8, 5#8] ∧
  (∀ (k : Byte) (t : Tally), 3 < k.toNat →
    burnRefusal k t = some .badStage ∧ restageRefusal k t = some .badStage) ∧
  (∀ (k : Stage) (t : Tally),
    let burn := burnRefusal (stageByte k) t
    let restage := restageRefusal (stageByte k) t
    let full (j : Stage) : Prop := (t.digits.get j).val = 7
    (t.latch ≠ 0 → burn = some .latchSet) ∧
    (t.latch = 0 → full k → burn = some .stageFull) ∧
    (t.latch = 0 → ¬ full k → (∃ j, j < k ∧ ¬ full j) → burn = some .lowerNotFull) ∧
    (t.latch = 0 → ¬ full k → (∀ j, j < k → full j) → burn = none) ∧
    (k = 0 → restage = some .badStage) ∧ (k ≠ 0 → t.latch ≠ k → restage = some .noLatch) ∧
    (k ≠ 0 → t.latch = k → restage = none)) ∧
  (∀ (k : Byte) (t : Tally) (takes : Bool) (n : Nat),
    (burnRefusal k t ≠ none → formAfter (.burn k) takes t n = t ∧ formDone (.burn k) takes t = t) ∧
    (restageRefusal k t ≠ none → formAfter (.restage k) takes t n = t ∧ formDone (.restage k) takes t = t)) ∧
  (∀ (k : Stage) (t : Tally) (takes : Bool) (n : Nat), burnRefusal (stageByte k) t = none →
    let burned : Tally := { digits := t.digits.set k (t.digits.get k + 1), latch := k }
    let bare : Tally := { t with latch := k }
    let u := formAfter (.burn (stageByte k)) takes t n
    (u = t ∨ u = bare ∨ (takes = true ∧ u = burned)) ∧
    formDone (.burn (stageByte k)) true t = burned ∧ formDone (.burn (stageByte k)) false t = bare ∧
    burned.consumption = t.consumption + 1 ∧ bare.consumption + (8 ^ k.val - 1) = t.consumption) ∧
  (∀ (k : Stage) (t : Tally) (takes : Bool) (n : Nat), restageRefusal (stageByte k) t = none →
    let u := formAfter (.restage (stageByte k)) takes t n
    let v := formDone (.restage (stageByte k)) takes t
    u.consumption = t.consumption ∧ (u.latch = k ∨ u = v) ∧ (∀ j, j ≥ k → u.digits.get j = t.digits.get j) ∧
    v.latch = 0 ∧ (∀ j, j < k → v.digits.get j = 0) ∧ (∀ j, j ≥ k → v.digits.get j = t.digits.get j)) ∧
  (∀ (x : CardOrder) (t : Tally) (takes : Bool) (n : Nat),
    formAfter x takes t 0 = t ∧
    (x = .wake ∨ x = .readHead ∨ x = .readTally → formAfter x takes t n = t ∧ formDone x takes t = t)) ∧
  (∀ (n : Nat) (c : Card),
    let cut := cardCut n c
    cut.power = .unpowered ∧ cut.header = c.header ∧
    (∀ (x : CardOrder) (takes : Bool) (m : Nat), c.power = .working x takes m →
      cut.tally = formAfter x takes c.tally n) ∧
    ((∀ (x : CardOrder) (takes : Bool) (m : Nat), c.power ≠ .working x takes m) → cut.tally = c.tally))

/-- The judgement of a verify read (R59, R103). -/
def Obligations.VerifyReadJudged : Prop :=
  ∀ (k : Stage) (before read : Tally),
    let same (j : Stage) : Prop := read.digits.get j = before.digits.get j
    let burned : Prop := (read.digits.get k).val = (before.digits.get k).val + 1 ∧
      (∀ j, j < k → (read.digits.get j).val = 7) ∧ (∀ j, j > k → same j) ∧ read.latch = k
    let restaged : Prop := (∀ j, j < k → (read.digits.get j).val = 0) ∧ (∀ j, j ≥ k → same j) ∧ read.latch = 0
    let left : Prop := read.latch = k ∧ (∀ j, j ≥ k → same j) ∧
      (∀ j, j < k → (read.digits.get j).val ≤ (before.digits.get j).val)
    let burn := judge { kind := .burn, stage := k, before := before } read
    let restage := judge { kind := .restage, stage := k, before := before } read
    (burn = .confirmed ↔ burned) ∧ (burn = .unchanged ↔ read = before) ∧
    (burn = .mismatched ↔ ¬ burned ∧ read ≠ before) ∧
    (k ≠ 0 → (restage = .confirmed ↔ restaged) ∧ (restage = .unchanged ↔ left) ∧
      (restage = .mismatched ↔ ¬ restaged ∧ ¬ left))

/-- The comparison of a resolution (R117). -/
def Obligations.ResolutionCompared : Prop :=
  ∀ (k : Stage) (before : Digits) (read : Tally),
    let taken : Prop := (read.digits.get k).val = (before.get k).val + 1 ∧
      (∀ j, j < k → (read.digits.get j).val = 7) ∧ (∀ j, j > k → read.digits.get j = before.get j) ∧ read.latch = k
    let notTaken : Prop := (∀ j, read.digits.get j = before.get j) ∧ read.latch = 0
    (resolveOutcome k before read = .notTaken ↔ notTaken) ∧ (resolveOutcome k before read = .taken ↔ taken) ∧
    (resolveOutcome k before read = .mismatch ↔ ¬ notTaken ∧ ¬ taken)

/-! ## Laws that every step keeps -/

/-- At most 16 requests are outstanding, and the hold line is asserted exactly at 16, while a RESTART is pending and until
start-up is complete (R139, R140, R153, R161). -/
def Obligations.HoldLineLawKept : Prop :=
  ∀ s t : State, s.linkLawful → step s = .next t → t.linkLawful

/-- Every request in the part is outstanding, no notice is queued twice, and so the outbound queue never holds more than 49
messages (R139, R144, R150). Until start-up is complete nothing is outstanding and no line carries an order (R16, R161). -/
def Obligations.OutboundQueueFits : Prop :=
  (∀ s t : State, s.linkLawful → s.quietLawful → s.retained.queuesLawful → s.noticesOnce →
    s.requestsHeld ≤ s.link.outstanding → step s = .next t →
    t.linkLawful ∧ t.quietLawful ∧ t.noticesOnce ∧ t.requestsHeld ≤ t.link.outstanding) ∧
  (∀ s : State, s.linkLawful → s.noticesOnce → s.requestsHeld ≤ s.link.outstanding → s.link.outbound.length ≤ 49)

/-- No more than four channels are held, and no position holds or waits for a channel twice, or both (R98, R99). Every line
that carries a write order holds a channel, so at most four lines carry one (R98, R101). -/
def Obligations.ChannelLawKept : Prop :=
  (∀ s t : State, s.arbiter.lawful → step s = .next t → t.arbiter.lawful) ∧
  (∀ s t : State, s.writersHold → step s = .next t → t.writersHold) ∧
  (∀ s : State, s.arbiter.lawful → s.writersHold → (positions.filter fun p => (s.line p).writing).length ≤ 4)

/-- In retained memory, stored records and reservations keep within 64, the reservations are those of the open calls, the
doubt list keeps within 48, the counters within their ranges, and no queue holds more than four charges, nor any where no
call is open (R76, R78, R111, R127, R130). -/
def Obligations.RetainedLawKept : Prop :=
  ∀ s t : State, s.retained.roomLawful → s.retained.countsLawful → s.retained.queuesLawful → step s = .next t →
    t.retained.roomLawful ∧ t.retained.countsLawful ∧ t.retained.queuesLawful

/-- The block list stays in order, at most 256 ranges long, with no two ranges of a series overlapping or adjacent; LOADED
entries stay unique by code; no two positions hold one identity; held terms and the terms of open calls stay in range
(R39, R43, R51, R53). -/
def Obligations.TableLawKept : Prop :=
  ∀ s t : State, s.tablesLawful → s.presentSetLawful → s.termsLawful → step s = .next t →
    t.tablesLawful ∧ t.presentSetLawful ∧ t.termsLawful
end

