-- ==== Sys2Proof/Laws/Frames.lean ====
section
/-! SUPPORT. Frames: what the receive framer makes of a whole management frame (R138, R169), and that a line frame reads
back as it was made (R170). -/

namespace Sys2Proof.Machine

/-- The framer at the end of a frame whose bytes after the length byte are `got ++ bs`. -/
theorem run_gathering (len : Byte) (bs : List Byte) : ∀ got : List Byte,
    bs ≠ [] → got.length + bs.length = len.toNat + 2 →
    (Framer.gathering len got).run bs =
      (.hunting, [{ body := (got ++ bs).take len.toNat,
                    checkGood := halfBytes (crc (len :: (got ++ bs).take len.toNat)) = (got ++ bs).drop len.toNat }]) := by
  induction bs with
  | nil => intro got h; exact absurd rfl h
  | cons b bs ih =>
    intro got _ hl
    cases bs with
    | nil =>
      have : (got ++ [b]).length = len.toNat + 2 := by simpa using hl
      simp [Framer.run, Framer.feed, this]
    | cons c cs =>
      have hne : (got ++ [b]).length ≠ len.toNat + 2 := by simp at hl ⊢; omega
      have ih' := ih (got ++ [b]) (by simp) (by simp at hl ⊢; omega)
      rw [Framer.run]
      simp only [Framer.feed, hne, if_false, ih']
      simp

/-- A whole frame, hunting before it: one frame is complete, and the framer hunts again. -/
theorem run_frame (type tag pos : Byte) (payload : List Byte) (check : Half) (h : payload.length + 3 ≤ 250)
    (h1 : 1 ≤ payload.length) :
    Framer.hunting.run
        (0x01#8 :: natByte (payload.length + 3) :: type :: tag :: pos :: payload ++ halfBytes check) =
      (.hunting, [{ body := type :: tag :: pos :: payload,
                    checkGood := halfBytes (crc (natByte (payload.length + 3) :: type :: tag :: pos :: payload)) =
                      halfBytes check }]) := by
  have hn : (natByte (payload.length + 3)).toNat = payload.length + 3 := by
    simp [natByte]; omega
  have hr : lengthInRange (natByte (payload.length + 3)) = true := by
    simp [lengthInRange, hn]; omega
  have hg := run_gathering (natByte (payload.length + 3)) (type :: tag :: pos :: payload ++ halfBytes check) [] (by simp)
    (by simp [hn, halfBytes])
  have ht : (type :: tag :: pos :: payload ++ halfBytes check).take (payload.length + 3) =
      type :: tag :: pos :: payload := by
    rw [List.take_append_of_le_length (by simp)]; simp
  have hd : (type :: tag :: pos :: payload ++ halfBytes check).drop (payload.length + 3) = halfBytes check := by
    rw [List.drop_append]; simp
  simp only [List.nil_append, hn, ht, hd] at hg
  have run_cons : ∀ (f : Framer) (b : Byte) (bs : List Byte),
      f.run (b :: bs) = (((f.feed b).1.run bs).1, (f.feed b).2.toList ++ ((f.feed b).1.run bs).2) := fun _ _ _ => rfl
  have e1 : Framer.hunting.feed 0x01#8 = (.started, none) := rfl
  have e2 : Framer.started.feed (natByte (payload.length + 3)) = (.gathering (natByte (payload.length + 3)) [], none) := by
    simp [Framer.feed, hr]
  simp only [List.cons_append] at hg ⊢
  rw [run_cons, e1, run_cons, e2, hg]
  rfl

/-- Two checks whose bytes agree are the same check. -/
theorem halfBytes_inj {a b : Half} (h : halfBytes a = halfBytes b) : a = b := by
  simp [halfBytes] at h
  obtain ⟨h1, h2⟩ := h
  apply BitVec.eq_of_getLsbD_eq
  intro i hi
  by_cases h8 : i < 8
  · have := congrArg (fun x => BitVec.getLsbD x i) h2
    simpa [h8] using this
  · have := congrArg (fun x => BitVec.getLsbD x (i - 8)) h1
    have h3 : i - 8 < 8 := by omega
    have h4 : 8 + (i - 8) = i := by omega
    simpa [h3, h4] using this

/-- A line frame reads back as it was made. -/
theorem readLineFrame_lineFrame (kind : Byte) (content : List Byte) (h : content.length + 1 < 256) :
    readLineFrame (lineFrame kind content) = .good kind content := by
  have hn : (natByte (content.length + 1)).toNat = content.length + 1 := by simp [natByte]; omega
  have ht : (kind :: content ++ halfBytes (crc (natByte (content.length + 1) :: kind :: content))).take
      (content.length + 1) = kind :: content := by
    rw [List.take_append_of_le_length (by simp)]; simp
  have hd : (kind :: content ++ halfBytes (crc (natByte (content.length + 1) :: kind :: content))).drop
      (content.length + 1) = halfBytes (crc (natByte (content.length + 1) :: kind :: content)) := by
    rw [List.drop_append]; simp
  simp only [lineFrame, readLineFrame, List.cons_append, hn]
  simp only [List.cons_append] at ht hd
  rw [ht, hd]
  simp [halfBytes]

end Sys2Proof.Machine
end

