-- ==== Sys2Proof/Laws/State.lean ====
section
/-! SUPPORT. What each small update of the state leaves as it was: one lemma for each field and update, true by rfl, for
simp; then what the accessors read after an update. -/

namespace Sys2Proof.Machine

variable (s : State)

/-! ## setUnit -/

@[simp] theorem setUnit_powered (p : Pos) (u : Position) : (s.setUnit p u).powered = s.powered := rfl
@[simp] theorem setUnit_cardsOut (p : Pos) (u : Position) : (s.setUnit p u).cardsOut = s.cardsOut := rfl
@[simp] theorem setUnit_retained (p : Pos) (u : Position) : (s.setUnit p u).retained = s.retained := rfl
@[simp] theorem setUnit_working (p : Pos) (u : Position) : (s.setUnit p u).working = s.working := rfl
@[simp] theorem setUnit_mode (p : Pos) (u : Position) : (s.setUnit p u).mode = s.mode := rfl
@[simp] theorem setUnit_stored (p : Pos) (u : Position) : (s.setUnit p u).stored = s.stored := rfl
@[simp] theorem setUnit_storeCheck (p : Pos) (u : Position) : (s.setUnit p u).storeCheck = s.storeCheck := rfl
@[simp] theorem setUnit_save (p : Pos) (u : Position) : (s.setUnit p u).save = s.save := rfl
@[simp] theorem setUnit_arbiter (p : Pos) (u : Position) : (s.setUnit p u).arbiter = s.arbiter := rfl
@[simp] theorem setUnit_link (p : Pos) (u : Position) : (s.setUnit p u).link = s.link := rfl
@[simp] theorem setUnit_restart (p : Pos) (u : Position) : (s.setUnit p u).restart = s.restart := rfl
@[simp] theorem setUnit_starting (p : Pos) (u : Position) : (s.setUnit p u).starting = s.starting := rfl
@[simp] theorem setUnit_test (p : Pos) (u : Position) : (s.setUnit p u).test = s.test := rfl
@[simp] theorem setUnit_key (p : Pos) (u : Position) : (s.setUnit p u).key = s.key := rfl
@[simp] theorem setUnit_freeCount (p : Pos) (u : Position) : (s.setUnit p u).freeCount = s.freeCount := rfl
@[simp] theorem setUnit_pending (p : Pos) (u : Position) : (s.setUnit p u).pending = s.pending := rfl
@[simp] theorem setUnit_ctx (p : Pos) (u : Position) (q : Pos) : (s.setUnit p u).ctx q = s.ctx q := rfl
@[simp] theorem setUnit_posSettings (p : Pos) (u : Position) (q : Pos) : (s.setUnit p u).posSettings q = s.posSettings q := rfl
@[simp] theorem setUnit_waits (p : Pos) (u : Position) (q : Pos) : (s.setUnit p u).waits q = s.waits q := rfl
@[simp] theorem setUnit_holds (p : Pos) (u : Position) (q : Pos) : (s.setUnit p u).holds q = s.holds q := rfl

/-! ## modUnit -/

@[simp] theorem modUnit_powered (p : Pos) (f : Position → Position) : (s.modUnit p f).powered = s.powered := rfl
@[simp] theorem modUnit_cardsOut (p : Pos) (f : Position → Position) : (s.modUnit p f).cardsOut = s.cardsOut := rfl
@[simp] theorem modUnit_retained (p : Pos) (f : Position → Position) : (s.modUnit p f).retained = s.retained := rfl
@[simp] theorem modUnit_working (p : Pos) (f : Position → Position) : (s.modUnit p f).working = s.working := rfl
@[simp] theorem modUnit_mode (p : Pos) (f : Position → Position) : (s.modUnit p f).mode = s.mode := rfl
@[simp] theorem modUnit_stored (p : Pos) (f : Position → Position) : (s.modUnit p f).stored = s.stored := rfl
@[simp] theorem modUnit_storeCheck (p : Pos) (f : Position → Position) : (s.modUnit p f).storeCheck = s.storeCheck := rfl
@[simp] theorem modUnit_save (p : Pos) (f : Position → Position) : (s.modUnit p f).save = s.save := rfl
@[simp] theorem modUnit_arbiter (p : Pos) (f : Position → Position) : (s.modUnit p f).arbiter = s.arbiter := rfl
@[simp] theorem modUnit_link (p : Pos) (f : Position → Position) : (s.modUnit p f).link = s.link := rfl
@[simp] theorem modUnit_restart (p : Pos) (f : Position → Position) : (s.modUnit p f).restart = s.restart := rfl
@[simp] theorem modUnit_starting (p : Pos) (f : Position → Position) : (s.modUnit p f).starting = s.starting := rfl
@[simp] theorem modUnit_test (p : Pos) (f : Position → Position) : (s.modUnit p f).test = s.test := rfl
@[simp] theorem modUnit_key (p : Pos) (f : Position → Position) : (s.modUnit p f).key = s.key := rfl
@[simp] theorem modUnit_freeCount (p : Pos) (f : Position → Position) : (s.modUnit p f).freeCount = s.freeCount := rfl
@[simp] theorem modUnit_pending (p : Pos) (f : Position → Position) : (s.modUnit p f).pending = s.pending := rfl
@[simp] theorem modUnit_ctx (p : Pos) (f : Position → Position) (q : Pos) : (s.modUnit p f).ctx q = s.ctx q := rfl
@[simp] theorem modUnit_posSettings (p : Pos) (f : Position → Position) (q : Pos) : (s.modUnit p f).posSettings q = s.posSettings q := rfl
@[simp] theorem modUnit_waits (p : Pos) (f : Position → Position) (q : Pos) : (s.modUnit p f).waits q = s.waits q := rfl
@[simp] theorem modUnit_holds (p : Pos) (f : Position → Position) (q : Pos) : (s.modUnit p f).holds q = s.holds q := rfl

/-! ## modLine -/

@[simp] theorem modLine_powered (p : Pos) (f : LineUnit → LineUnit) : (s.modLine p f).powered = s.powered := rfl
@[simp] theorem modLine_cardsOut (p : Pos) (f : LineUnit → LineUnit) : (s.modLine p f).cardsOut = s.cardsOut := rfl
@[simp] theorem modLine_retained (p : Pos) (f : LineUnit → LineUnit) : (s.modLine p f).retained = s.retained := rfl
@[simp] theorem modLine_working (p : Pos) (f : LineUnit → LineUnit) : (s.modLine p f).working = s.working := rfl
@[simp] theorem modLine_mode (p : Pos) (f : LineUnit → LineUnit) : (s.modLine p f).mode = s.mode := rfl
@[simp] theorem modLine_stored (p : Pos) (f : LineUnit → LineUnit) : (s.modLine p f).stored = s.stored := rfl
@[simp] theorem modLine_storeCheck (p : Pos) (f : LineUnit → LineUnit) : (s.modLine p f).storeCheck = s.storeCheck := rfl
@[simp] theorem modLine_save (p : Pos) (f : LineUnit → LineUnit) : (s.modLine p f).save = s.save := rfl
@[simp] theorem modLine_arbiter (p : Pos) (f : LineUnit → LineUnit) : (s.modLine p f).arbiter = s.arbiter := rfl
@[simp] theorem modLine_link (p : Pos) (f : LineUnit → LineUnit) : (s.modLine p f).link = s.link := rfl
@[simp] theorem modLine_restart (p : Pos) (f : LineUnit → LineUnit) : (s.modLine p f).restart = s.restart := rfl
@[simp] theorem modLine_starting (p : Pos) (f : LineUnit → LineUnit) : (s.modLine p f).starting = s.starting := rfl
@[simp] theorem modLine_test (p : Pos) (f : LineUnit → LineUnit) : (s.modLine p f).test = s.test := rfl
@[simp] theorem modLine_key (p : Pos) (f : LineUnit → LineUnit) : (s.modLine p f).key = s.key := rfl
@[simp] theorem modLine_freeCount (p : Pos) (f : LineUnit → LineUnit) : (s.modLine p f).freeCount = s.freeCount := rfl
@[simp] theorem modLine_pending (p : Pos) (f : LineUnit → LineUnit) : (s.modLine p f).pending = s.pending := rfl
@[simp] theorem modLine_ctx (p : Pos) (f : LineUnit → LineUnit) (q : Pos) : (s.modLine p f).ctx q = s.ctx q := rfl
@[simp] theorem modLine_posSettings (p : Pos) (f : LineUnit → LineUnit) (q : Pos) : (s.modLine p f).posSettings q = s.posSettings q := rfl
@[simp] theorem modLine_waits (p : Pos) (f : LineUnit → LineUnit) (q : Pos) : (s.modLine p f).waits q = s.waits q := rfl
@[simp] theorem modLine_holds (p : Pos) (f : LineUnit → LineUnit) (q : Pos) : (s.modLine p f).holds q = s.holds q := rfl

/-! ## modRetained -/

@[simp] theorem modRetained_powered (f : Retained → Retained) : (s.modRetained f).powered = s.powered := rfl
@[simp] theorem modRetained_units (f : Retained → Retained) : (s.modRetained f).units = s.units := rfl
@[simp] theorem modRetained_cardsOut (f : Retained → Retained) : (s.modRetained f).cardsOut = s.cardsOut := rfl
@[simp] theorem modRetained_working (f : Retained → Retained) : (s.modRetained f).working = s.working := rfl
@[simp] theorem modRetained_mode (f : Retained → Retained) : (s.modRetained f).mode = s.mode := rfl
@[simp] theorem modRetained_stored (f : Retained → Retained) : (s.modRetained f).stored = s.stored := rfl
@[simp] theorem modRetained_storeCheck (f : Retained → Retained) : (s.modRetained f).storeCheck = s.storeCheck := rfl
@[simp] theorem modRetained_save (f : Retained → Retained) : (s.modRetained f).save = s.save := rfl
@[simp] theorem modRetained_arbiter (f : Retained → Retained) : (s.modRetained f).arbiter = s.arbiter := rfl
@[simp] theorem modRetained_link (f : Retained → Retained) : (s.modRetained f).link = s.link := rfl
@[simp] theorem modRetained_restart (f : Retained → Retained) : (s.modRetained f).restart = s.restart := rfl
@[simp] theorem modRetained_starting (f : Retained → Retained) : (s.modRetained f).starting = s.starting := rfl
@[simp] theorem modRetained_test (f : Retained → Retained) : (s.modRetained f).test = s.test := rfl
@[simp] theorem modRetained_key (f : Retained → Retained) : (s.modRetained f).key = s.key := rfl
@[simp] theorem modRetained_freeCount (f : Retained → Retained) : (s.modRetained f).freeCount = s.freeCount := rfl
@[simp] theorem modRetained_pending (f : Retained → Retained) : (s.modRetained f).pending = s.pending := rfl
@[simp] theorem modRetained_unit (f : Retained → Retained) (q : Pos) : (s.modRetained f).unit q = s.unit q := rfl
@[simp] theorem modRetained_line (f : Retained → Retained) (q : Pos) : (s.modRetained f).line q = s.line q := rfl
@[simp] theorem modRetained_posSettings (f : Retained → Retained) (q : Pos) : (s.modRetained f).posSettings q = s.posSettings q := rfl
@[simp] theorem modRetained_waits (f : Retained → Retained) (q : Pos) : (s.modRetained f).waits q = s.waits q := rfl
@[simp] theorem modRetained_holds (f : Retained → Retained) (q : Pos) : (s.modRetained f).holds q = s.holds q := rfl

/-! ## modCtx -/

@[simp] theorem modCtx_powered (p : Pos) (f : Context → Context) : (s.modCtx p f).powered = s.powered := rfl
@[simp] theorem modCtx_units (p : Pos) (f : Context → Context) : (s.modCtx p f).units = s.units := rfl
@[simp] theorem modCtx_cardsOut (p : Pos) (f : Context → Context) : (s.modCtx p f).cardsOut = s.cardsOut := rfl
@[simp] theorem modCtx_working (p : Pos) (f : Context → Context) : (s.modCtx p f).working = s.working := rfl
@[simp] theorem modCtx_mode (p : Pos) (f : Context → Context) : (s.modCtx p f).mode = s.mode := rfl
@[simp] theorem modCtx_stored (p : Pos) (f : Context → Context) : (s.modCtx p f).stored = s.stored := rfl
@[simp] theorem modCtx_storeCheck (p : Pos) (f : Context → Context) : (s.modCtx p f).storeCheck = s.storeCheck := rfl
@[simp] theorem modCtx_save (p : Pos) (f : Context → Context) : (s.modCtx p f).save = s.save := rfl
@[simp] theorem modCtx_arbiter (p : Pos) (f : Context → Context) : (s.modCtx p f).arbiter = s.arbiter := rfl
@[simp] theorem modCtx_link (p : Pos) (f : Context → Context) : (s.modCtx p f).link = s.link := rfl
@[simp] theorem modCtx_restart (p : Pos) (f : Context → Context) : (s.modCtx p f).restart = s.restart := rfl
@[simp] theorem modCtx_starting (p : Pos) (f : Context → Context) : (s.modCtx p f).starting = s.starting := rfl
@[simp] theorem modCtx_test (p : Pos) (f : Context → Context) : (s.modCtx p f).test = s.test := rfl
@[simp] theorem modCtx_key (p : Pos) (f : Context → Context) : (s.modCtx p f).key = s.key := rfl
@[simp] theorem modCtx_freeCount (p : Pos) (f : Context → Context) : (s.modCtx p f).freeCount = s.freeCount := rfl
@[simp] theorem modCtx_pending (p : Pos) (f : Context → Context) : (s.modCtx p f).pending = s.pending := rfl
@[simp] theorem modCtx_unit (p : Pos) (f : Context → Context) (q : Pos) : (s.modCtx p f).unit q = s.unit q := rfl
@[simp] theorem modCtx_line (p : Pos) (f : Context → Context) (q : Pos) : (s.modCtx p f).line q = s.line q := rfl
@[simp] theorem modCtx_posSettings (p : Pos) (f : Context → Context) (q : Pos) : (s.modCtx p f).posSettings q = s.posSettings q := rfl
@[simp] theorem modCtx_waits (p : Pos) (f : Context → Context) (q : Pos) : (s.modCtx p f).waits q = s.waits q := rfl
@[simp] theorem modCtx_holds (p : Pos) (f : Context → Context) (q : Pos) : (s.modCtx p f).holds q = s.holds q := rfl

/-! ## modLink -/

@[simp] theorem modLink_powered (f : Link → Link) : (s.modLink f).powered = s.powered := rfl
@[simp] theorem modLink_units (f : Link → Link) : (s.modLink f).units = s.units := rfl
@[simp] theorem modLink_cardsOut (f : Link → Link) : (s.modLink f).cardsOut = s.cardsOut := rfl
@[simp] theorem modLink_retained (f : Link → Link) : (s.modLink f).retained = s.retained := rfl
@[simp] theorem modLink_working (f : Link → Link) : (s.modLink f).working = s.working := rfl
@[simp] theorem modLink_mode (f : Link → Link) : (s.modLink f).mode = s.mode := rfl
@[simp] theorem modLink_stored (f : Link → Link) : (s.modLink f).stored = s.stored := rfl
@[simp] theorem modLink_storeCheck (f : Link → Link) : (s.modLink f).storeCheck = s.storeCheck := rfl
@[simp] theorem modLink_save (f : Link → Link) : (s.modLink f).save = s.save := rfl
@[simp] theorem modLink_arbiter (f : Link → Link) : (s.modLink f).arbiter = s.arbiter := rfl
@[simp] theorem modLink_restart (f : Link → Link) : (s.modLink f).restart = s.restart := rfl
@[simp] theorem modLink_starting (f : Link → Link) : (s.modLink f).starting = s.starting := rfl
@[simp] theorem modLink_test (f : Link → Link) : (s.modLink f).test = s.test := rfl
@[simp] theorem modLink_key (f : Link → Link) : (s.modLink f).key = s.key := rfl
@[simp] theorem modLink_freeCount (f : Link → Link) : (s.modLink f).freeCount = s.freeCount := rfl
@[simp] theorem modLink_pending (f : Link → Link) : (s.modLink f).pending = s.pending := rfl
@[simp] theorem modLink_unit (f : Link → Link) (q : Pos) : (s.modLink f).unit q = s.unit q := rfl
@[simp] theorem modLink_line (f : Link → Link) (q : Pos) : (s.modLink f).line q = s.line q := rfl
@[simp] theorem modLink_ctx (f : Link → Link) (q : Pos) : (s.modLink f).ctx q = s.ctx q := rfl
@[simp] theorem modLink_posSettings (f : Link → Link) (q : Pos) : (s.modLink f).posSettings q = s.posSettings q := rfl
@[simp] theorem modLink_waits (f : Link → Link) (q : Pos) : (s.modLink f).waits q = s.waits q := rfl
@[simp] theorem modLink_holds (f : Link → Link) (q : Pos) : (s.modLink f).holds q = s.holds q := rfl

/-! ## send -/

@[simp] theorem send_powered (m : Message) : (s.send m).powered = s.powered := rfl
@[simp] theorem send_units (m : Message) : (s.send m).units = s.units := rfl
@[simp] theorem send_cardsOut (m : Message) : (s.send m).cardsOut = s.cardsOut := rfl
@[simp] theorem send_retained (m : Message) : (s.send m).retained = s.retained := rfl
@[simp] theorem send_working (m : Message) : (s.send m).working = s.working := rfl
@[simp] theorem send_mode (m : Message) : (s.send m).mode = s.mode := rfl
@[simp] theorem send_stored (m : Message) : (s.send m).stored = s.stored := rfl
@[simp] theorem send_storeCheck (m : Message) : (s.send m).storeCheck = s.storeCheck := rfl
@[simp] theorem send_save (m : Message) : (s.send m).save = s.save := rfl
@[simp] theorem send_arbiter (m : Message) : (s.send m).arbiter = s.arbiter := rfl
@[simp] theorem send_restart (m : Message) : (s.send m).restart = s.restart := rfl
@[simp] theorem send_starting (m : Message) : (s.send m).starting = s.starting := rfl
@[simp] theorem send_test (m : Message) : (s.send m).test = s.test := rfl
@[simp] theorem send_key (m : Message) : (s.send m).key = s.key := rfl
@[simp] theorem send_freeCount (m : Message) : (s.send m).freeCount = s.freeCount := rfl
@[simp] theorem send_pending (m : Message) : (s.send m).pending = s.pending := rfl
@[simp] theorem send_unit (m : Message) (q : Pos) : (s.send m).unit q = s.unit q := rfl
@[simp] theorem send_line (m : Message) (q : Pos) : (s.send m).line q = s.line q := rfl
@[simp] theorem send_ctx (m : Message) (q : Pos) : (s.send m).ctx q = s.ctx q := rfl
@[simp] theorem send_posSettings (m : Message) (q : Pos) : (s.send m).posSettings q = s.posSettings q := rfl
@[simp] theorem send_waits (m : Message) (q : Pos) : (s.send m).waits q = s.waits q := rfl
@[simp] theorem send_holds (m : Message) (q : Pos) : (s.send m).holds q = s.holds q := rfl
@[simp] theorem send_link_framer (m : Message) : (s.send m).link.framer = s.link.framer := rfl
@[simp] theorem send_link_gap (m : Message) : (s.send m).link.gap = s.link.gap := rfl
@[simp] theorem send_link_received (m : Message) : (s.send m).link.received = s.link.received := rfl
@[simp] theorem send_link_outstanding (m : Message) : (s.send m).link.outstanding = s.link.outstanding := rfl
@[simp] theorem send_link_transmitting (m : Message) : (s.send m).link.transmitting = s.link.transmitting := rfl
@[simp] theorem send_link_hold (m : Message) : (s.send m).link.hold = s.link.hold := rfl
@[simp] theorem send_link_flags (m : Message) : (s.send m).link.flags = s.link.flags := rfl
@[simp] theorem send_link_rate (m : Message) : (s.send m).link.rate = s.link.rate := rfl

/-! ## takeFront -/

@[simp] theorem takeFront_powered (o : Owner) : (s.takeFront o).powered = s.powered := rfl
@[simp] theorem takeFront_units (o : Owner) : (s.takeFront o).units = s.units := rfl
@[simp] theorem takeFront_cardsOut (o : Owner) : (s.takeFront o).cardsOut = s.cardsOut := rfl
@[simp] theorem takeFront_retained (o : Owner) : (s.takeFront o).retained = s.retained := rfl
@[simp] theorem takeFront_working (o : Owner) : (s.takeFront o).working = s.working := rfl
@[simp] theorem takeFront_mode (o : Owner) : (s.takeFront o).mode = s.mode := rfl
@[simp] theorem takeFront_stored (o : Owner) : (s.takeFront o).stored = s.stored := rfl
@[simp] theorem takeFront_storeCheck (o : Owner) : (s.takeFront o).storeCheck = s.storeCheck := rfl
@[simp] theorem takeFront_save (o : Owner) : (s.takeFront o).save = s.save := rfl
@[simp] theorem takeFront_arbiter (o : Owner) : (s.takeFront o).arbiter = s.arbiter := rfl
@[simp] theorem takeFront_restart (o : Owner) : (s.takeFront o).restart = s.restart := rfl
@[simp] theorem takeFront_starting (o : Owner) : (s.takeFront o).starting = s.starting := rfl
@[simp] theorem takeFront_test (o : Owner) : (s.takeFront o).test = s.test := rfl
@[simp] theorem takeFront_key (o : Owner) : (s.takeFront o).key = s.key := rfl
@[simp] theorem takeFront_freeCount (o : Owner) : (s.takeFront o).freeCount = s.freeCount := rfl
@[simp] theorem takeFront_pending (o : Owner) : (s.takeFront o).pending = s.pending := rfl
@[simp] theorem takeFront_unit (o : Owner) (q : Pos) : (s.takeFront o).unit q = s.unit q := rfl
@[simp] theorem takeFront_line (o : Owner) (q : Pos) : (s.takeFront o).line q = s.line q := rfl
@[simp] theorem takeFront_ctx (o : Owner) (q : Pos) : (s.takeFront o).ctx q = s.ctx q := rfl
@[simp] theorem takeFront_posSettings (o : Owner) (q : Pos) : (s.takeFront o).posSettings q = s.posSettings q := rfl
@[simp] theorem takeFront_waits (o : Owner) (q : Pos) : (s.takeFront o).waits q = s.waits q := rfl
@[simp] theorem takeFront_holds (o : Owner) (q : Pos) : (s.takeFront o).holds q = s.holds q := rfl
@[simp] theorem takeFront_link_framer (o : Owner) : (s.takeFront o).link.framer = s.link.framer := rfl
@[simp] theorem takeFront_link_gap (o : Owner) : (s.takeFront o).link.gap = s.link.gap := rfl
@[simp] theorem takeFront_link_outstanding (o : Owner) : (s.takeFront o).link.outstanding = s.link.outstanding := rfl
@[simp] theorem takeFront_link_outbound (o : Owner) : (s.takeFront o).link.outbound = s.link.outbound := rfl
@[simp] theorem takeFront_link_transmitting (o : Owner) : (s.takeFront o).link.transmitting = s.link.transmitting := rfl
@[simp] theorem takeFront_link_hold (o : Owner) : (s.takeFront o).link.hold = s.link.hold := rfl
@[simp] theorem takeFront_link_flags (o : Owner) : (s.takeFront o).link.flags = s.link.flags := rfl
@[simp] theorem takeFront_link_rate (o : Owner) : (s.takeFront o).link.rate = s.link.rate := rfl

/-! ## answer -/

@[simp] theorem answer_powered (r : Request) (b : ReplyBody) : (s.answer r b).powered = s.powered := rfl
@[simp] theorem answer_units (r : Request) (b : ReplyBody) : (s.answer r b).units = s.units := rfl
@[simp] theorem answer_cardsOut (r : Request) (b : ReplyBody) : (s.answer r b).cardsOut = s.cardsOut := rfl
@[simp] theorem answer_retained (r : Request) (b : ReplyBody) : (s.answer r b).retained = s.retained := rfl
@[simp] theorem answer_working (r : Request) (b : ReplyBody) : (s.answer r b).working = s.working := rfl
@[simp] theorem answer_mode (r : Request) (b : ReplyBody) : (s.answer r b).mode = s.mode := rfl
@[simp] theorem answer_stored (r : Request) (b : ReplyBody) : (s.answer r b).stored = s.stored := rfl
@[simp] theorem answer_storeCheck (r : Request) (b : ReplyBody) : (s.answer r b).storeCheck = s.storeCheck := rfl
@[simp] theorem answer_save (r : Request) (b : ReplyBody) : (s.answer r b).save = s.save := rfl
@[simp] theorem answer_arbiter (r : Request) (b : ReplyBody) : (s.answer r b).arbiter = s.arbiter := rfl
@[simp] theorem answer_restart (r : Request) (b : ReplyBody) : (s.answer r b).restart = s.restart := rfl
@[simp] theorem answer_starting (r : Request) (b : ReplyBody) : (s.answer r b).starting = s.starting := rfl
@[simp] theorem answer_test (r : Request) (b : ReplyBody) : (s.answer r b).test = s.test := rfl
@[simp] theorem answer_key (r : Request) (b : ReplyBody) : (s.answer r b).key = s.key := rfl
@[simp] theorem answer_freeCount (r : Request) (b : ReplyBody) : (s.answer r b).freeCount = s.freeCount := rfl
@[simp] theorem answer_pending (r : Request) (b : ReplyBody) : (s.answer r b).pending = s.pending := rfl
@[simp] theorem answer_unit (r : Request) (b : ReplyBody) (q : Pos) : (s.answer r b).unit q = s.unit q := rfl
@[simp] theorem answer_line (r : Request) (b : ReplyBody) (q : Pos) : (s.answer r b).line q = s.line q := rfl
@[simp] theorem answer_ctx (r : Request) (b : ReplyBody) (q : Pos) : (s.answer r b).ctx q = s.ctx q := rfl
@[simp] theorem answer_posSettings (r : Request) (b : ReplyBody) (q : Pos) : (s.answer r b).posSettings q = s.posSettings q := rfl
@[simp] theorem answer_waits (r : Request) (b : ReplyBody) (q : Pos) : (s.answer r b).waits q = s.waits q := rfl
@[simp] theorem answer_holds (r : Request) (b : ReplyBody) (q : Pos) : (s.answer r b).holds q = s.holds q := rfl
@[simp] theorem answer_link_framer (r : Request) (b : ReplyBody) : (s.answer r b).link.framer = s.link.framer := rfl
@[simp] theorem answer_link_gap (r : Request) (b : ReplyBody) : (s.answer r b).link.gap = s.link.gap := rfl
@[simp] theorem answer_link_received (r : Request) (b : ReplyBody) : (s.answer r b).link.received = s.link.received := rfl
@[simp] theorem answer_link_outstanding (r : Request) (b : ReplyBody) : (s.answer r b).link.outstanding = s.link.outstanding := rfl
@[simp] theorem answer_link_transmitting (r : Request) (b : ReplyBody) : (s.answer r b).link.transmitting = s.link.transmitting := rfl
@[simp] theorem answer_link_hold (r : Request) (b : ReplyBody) : (s.answer r b).link.hold = s.link.hold := rfl
@[simp] theorem answer_link_flags (r : Request) (b : ReplyBody) : (s.answer r b).link.flags = s.link.flags := rfl
@[simp] theorem answer_link_rate (r : Request) (b : ReplyBody) : (s.answer r b).link.rate = s.link.rate := rfl

/-! ## answerAt -/

@[simp] theorem answerAt_powered (p : Pos) (x y : Byte) (b : ReplyBody) : (s.answerAt p x y b).powered = s.powered := rfl
@[simp] theorem answerAt_units (p : Pos) (x y : Byte) (b : ReplyBody) : (s.answerAt p x y b).units = s.units := rfl
@[simp] theorem answerAt_cardsOut (p : Pos) (x y : Byte) (b : ReplyBody) : (s.answerAt p x y b).cardsOut = s.cardsOut := rfl
@[simp] theorem answerAt_retained (p : Pos) (x y : Byte) (b : ReplyBody) : (s.answerAt p x y b).retained = s.retained := rfl
@[simp] theorem answerAt_working (p : Pos) (x y : Byte) (b : ReplyBody) : (s.answerAt p x y b).working = s.working := rfl
@[simp] theorem answerAt_mode (p : Pos) (x y : Byte) (b : ReplyBody) : (s.answerAt p x y b).mode = s.mode := rfl
@[simp] theorem answerAt_stored (p : Pos) (x y : Byte) (b : ReplyBody) : (s.answerAt p x y b).stored = s.stored := rfl
@[simp] theorem answerAt_storeCheck (p : Pos) (x y : Byte) (b : ReplyBody) : (s.answerAt p x y b).storeCheck = s.storeCheck := rfl
@[simp] theorem answerAt_save (p : Pos) (x y : Byte) (b : ReplyBody) : (s.answerAt p x y b).save = s.save := rfl
@[simp] theorem answerAt_arbiter (p : Pos) (x y : Byte) (b : ReplyBody) : (s.answerAt p x y b).arbiter = s.arbiter := rfl
@[simp] theorem answerAt_restart (p : Pos) (x y : Byte) (b : ReplyBody) : (s.answerAt p x y b).restart = s.restart := rfl
@[simp] theorem answerAt_starting (p : Pos) (x y : Byte) (b : ReplyBody) : (s.answerAt p x y b).starting = s.starting := rfl
@[simp] theorem answerAt_test (p : Pos) (x y : Byte) (b : ReplyBody) : (s.answerAt p x y b).test = s.test := rfl
@[simp] theorem answerAt_key (p : Pos) (x y : Byte) (b : ReplyBody) : (s.answerAt p x y b).key = s.key := rfl
@[simp] theorem answerAt_freeCount (p : Pos) (x y : Byte) (b : ReplyBody) : (s.answerAt p x y b).freeCount = s.freeCount := rfl
@[simp] theorem answerAt_pending (p : Pos) (x y : Byte) (b : ReplyBody) : (s.answerAt p x y b).pending = s.pending := rfl
@[simp] theorem answerAt_unit (p : Pos) (x y : Byte) (b : ReplyBody) (q : Pos) : (s.answerAt p x y b).unit q = s.unit q := rfl
@[simp] theorem answerAt_line (p : Pos) (x y : Byte) (b : ReplyBody) (q : Pos) : (s.answerAt p x y b).line q = s.line q := rfl
@[simp] theorem answerAt_ctx (p : Pos) (x y : Byte) (b : ReplyBody) (q : Pos) : (s.answerAt p x y b).ctx q = s.ctx q := rfl
@[simp] theorem answerAt_posSettings (p : Pos) (x y : Byte) (b : ReplyBody) (q : Pos) : (s.answerAt p x y b).posSettings q = s.posSettings q := rfl
@[simp] theorem answerAt_waits (p : Pos) (x y : Byte) (b : ReplyBody) (q : Pos) : (s.answerAt p x y b).waits q = s.waits q := rfl
@[simp] theorem answerAt_holds (p : Pos) (x y : Byte) (b : ReplyBody) (q : Pos) : (s.answerAt p x y b).holds q = s.holds q := rfl
@[simp] theorem answerAt_link_framer (p : Pos) (x y : Byte) (b : ReplyBody) : (s.answerAt p x y b).link.framer = s.link.framer := rfl
@[simp] theorem answerAt_link_gap (p : Pos) (x y : Byte) (b : ReplyBody) : (s.answerAt p x y b).link.gap = s.link.gap := rfl
@[simp] theorem answerAt_link_received (p : Pos) (x y : Byte) (b : ReplyBody) : (s.answerAt p x y b).link.received = s.link.received := rfl
@[simp] theorem answerAt_link_outstanding (p : Pos) (x y : Byte) (b : ReplyBody) : (s.answerAt p x y b).link.outstanding = s.link.outstanding := rfl
@[simp] theorem answerAt_link_transmitting (p : Pos) (x y : Byte) (b : ReplyBody) : (s.answerAt p x y b).link.transmitting = s.link.transmitting := rfl
@[simp] theorem answerAt_link_hold (p : Pos) (x y : Byte) (b : ReplyBody) : (s.answerAt p x y b).link.hold = s.link.hold := rfl
@[simp] theorem answerAt_link_flags (p : Pos) (x y : Byte) (b : ReplyBody) : (s.answerAt p x y b).link.flags = s.link.flags := rfl
@[simp] theorem answerAt_link_rate (p : Pos) (x y : Byte) (b : ReplyBody) : (s.answerAt p x y b).link.rate = s.link.rate := rfl

/-! ## contactOn -/

@[simp] theorem contactOn_powered (p : Pos) : (s.contactOn p).powered = s.powered := rfl
@[simp] theorem contactOn_cardsOut (p : Pos) : (s.contactOn p).cardsOut = s.cardsOut := rfl
@[simp] theorem contactOn_retained (p : Pos) : (s.contactOn p).retained = s.retained := rfl
@[simp] theorem contactOn_working (p : Pos) : (s.contactOn p).working = s.working := rfl
@[simp] theorem contactOn_mode (p : Pos) : (s.contactOn p).mode = s.mode := rfl
@[simp] theorem contactOn_stored (p : Pos) : (s.contactOn p).stored = s.stored := rfl
@[simp] theorem contactOn_storeCheck (p : Pos) : (s.contactOn p).storeCheck = s.storeCheck := rfl
@[simp] theorem contactOn_save (p : Pos) : (s.contactOn p).save = s.save := rfl
@[simp] theorem contactOn_arbiter (p : Pos) : (s.contactOn p).arbiter = s.arbiter := rfl
@[simp] theorem contactOn_link (p : Pos) : (s.contactOn p).link = s.link := rfl
@[simp] theorem contactOn_restart (p : Pos) : (s.contactOn p).restart = s.restart := rfl
@[simp] theorem contactOn_starting (p : Pos) : (s.contactOn p).starting = s.starting := rfl
@[simp] theorem contactOn_test (p : Pos) : (s.contactOn p).test = s.test := rfl
@[simp] theorem contactOn_key (p : Pos) : (s.contactOn p).key = s.key := rfl
@[simp] theorem contactOn_freeCount (p : Pos) : (s.contactOn p).freeCount = s.freeCount := rfl
@[simp] theorem contactOn_pending (p : Pos) : (s.contactOn p).pending = s.pending := rfl
@[simp] theorem contactOn_ctx (p : Pos) (q : Pos) : (s.contactOn p).ctx q = s.ctx q := rfl
@[simp] theorem contactOn_posSettings (p : Pos) (q : Pos) : (s.contactOn p).posSettings q = s.posSettings q := rfl
@[simp] theorem contactOn_waits (p : Pos) (q : Pos) : (s.contactOn p).waits q = s.waits q := rfl
@[simp] theorem contactOn_holds (p : Pos) (q : Pos) : (s.contactOn p).holds q = s.holds q := rfl

/-! ## contactAwake -/

@[simp] theorem contactAwake_powered (p : Pos) : (s.contactAwake p).powered = s.powered := rfl
@[simp] theorem contactAwake_cardsOut (p : Pos) : (s.contactAwake p).cardsOut = s.cardsOut := rfl
@[simp] theorem contactAwake_retained (p : Pos) : (s.contactAwake p).retained = s.retained := rfl
@[simp] theorem contactAwake_working (p : Pos) : (s.contactAwake p).working = s.working := rfl
@[simp] theorem contactAwake_mode (p : Pos) : (s.contactAwake p).mode = s.mode := rfl
@[simp] theorem contactAwake_stored (p : Pos) : (s.contactAwake p).stored = s.stored := rfl
@[simp] theorem contactAwake_storeCheck (p : Pos) : (s.contactAwake p).storeCheck = s.storeCheck := rfl
@[simp] theorem contactAwake_save (p : Pos) : (s.contactAwake p).save = s.save := rfl
@[simp] theorem contactAwake_arbiter (p : Pos) : (s.contactAwake p).arbiter = s.arbiter := rfl
@[simp] theorem contactAwake_link (p : Pos) : (s.contactAwake p).link = s.link := rfl
@[simp] theorem contactAwake_restart (p : Pos) : (s.contactAwake p).restart = s.restart := rfl
@[simp] theorem contactAwake_starting (p : Pos) : (s.contactAwake p).starting = s.starting := rfl
@[simp] theorem contactAwake_test (p : Pos) : (s.contactAwake p).test = s.test := rfl
@[simp] theorem contactAwake_key (p : Pos) : (s.contactAwake p).key = s.key := rfl
@[simp] theorem contactAwake_freeCount (p : Pos) : (s.contactAwake p).freeCount = s.freeCount := rfl
@[simp] theorem contactAwake_pending (p : Pos) : (s.contactAwake p).pending = s.pending := rfl
@[simp] theorem contactAwake_ctx (p : Pos) (q : Pos) : (s.contactAwake p).ctx q = s.ctx q := rfl
@[simp] theorem contactAwake_posSettings (p : Pos) (q : Pos) : (s.contactAwake p).posSettings q = s.posSettings q := rfl
@[simp] theorem contactAwake_waits (p : Pos) (q : Pos) : (s.contactAwake p).waits q = s.waits q := rfl
@[simp] theorem contactAwake_holds (p : Pos) (q : Pos) : (s.contactAwake p).holds q = s.holds q := rfl

/-! ## Attempt -/

@[simp] theorem isRetry_first : Attempt.first.isRetry = false := rfl
@[simp] theorem isRetry_retry (n : Nat) : (Attempt.retry n).isRetry = true := rfl
@[simp] theorem timeoutMs_first (k : OrderKind) (c : LineClass) : Attempt.first.timeoutMs k c = answerTimeoutMs k c := rfl
@[simp] theorem timeoutMs_retry (k : OrderKind) (c : LineClass) (n : Nat) : (Attempt.retry n).timeoutMs k c = n := rfl

/-! ## beginOrder -/

@[simp] theorem beginOrder_powered (p : Pos) (k : OrderKind) (g : Stage) (b : Attempt) (x : Purpose) : (s.beginOrder p k g b x).powered = s.powered := rfl
@[simp] theorem beginOrder_cardsOut (p : Pos) (k : OrderKind) (g : Stage) (b : Attempt) (x : Purpose) : (s.beginOrder p k g b x).cardsOut = s.cardsOut := rfl
@[simp] theorem beginOrder_retained (p : Pos) (k : OrderKind) (g : Stage) (b : Attempt) (x : Purpose) : (s.beginOrder p k g b x).retained = s.retained := rfl
@[simp] theorem beginOrder_working (p : Pos) (k : OrderKind) (g : Stage) (b : Attempt) (x : Purpose) : (s.beginOrder p k g b x).working = s.working := rfl
@[simp] theorem beginOrder_mode (p : Pos) (k : OrderKind) (g : Stage) (b : Attempt) (x : Purpose) : (s.beginOrder p k g b x).mode = s.mode := rfl
@[simp] theorem beginOrder_stored (p : Pos) (k : OrderKind) (g : Stage) (b : Attempt) (x : Purpose) : (s.beginOrder p k g b x).stored = s.stored := rfl
@[simp] theorem beginOrder_storeCheck (p : Pos) (k : OrderKind) (g : Stage) (b : Attempt) (x : Purpose) : (s.beginOrder p k g b x).storeCheck = s.storeCheck := rfl
@[simp] theorem beginOrder_save (p : Pos) (k : OrderKind) (g : Stage) (b : Attempt) (x : Purpose) : (s.beginOrder p k g b x).save = s.save := rfl
@[simp] theorem beginOrder_arbiter (p : Pos) (k : OrderKind) (g : Stage) (b : Attempt) (x : Purpose) : (s.beginOrder p k g b x).arbiter = s.arbiter := rfl
@[simp] theorem beginOrder_link (p : Pos) (k : OrderKind) (g : Stage) (b : Attempt) (x : Purpose) : (s.beginOrder p k g b x).link = s.link := rfl
@[simp] theorem beginOrder_restart (p : Pos) (k : OrderKind) (g : Stage) (b : Attempt) (x : Purpose) : (s.beginOrder p k g b x).restart = s.restart := rfl
@[simp] theorem beginOrder_starting (p : Pos) (k : OrderKind) (g : Stage) (b : Attempt) (x : Purpose) : (s.beginOrder p k g b x).starting = s.starting := rfl
@[simp] theorem beginOrder_test (p : Pos) (k : OrderKind) (g : Stage) (b : Attempt) (x : Purpose) : (s.beginOrder p k g b x).test = s.test := rfl
@[simp] theorem beginOrder_key (p : Pos) (k : OrderKind) (g : Stage) (b : Attempt) (x : Purpose) : (s.beginOrder p k g b x).key = s.key := rfl
@[simp] theorem beginOrder_freeCount (p : Pos) (k : OrderKind) (g : Stage) (b : Attempt) (x : Purpose) : (s.beginOrder p k g b x).freeCount = s.freeCount := rfl
@[simp] theorem beginOrder_pending (p : Pos) (k : OrderKind) (g : Stage) (b : Attempt) (x : Purpose) : (s.beginOrder p k g b x).pending = s.pending := rfl
@[simp] theorem beginOrder_ctx (p : Pos) (k : OrderKind) (g : Stage) (b : Attempt) (x : Purpose) (q : Pos) : (s.beginOrder p k g b x).ctx q = s.ctx q := rfl
@[simp] theorem beginOrder_posSettings (p : Pos) (k : OrderKind) (g : Stage) (b : Attempt) (x : Purpose) (q : Pos) : (s.beginOrder p k g b x).posSettings q = s.posSettings q := rfl
@[simp] theorem beginOrder_waits (p : Pos) (k : OrderKind) (g : Stage) (b : Attempt) (x : Purpose) (q : Pos) : (s.beginOrder p k g b x).waits q = s.waits q := rfl
@[simp] theorem beginOrder_holds (p : Pos) (k : OrderKind) (g : Stage) (b : Attempt) (x : Purpose) (q : Pos) : (s.beginOrder p k g b x).holds q = s.holds q := rfl

/-! ## beginWake -/

@[simp] theorem beginWake_powered (p : Pos) (b : Attempt) (x : Purpose) : (s.beginWake p b x).powered = s.powered := rfl
@[simp] theorem beginWake_cardsOut (p : Pos) (b : Attempt) (x : Purpose) : (s.beginWake p b x).cardsOut = s.cardsOut := rfl
@[simp] theorem beginWake_retained (p : Pos) (b : Attempt) (x : Purpose) : (s.beginWake p b x).retained = s.retained := rfl
@[simp] theorem beginWake_working (p : Pos) (b : Attempt) (x : Purpose) : (s.beginWake p b x).working = s.working := rfl
@[simp] theorem beginWake_mode (p : Pos) (b : Attempt) (x : Purpose) : (s.beginWake p b x).mode = s.mode := rfl
@[simp] theorem beginWake_stored (p : Pos) (b : Attempt) (x : Purpose) : (s.beginWake p b x).stored = s.stored := rfl
@[simp] theorem beginWake_storeCheck (p : Pos) (b : Attempt) (x : Purpose) : (s.beginWake p b x).storeCheck = s.storeCheck := rfl
@[simp] theorem beginWake_save (p : Pos) (b : Attempt) (x : Purpose) : (s.beginWake p b x).save = s.save := rfl
@[simp] theorem beginWake_arbiter (p : Pos) (b : Attempt) (x : Purpose) : (s.beginWake p b x).arbiter = s.arbiter := rfl
@[simp] theorem beginWake_link (p : Pos) (b : Attempt) (x : Purpose) : (s.beginWake p b x).link = s.link := rfl
@[simp] theorem beginWake_restart (p : Pos) (b : Attempt) (x : Purpose) : (s.beginWake p b x).restart = s.restart := rfl
@[simp] theorem beginWake_starting (p : Pos) (b : Attempt) (x : Purpose) : (s.beginWake p b x).starting = s.starting := rfl
@[simp] theorem beginWake_test (p : Pos) (b : Attempt) (x : Purpose) : (s.beginWake p b x).test = s.test := rfl
@[simp] theorem beginWake_key (p : Pos) (b : Attempt) (x : Purpose) : (s.beginWake p b x).key = s.key := rfl
@[simp] theorem beginWake_freeCount (p : Pos) (b : Attempt) (x : Purpose) : (s.beginWake p b x).freeCount = s.freeCount := rfl
@[simp] theorem beginWake_pending (p : Pos) (b : Attempt) (x : Purpose) : (s.beginWake p b x).pending = s.pending := rfl
@[simp] theorem beginWake_ctx (p : Pos) (b : Attempt) (x : Purpose) (q : Pos) : (s.beginWake p b x).ctx q = s.ctx q := rfl
@[simp] theorem beginWake_posSettings (p : Pos) (b : Attempt) (x : Purpose) (q : Pos) : (s.beginWake p b x).posSettings q = s.posSettings q := rfl
@[simp] theorem beginWake_waits (p : Pos) (b : Attempt) (x : Purpose) (q : Pos) : (s.beginWake p b x).waits q = s.waits q := rfl
@[simp] theorem beginWake_holds (p : Pos) (b : Attempt) (x : Purpose) (q : Pos) : (s.beginWake p b x).holds q = s.holds q := rfl

/-! ## endOrder -/

@[simp] theorem endOrder_powered (p : Pos) : (s.endOrder p).powered = s.powered := rfl
@[simp] theorem endOrder_cardsOut (p : Pos) : (s.endOrder p).cardsOut = s.cardsOut := rfl
@[simp] theorem endOrder_retained (p : Pos) : (s.endOrder p).retained = s.retained := rfl
@[simp] theorem endOrder_working (p : Pos) : (s.endOrder p).working = s.working := rfl
@[simp] theorem endOrder_mode (p : Pos) : (s.endOrder p).mode = s.mode := rfl
@[simp] theorem endOrder_stored (p : Pos) : (s.endOrder p).stored = s.stored := rfl
@[simp] theorem endOrder_storeCheck (p : Pos) : (s.endOrder p).storeCheck = s.storeCheck := rfl
@[simp] theorem endOrder_save (p : Pos) : (s.endOrder p).save = s.save := rfl
@[simp] theorem endOrder_arbiter (p : Pos) : (s.endOrder p).arbiter = s.arbiter := rfl
@[simp] theorem endOrder_link (p : Pos) : (s.endOrder p).link = s.link := rfl
@[simp] theorem endOrder_restart (p : Pos) : (s.endOrder p).restart = s.restart := rfl
@[simp] theorem endOrder_starting (p : Pos) : (s.endOrder p).starting = s.starting := rfl
@[simp] theorem endOrder_test (p : Pos) : (s.endOrder p).test = s.test := rfl
@[simp] theorem endOrder_key (p : Pos) : (s.endOrder p).key = s.key := rfl
@[simp] theorem endOrder_freeCount (p : Pos) : (s.endOrder p).freeCount = s.freeCount := rfl
@[simp] theorem endOrder_pending (p : Pos) : (s.endOrder p).pending = s.pending := rfl
@[simp] theorem endOrder_ctx (p : Pos) (q : Pos) : (s.endOrder p).ctx q = s.ctx q := rfl
@[simp] theorem endOrder_posSettings (p : Pos) (q : Pos) : (s.endOrder p).posSettings q = s.posSettings q := rfl
@[simp] theorem endOrder_waits (p : Pos) (q : Pos) : (s.endOrder p).waits q = s.waits q := rfl
@[simp] theorem endOrder_holds (p : Pos) (q : Pos) : (s.endOrder p).holds q = s.holds q := rfl

/-! ## clearWork -/

@[simp] theorem clearWork_powered (p : Pos) : (s.clearWork p).powered = s.powered := rfl
@[simp] theorem clearWork_cardsOut (p : Pos) : (s.clearWork p).cardsOut = s.cardsOut := rfl
@[simp] theorem clearWork_retained (p : Pos) : (s.clearWork p).retained = s.retained := rfl
@[simp] theorem clearWork_working (p : Pos) : (s.clearWork p).working = s.working := rfl
@[simp] theorem clearWork_mode (p : Pos) : (s.clearWork p).mode = s.mode := rfl
@[simp] theorem clearWork_stored (p : Pos) : (s.clearWork p).stored = s.stored := rfl
@[simp] theorem clearWork_storeCheck (p : Pos) : (s.clearWork p).storeCheck = s.storeCheck := rfl
@[simp] theorem clearWork_save (p : Pos) : (s.clearWork p).save = s.save := rfl
@[simp] theorem clearWork_arbiter (p : Pos) : (s.clearWork p).arbiter = s.arbiter := rfl
@[simp] theorem clearWork_link (p : Pos) : (s.clearWork p).link = s.link := rfl
@[simp] theorem clearWork_restart (p : Pos) : (s.clearWork p).restart = s.restart := rfl
@[simp] theorem clearWork_starting (p : Pos) : (s.clearWork p).starting = s.starting := rfl
@[simp] theorem clearWork_test (p : Pos) : (s.clearWork p).test = s.test := rfl
@[simp] theorem clearWork_key (p : Pos) : (s.clearWork p).key = s.key := rfl
@[simp] theorem clearWork_freeCount (p : Pos) : (s.clearWork p).freeCount = s.freeCount := rfl
@[simp] theorem clearWork_pending (p : Pos) : (s.clearWork p).pending = s.pending := rfl
@[simp] theorem clearWork_ctx (p : Pos) (q : Pos) : (s.clearWork p).ctx q = s.ctx q := rfl
@[simp] theorem clearWork_posSettings (p : Pos) (q : Pos) : (s.clearWork p).posSettings q = s.posSettings q := rfl
@[simp] theorem clearWork_waits (p : Pos) (q : Pos) : (s.clearWork p).waits q = s.waits q := rfl
@[simp] theorem clearWork_holds (p : Pos) (q : Pos) : (s.clearWork p).holds q = s.holds q := rfl

/-! ## clearWait -/

@[simp] theorem clearWait_powered (p : Pos) : (s.clearWait p).powered = s.powered := rfl
@[simp] theorem clearWait_cardsOut (p : Pos) : (s.clearWait p).cardsOut = s.cardsOut := rfl
@[simp] theorem clearWait_retained (p : Pos) : (s.clearWait p).retained = s.retained := rfl
@[simp] theorem clearWait_working (p : Pos) : (s.clearWait p).working = s.working := rfl
@[simp] theorem clearWait_mode (p : Pos) : (s.clearWait p).mode = s.mode := rfl
@[simp] theorem clearWait_stored (p : Pos) : (s.clearWait p).stored = s.stored := rfl
@[simp] theorem clearWait_storeCheck (p : Pos) : (s.clearWait p).storeCheck = s.storeCheck := rfl
@[simp] theorem clearWait_save (p : Pos) : (s.clearWait p).save = s.save := rfl
@[simp] theorem clearWait_arbiter (p : Pos) : (s.clearWait p).arbiter = s.arbiter := rfl
@[simp] theorem clearWait_link (p : Pos) : (s.clearWait p).link = s.link := rfl
@[simp] theorem clearWait_restart (p : Pos) : (s.clearWait p).restart = s.restart := rfl
@[simp] theorem clearWait_starting (p : Pos) : (s.clearWait p).starting = s.starting := rfl
@[simp] theorem clearWait_test (p : Pos) : (s.clearWait p).test = s.test := rfl
@[simp] theorem clearWait_key (p : Pos) : (s.clearWait p).key = s.key := rfl
@[simp] theorem clearWait_freeCount (p : Pos) : (s.clearWait p).freeCount = s.freeCount := rfl
@[simp] theorem clearWait_pending (p : Pos) : (s.clearWait p).pending = s.pending := rfl
@[simp] theorem clearWait_ctx (p : Pos) (q : Pos) : (s.clearWait p).ctx q = s.ctx q := rfl
@[simp] theorem clearWait_posSettings (p : Pos) (q : Pos) : (s.clearWait p).posSettings q = s.posSettings q := rfl
@[simp] theorem clearWait_waits (p : Pos) (q : Pos) : (s.clearWait p).waits q = s.waits q := rfl
@[simp] theorem clearWait_holds (p : Pos) (q : Pos) : (s.clearWait p).holds q = s.holds q := rfl

/-! ## clearField -/

@[simp] theorem clearField_powered (p : Pos) : (s.clearField p).powered = s.powered := rfl
@[simp] theorem clearField_units (p : Pos) : (s.clearField p).units = s.units := rfl
@[simp] theorem clearField_cardsOut (p : Pos) : (s.clearField p).cardsOut = s.cardsOut := rfl
@[simp] theorem clearField_working (p : Pos) : (s.clearField p).working = s.working := rfl
@[simp] theorem clearField_mode (p : Pos) : (s.clearField p).mode = s.mode := rfl
@[simp] theorem clearField_stored (p : Pos) : (s.clearField p).stored = s.stored := rfl
@[simp] theorem clearField_storeCheck (p : Pos) : (s.clearField p).storeCheck = s.storeCheck := rfl
@[simp] theorem clearField_save (p : Pos) : (s.clearField p).save = s.save := rfl
@[simp] theorem clearField_arbiter (p : Pos) : (s.clearField p).arbiter = s.arbiter := rfl
@[simp] theorem clearField_link (p : Pos) : (s.clearField p).link = s.link := rfl
@[simp] theorem clearField_restart (p : Pos) : (s.clearField p).restart = s.restart := rfl
@[simp] theorem clearField_starting (p : Pos) : (s.clearField p).starting = s.starting := rfl
@[simp] theorem clearField_test (p : Pos) : (s.clearField p).test = s.test := rfl
@[simp] theorem clearField_key (p : Pos) : (s.clearField p).key = s.key := rfl
@[simp] theorem clearField_freeCount (p : Pos) : (s.clearField p).freeCount = s.freeCount := rfl
@[simp] theorem clearField_pending (p : Pos) : (s.clearField p).pending = s.pending := rfl
@[simp] theorem clearField_unit (p : Pos) (q : Pos) : (s.clearField p).unit q = s.unit q := rfl
@[simp] theorem clearField_line (p : Pos) (q : Pos) : (s.clearField p).line q = s.line q := rfl
@[simp] theorem clearField_posSettings (p : Pos) (q : Pos) : (s.clearField p).posSettings q = s.posSettings q := rfl
@[simp] theorem clearField_waits (p : Pos) (q : Pos) : (s.clearField p).waits q = s.waits q := rfl
@[simp] theorem clearField_holds (p : Pos) (q : Pos) : (s.clearField p).holds q = s.holds q := rfl

/-! ## withdraw -/

@[simp] theorem withdraw_powered (p : Pos) : (s.withdraw p).powered = s.powered := rfl
@[simp] theorem withdraw_units (p : Pos) : (s.withdraw p).units = s.units := rfl
@[simp] theorem withdraw_cardsOut (p : Pos) : (s.withdraw p).cardsOut = s.cardsOut := rfl
@[simp] theorem withdraw_retained (p : Pos) : (s.withdraw p).retained = s.retained := rfl
@[simp] theorem withdraw_working (p : Pos) : (s.withdraw p).working = s.working := rfl
@[simp] theorem withdraw_mode (p : Pos) : (s.withdraw p).mode = s.mode := rfl
@[simp] theorem withdraw_stored (p : Pos) : (s.withdraw p).stored = s.stored := rfl
@[simp] theorem withdraw_storeCheck (p : Pos) : (s.withdraw p).storeCheck = s.storeCheck := rfl
@[simp] theorem withdraw_save (p : Pos) : (s.withdraw p).save = s.save := rfl
@[simp] theorem withdraw_link (p : Pos) : (s.withdraw p).link = s.link := rfl
@[simp] theorem withdraw_restart (p : Pos) : (s.withdraw p).restart = s.restart := rfl
@[simp] theorem withdraw_starting (p : Pos) : (s.withdraw p).starting = s.starting := rfl
@[simp] theorem withdraw_test (p : Pos) : (s.withdraw p).test = s.test := rfl
@[simp] theorem withdraw_key (p : Pos) : (s.withdraw p).key = s.key := rfl
@[simp] theorem withdraw_freeCount (p : Pos) : (s.withdraw p).freeCount = s.freeCount := rfl
@[simp] theorem withdraw_pending (p : Pos) : (s.withdraw p).pending = s.pending := rfl
@[simp] theorem withdraw_unit (p : Pos) (q : Pos) : (s.withdraw p).unit q = s.unit q := rfl
@[simp] theorem withdraw_line (p : Pos) (q : Pos) : (s.withdraw p).line q = s.line q := rfl
@[simp] theorem withdraw_ctx (p : Pos) (q : Pos) : (s.withdraw p).ctx q = s.ctx q := rfl
@[simp] theorem withdraw_posSettings (p : Pos) (q : Pos) : (s.withdraw p).posSettings q = s.posSettings q := rfl

/-! ## writeSettings -/

@[simp] theorem writeSettings_powered (p : Pos) (x : PosSettings) : (s.writeSettings p x).powered = s.powered := rfl
@[simp] theorem writeSettings_units (p : Pos) (x : PosSettings) : (s.writeSettings p x).units = s.units := rfl
@[simp] theorem writeSettings_cardsOut (p : Pos) (x : PosSettings) : (s.writeSettings p x).cardsOut = s.cardsOut := rfl
@[simp] theorem writeSettings_retained (p : Pos) (x : PosSettings) : (s.writeSettings p x).retained = s.retained := rfl
@[simp] theorem writeSettings_mode (p : Pos) (x : PosSettings) : (s.writeSettings p x).mode = s.mode := rfl
@[simp] theorem writeSettings_stored (p : Pos) (x : PosSettings) : (s.writeSettings p x).stored = s.stored := rfl
@[simp] theorem writeSettings_storeCheck (p : Pos) (x : PosSettings) : (s.writeSettings p x).storeCheck = s.storeCheck := rfl
@[simp] theorem writeSettings_save (p : Pos) (x : PosSettings) : (s.writeSettings p x).save = s.save := rfl
@[simp] theorem writeSettings_arbiter (p : Pos) (x : PosSettings) : (s.writeSettings p x).arbiter = s.arbiter := rfl
@[simp] theorem writeSettings_link (p : Pos) (x : PosSettings) : (s.writeSettings p x).link = s.link := rfl
@[simp] theorem writeSettings_restart (p : Pos) (x : PosSettings) : (s.writeSettings p x).restart = s.restart := rfl
@[simp] theorem writeSettings_starting (p : Pos) (x : PosSettings) : (s.writeSettings p x).starting = s.starting := rfl
@[simp] theorem writeSettings_test (p : Pos) (x : PosSettings) : (s.writeSettings p x).test = s.test := rfl
@[simp] theorem writeSettings_key (p : Pos) (x : PosSettings) : (s.writeSettings p x).key = s.key := rfl
@[simp] theorem writeSettings_freeCount (p : Pos) (x : PosSettings) : (s.writeSettings p x).freeCount = s.freeCount := rfl
@[simp] theorem writeSettings_pending (p : Pos) (x : PosSettings) : (s.writeSettings p x).pending = s.pending := rfl
@[simp] theorem writeSettings_unit (p : Pos) (x : PosSettings) (q : Pos) : (s.writeSettings p x).unit q = s.unit q := rfl
@[simp] theorem writeSettings_line (p : Pos) (x : PosSettings) (q : Pos) : (s.writeSettings p x).line q = s.line q := rfl
@[simp] theorem writeSettings_ctx (p : Pos) (x : PosSettings) (q : Pos) : (s.writeSettings p x).ctx q = s.ctx q := rfl
@[simp] theorem writeSettings_waits (p : Pos) (x : PosSettings) (q : Pos) : (s.writeSettings p x).waits q = s.waits q := rfl
@[simp] theorem writeSettings_holds (p : Pos) (x : PosSettings) (q : Pos) : (s.writeSettings p x).holds q = s.holds q := rfl

/-! ## writeSeries -/

@[simp] theorem writeSeries_powered (i : Fin 16) (e : Option SeriesFields) : (s.writeSeries i e).powered = s.powered := rfl
@[simp] theorem writeSeries_units (i : Fin 16) (e : Option SeriesFields) : (s.writeSeries i e).units = s.units := rfl
@[simp] theorem writeSeries_cardsOut (i : Fin 16) (e : Option SeriesFields) : (s.writeSeries i e).cardsOut = s.cardsOut := rfl
@[simp] theorem writeSeries_retained (i : Fin 16) (e : Option SeriesFields) : (s.writeSeries i e).retained = s.retained := rfl
@[simp] theorem writeSeries_mode (i : Fin 16) (e : Option SeriesFields) : (s.writeSeries i e).mode = s.mode := rfl
@[simp] theorem writeSeries_stored (i : Fin 16) (e : Option SeriesFields) : (s.writeSeries i e).stored = s.stored := rfl
@[simp] theorem writeSeries_storeCheck (i : Fin 16) (e : Option SeriesFields) : (s.writeSeries i e).storeCheck = s.storeCheck := rfl
@[simp] theorem writeSeries_save (i : Fin 16) (e : Option SeriesFields) : (s.writeSeries i e).save = s.save := rfl
@[simp] theorem writeSeries_arbiter (i : Fin 16) (e : Option SeriesFields) : (s.writeSeries i e).arbiter = s.arbiter := rfl
@[simp] theorem writeSeries_link (i : Fin 16) (e : Option SeriesFields) : (s.writeSeries i e).link = s.link := rfl
@[simp] theorem writeSeries_restart (i : Fin 16) (e : Option SeriesFields) : (s.writeSeries i e).restart = s.restart := rfl
@[simp] theorem writeSeries_starting (i : Fin 16) (e : Option SeriesFields) : (s.writeSeries i e).starting = s.starting := rfl
@[simp] theorem writeSeries_test (i : Fin 16) (e : Option SeriesFields) : (s.writeSeries i e).test = s.test := rfl
@[simp] theorem writeSeries_key (i : Fin 16) (e : Option SeriesFields) : (s.writeSeries i e).key = s.key := rfl
@[simp] theorem writeSeries_freeCount (i : Fin 16) (e : Option SeriesFields) : (s.writeSeries i e).freeCount = s.freeCount := rfl
@[simp] theorem writeSeries_pending (i : Fin 16) (e : Option SeriesFields) : (s.writeSeries i e).pending = s.pending := rfl
@[simp] theorem writeSeries_unit (i : Fin 16) (e : Option SeriesFields) (q : Pos) : (s.writeSeries i e).unit q = s.unit q := rfl
@[simp] theorem writeSeries_line (i : Fin 16) (e : Option SeriesFields) (q : Pos) : (s.writeSeries i e).line q = s.line q := rfl
@[simp] theorem writeSeries_ctx (i : Fin 16) (e : Option SeriesFields) (q : Pos) : (s.writeSeries i e).ctx q = s.ctx q := rfl
@[simp] theorem writeSeries_waits (i : Fin 16) (e : Option SeriesFields) (q : Pos) : (s.writeSeries i e).waits q = s.waits q := rfl
@[simp] theorem writeSeries_holds (i : Fin 16) (e : Option SeriesFields) (q : Pos) : (s.writeSeries i e).holds q = s.holds q := rfl

/-! ## writeBlocks -/

@[simp] theorem writeBlocks_powered (bs : List Range) : (s.writeBlocks bs).powered = s.powered := rfl
@[simp] theorem writeBlocks_units (bs : List Range) : (s.writeBlocks bs).units = s.units := rfl
@[simp] theorem writeBlocks_cardsOut (bs : List Range) : (s.writeBlocks bs).cardsOut = s.cardsOut := rfl
@[simp] theorem writeBlocks_retained (bs : List Range) : (s.writeBlocks bs).retained = s.retained := rfl
@[simp] theorem writeBlocks_mode (bs : List Range) : (s.writeBlocks bs).mode = s.mode := rfl
@[simp] theorem writeBlocks_stored (bs : List Range) : (s.writeBlocks bs).stored = s.stored := rfl
@[simp] theorem writeBlocks_storeCheck (bs : List Range) : (s.writeBlocks bs).storeCheck = s.storeCheck := rfl
@[simp] theorem writeBlocks_save (bs : List Range) : (s.writeBlocks bs).save = s.save := rfl
@[simp] theorem writeBlocks_arbiter (bs : List Range) : (s.writeBlocks bs).arbiter = s.arbiter := rfl
@[simp] theorem writeBlocks_link (bs : List Range) : (s.writeBlocks bs).link = s.link := rfl
@[simp] theorem writeBlocks_restart (bs : List Range) : (s.writeBlocks bs).restart = s.restart := rfl
@[simp] theorem writeBlocks_starting (bs : List Range) : (s.writeBlocks bs).starting = s.starting := rfl
@[simp] theorem writeBlocks_test (bs : List Range) : (s.writeBlocks bs).test = s.test := rfl
@[simp] theorem writeBlocks_key (bs : List Range) : (s.writeBlocks bs).key = s.key := rfl
@[simp] theorem writeBlocks_freeCount (bs : List Range) : (s.writeBlocks bs).freeCount = s.freeCount := rfl
@[simp] theorem writeBlocks_pending (bs : List Range) : (s.writeBlocks bs).pending = s.pending := rfl
@[simp] theorem writeBlocks_unit (bs : List Range) (q : Pos) : (s.writeBlocks bs).unit q = s.unit q := rfl
@[simp] theorem writeBlocks_line (bs : List Range) (q : Pos) : (s.writeBlocks bs).line q = s.line q := rfl
@[simp] theorem writeBlocks_ctx (bs : List Range) (q : Pos) : (s.writeBlocks bs).ctx q = s.ctx q := rfl
@[simp] theorem writeBlocks_waits (bs : List Range) (q : Pos) : (s.writeBlocks bs).waits q = s.waits q := rfl
@[simp] theorem writeBlocks_holds (bs : List Range) (q : Pos) : (s.writeBlocks bs).holds q = s.holds q := rfl

/-! ## modCard -/

@[simp] theorem modCard_powered (p : Pos) (f : Card → Card) : (s.modCard p f).powered = s.powered := rfl
@[simp] theorem modCard_cardsOut (p : Pos) (f : Card → Card) : (s.modCard p f).cardsOut = s.cardsOut := rfl
@[simp] theorem modCard_retained (p : Pos) (f : Card → Card) : (s.modCard p f).retained = s.retained := rfl
@[simp] theorem modCard_working (p : Pos) (f : Card → Card) : (s.modCard p f).working = s.working := rfl
@[simp] theorem modCard_mode (p : Pos) (f : Card → Card) : (s.modCard p f).mode = s.mode := rfl
@[simp] theorem modCard_stored (p : Pos) (f : Card → Card) : (s.modCard p f).stored = s.stored := rfl
@[simp] theorem modCard_storeCheck (p : Pos) (f : Card → Card) : (s.modCard p f).storeCheck = s.storeCheck := rfl
@[simp] theorem modCard_save (p : Pos) (f : Card → Card) : (s.modCard p f).save = s.save := rfl
@[simp] theorem modCard_arbiter (p : Pos) (f : Card → Card) : (s.modCard p f).arbiter = s.arbiter := rfl
@[simp] theorem modCard_link (p : Pos) (f : Card → Card) : (s.modCard p f).link = s.link := rfl
@[simp] theorem modCard_restart (p : Pos) (f : Card → Card) : (s.modCard p f).restart = s.restart := rfl
@[simp] theorem modCard_starting (p : Pos) (f : Card → Card) : (s.modCard p f).starting = s.starting := rfl
@[simp] theorem modCard_test (p : Pos) (f : Card → Card) : (s.modCard p f).test = s.test := rfl
@[simp] theorem modCard_key (p : Pos) (f : Card → Card) : (s.modCard p f).key = s.key := rfl
@[simp] theorem modCard_freeCount (p : Pos) (f : Card → Card) : (s.modCard p f).freeCount = s.freeCount := rfl
@[simp] theorem modCard_pending (p : Pos) (f : Card → Card) : (s.modCard p f).pending = s.pending := rfl
@[simp] theorem modCard_ctx (p : Pos) (f : Card → Card) (q : Pos) : (s.modCard p f).ctx q = s.ctx q := rfl
@[simp] theorem modCard_posSettings (p : Pos) (f : Card → Card) (q : Pos) : (s.modCard p f).posSettings q = s.posSettings q := rfl
@[simp] theorem modCard_waits (p : Pos) (f : Card → Card) (q : Pos) : (s.modCard p f).waits q = s.waits q := rfl
@[simp] theorem modCard_holds (p : Pos) (f : Card → Card) (q : Pos) : (s.modCard p f).holds q = s.holds q := rfl

/-! ## What the accessors read after an update -/

@[simp] theorem unit_setUnit (p : Pos) (u : Position) : (s.setUnit p u).unit p = u := by
  simp [State.unit, State.setUnit]

theorem unit_setUnit_ne {p q : Pos} (h : q ≠ p) (u : Position) : (s.setUnit p u).unit q = s.unit q := by
  have : p.val ≠ q.val := fun e => h (Fin.ext e.symm)
  simp [State.unit, State.setUnit, Vector.getElem_set_ne, this]

@[simp] theorem unit_modUnit (p : Pos) (f : Position → Position) : (s.modUnit p f).unit p = f (s.unit p) :=
  unit_setUnit s p _

theorem unit_modUnit_ne {p q : Pos} (h : q ≠ p) (f : Position → Position) : (s.modUnit p f).unit q = s.unit q :=
  unit_setUnit_ne s h _

@[simp] theorem line_modUnit (p : Pos) (f : Position → Position) : (s.modUnit p f).line p = (f (s.unit p)).line := by
  simp [State.line]

@[simp] theorem unit_modLine (p : Pos) (f : LineUnit → LineUnit) :
    (s.modLine p f).unit p = { s.unit p with line := f (s.line p) } :=
  unit_modUnit s p _

theorem unit_modLine_ne {p q : Pos} (h : q ≠ p) (f : LineUnit → LineUnit) : (s.modLine p f).unit q = s.unit q :=
  unit_modUnit_ne s h _

@[simp] theorem line_modLine (p : Pos) (f : LineUnit → LineUnit) : (s.modLine p f).line p = f (s.line p) := by
  simp [State.line]

theorem line_modLine_ne {p q : Pos} (h : q ≠ p) (f : LineUnit → LineUnit) : (s.modLine p f).line q = s.line q := by
  simp [State.line, unit_modLine_ne s h]

/-- Reading a unit after an update of one, both cases. -/
theorem unit_modUnit_if (p q : Pos) (f : Position → Position) :
    (s.modUnit p f).unit q = if q = p then f (s.unit p) else s.unit q := by
  by_cases h : q = p
  · subst h; simp
  · simp [h, unit_modUnit_ne s h]

@[simp] theorem ctx_modCtx_retained (m : Retained) (p : Pos) (f : Context → Context) :
    (m.modCtx p f).ctx p = f (m.ctx p) := by
  simp [Retained.ctx, Retained.modCtx]

theorem ctx_modCtx_retained_ne (m : Retained) {p q : Pos} (h : q ≠ p) (f : Context → Context) :
    (m.modCtx p f).ctx q = m.ctx q := by
  have : p.val ≠ q.val := fun e => h (Fin.ext e.symm)
  simp [Retained.ctx, Retained.modCtx, Vector.getElem_set_ne, this]

@[simp] theorem ctx_modCtx (p : Pos) (f : Context → Context) : (s.modCtx p f).ctx p = f (s.ctx p) :=
  ctx_modCtx_retained s.retained p f

theorem ctx_modCtx_ne {p q : Pos} (h : q ≠ p) (f : Context → Context) : (s.modCtx p f).ctx q = s.ctx q :=
  ctx_modCtx_retained_ne s.retained h f

/-- Reading a context after an update of one, both cases. -/
theorem ctx_modCtx_if (p q : Pos) (f : Context → Context) :
    (s.modCtx p f).ctx q = if q = p then f (s.ctx p) else s.ctx q := by
  by_cases h : q = p
  · subst h; simp
  · simp [h, ctx_modCtx_ne s h]

@[simp] theorem modLink_link (f : Link → Link) : (s.modLink f).link = f s.link := rfl
@[simp] theorem send_outbound (m : Message) : (s.send m).link.outbound = s.link.outbound ++ [m] := rfl
@[simp] theorem answer_outbound (r : Request) (b : ReplyBody) :
    (s.answer r b).link.outbound = s.link.outbound ++ [.reply r.body.typeCode r.tag r.pos b] := rfl
@[simp] theorem answerAt_outbound (p : Pos) (x y : Byte) (b : ReplyBody) :
    (s.answerAt p x y b).link.outbound = s.link.outbound ++ [.reply x y (posByte p) b] := rfl
@[simp] theorem takeFront_received (o : Owner) :
    (s.takeFront o).link.received = s.link.received.eraseP fun r => r.owner = o := rfl
@[simp] theorem modRetained_retained (f : Retained → Retained) : (s.modRetained f).retained = f s.retained := rfl
@[simp] theorem modCtx_retained (p : Pos) (f : Context → Context) :
    (s.modCtx p f).retained = s.retained.modCtx p f := rfl

/-! ## Retained memory under an update of one context -/

@[simp] theorem ctxs_modCtx_callCounter (m : Retained) (p : Pos) (f : Context → Context) : (m.modCtx p f).callCounter = m.callCounter := rfl
@[simp] theorem ctxs_modCtx_doubts (m : Retained) (p : Pos) (f : Context → Context) : (m.modCtx p f).doubts = m.doubts := rfl
@[simp] theorem ctxs_modCtx_creationCounter (m : Retained) (p : Pos) (f : Context → Context) : (m.modCtx p f).creationCounter = m.creationCounter := rfl
@[simp] theorem ctxs_modCtx_records (m : Retained) (p : Pos) (f : Context → Context) : (m.modCtx p f).records = m.records := rfl
@[simp] theorem ctxs_modCtx_reservations (m : Retained) (p : Pos) (f : Context → Context) : (m.modCtx p f).reservations = m.reservations := rfl
@[simp] theorem ctxs_modCtx_seqCounter (m : Retained) (p : Pos) (f : Context → Context) : (m.modCtx p f).seqCounter = m.seqCounter := rfl
@[simp] theorem ctxs_modCtx_restartMarker (m : Retained) (p : Pos) (f : Context → Context) : (m.modCtx p f).restartMarker = m.restartMarker := rfl
@[simp] theorem ctxs_modCtx_check (m : Retained) (p : Pos) (f : Context → Context) : (m.modCtx p f).check = m.check := rfl
@[simp] theorem ctxs_modCtx_room (m : Retained) (p : Pos) (f : Context → Context) : (m.modCtx p f).room = m.room := rfl

end Sys2Proof.Machine
end

