-- ==== Sys2Proof/Laws/Kept.lean ====
section
/-! SUPPORT. What the work of the positions leaves as it was: the settings and the store, the key, the supply, the queue of
commands, and the link port but for its outbound queue and its flags. One simp lemma for each shared operation, so that a
proof about one of these fields never unfolds an operation. -/

namespace Sys2Proof.Machine

/-- The fields that no operation on a position touches. -/
structure Kept where
  powered : Bool
  working : Settings
  mode : Mode
  stored : Settings
  storeCheck : Bool
  save : Option SaveRun
  key : Key
  pending : List Instr
  restarting : Bool
  starting : Option StartUp
  framer : Framer
  gap : Nat
  received : List Request
  outstanding : Nat
  transmitting : Option Transmission
  hold : Bool
  rate : Rate

def State.kept (s : State) : Kept :=
  { powered := s.powered, working := s.working, mode := s.mode, stored := s.stored, storeCheck := s.storeCheck,
    save := s.save, key := s.key, pending := s.pending, restarting := s.restart ≠ .none, starting := s.starting, framer := s.link.framer,
    gap := s.link.gap, received := s.link.received, outstanding := s.link.outstanding,
    transmitting := s.link.transmitting, hold := s.link.hold, rate := s.link.rate }

/-! ## Reading a field back from what is kept -/

section
variable {s t : State} (h : t.kept = s.kept)
include h
theorem kept_powered : t.powered = s.powered := congrArg Kept.powered h
theorem kept_working : t.working = s.working := congrArg Kept.working h
theorem kept_mode : t.mode = s.mode := congrArg Kept.mode h
theorem kept_stored : t.stored = s.stored := congrArg Kept.stored h
theorem kept_storeCheck : t.storeCheck = s.storeCheck := congrArg Kept.storeCheck h
theorem kept_save : t.save = s.save := congrArg Kept.save h
theorem kept_key : t.key = s.key := congrArg Kept.key h
theorem kept_pending : t.pending = s.pending := congrArg Kept.pending h
theorem kept_restart : t.restart = .none ↔ s.restart = .none := by
  have := congrArg Kept.restarting h
  simpa [State.kept] using this
theorem kept_starting : t.starting = s.starting := congrArg Kept.starting h
theorem kept_running : t.running = s.running := by
  simp [State.running, kept_powered h, kept_starting h]
theorem kept_received : t.link.received = s.link.received := congrArg Kept.received h
theorem kept_outstanding : t.link.outstanding = s.link.outstanding := congrArg Kept.outstanding h
theorem kept_transmitting : t.link.transmitting = s.link.transmitting := congrArg Kept.transmitting h
theorem kept_hold : t.link.hold = s.link.hold := congrArg Kept.hold h
end

/-! ## One lemma for each operation -/

variable (s : State)

@[simp] theorem kept_setUnit (p : Pos) (u : Position) : (s.setUnit p u).kept = s.kept := rfl
@[simp] theorem kept_modUnit (p : Pos) (f : Position → Position) : (s.modUnit p f).kept = s.kept := rfl
@[simp] theorem kept_modLine (p : Pos) (f : LineUnit → LineUnit) : (s.modLine p f).kept = s.kept := rfl
@[simp] theorem kept_modCard (p : Pos) (f : Card → Card) : (s.modCard p f).kept = s.kept := rfl
@[simp] theorem kept_modRetained (f : Retained → Retained) : (s.modRetained f).kept = s.kept := rfl
@[simp] theorem kept_modCtx (p : Pos) (f : Context → Context) : (s.modCtx p f).kept = s.kept := rfl
@[simp] theorem kept_send (m : Message) : (s.send m).kept = s.kept := rfl
@[simp] theorem kept_answer (r : Request) (b : ReplyBody) : (s.answer r b).kept = s.kept := rfl
@[simp] theorem kept_answerAt (p : Pos) (x y : Byte) (b : ReplyBody) : (s.answerAt p x y b).kept = s.kept := rfl
@[simp] theorem kept_units (v : Vector Position 32) : ({ s with units := v } : State).kept = s.kept := rfl
@[simp] theorem kept_retained (m : Retained) : ({ s with retained := m } : State).kept = s.kept := rfl
@[simp] theorem kept_arbiter (a : Arbiter) : ({ s with arbiter := a } : State).kept = s.kept := rfl
@[simp] theorem kept_test (x : Option TestRun) : ({ s with test := x } : State).kept = s.kept := rfl
@[simp] theorem kept_freeCount (n : Nat) : ({ s with freeCount := n } : State).kept = s.kept := rfl
@[simp] theorem kept_cardsOut (cs : List Card) : ({ s with cardsOut := cs } : State).kept = s.kept := rfl
@[simp] theorem kept_flags (f : Link → BitVec 5) :
    (s.modLink fun l => { l with flags := f l }).kept = s.kept := rfl

@[simp] theorem kept_contactOff (p : Pos) (c : Contact) : (s.contactOff p c).kept = s.kept := by
  unfold State.contactOff; dsimp only; split
  · split <;> rfl
  · rfl
@[simp] theorem kept_contactOn (p : Pos) : (s.contactOn p).kept = s.kept := rfl
@[simp] theorem kept_contactAwake (p : Pos) : (s.contactAwake p).kept = s.kept := rfl
@[simp] theorem kept_beginOrder (p : Pos) (k : OrderKind) (g : Stage) (b : Attempt) (x : Purpose) :
    (s.beginOrder p k g b x).kept = s.kept := rfl
@[simp] theorem kept_beginWake (p : Pos) (b : Attempt) (x : Purpose) : (s.beginWake p b x).kept = s.kept := rfl
@[simp] theorem kept_endOrder (p : Pos) : (s.endOrder p).kept = s.kept := rfl
@[simp] theorem kept_clearField (p : Pos) : (s.clearField p).kept = s.kept := rfl
@[simp] theorem kept_clearWork (p : Pos) : (s.clearWork p).kept = s.kept := rfl
@[simp] theorem kept_clearWait (p : Pos) : (s.clearWait p).kept = s.kept := rfl
@[simp] theorem kept_withdraw (p : Pos) : (s.withdraw p).kept = s.kept := rfl
@[simp] theorem kept_joinWaiting (r : WriteRequest) : (s.joinWaiting r).kept = s.kept := rfl
@[simp] theorem kept_sendRead (p : Pos) (r : ReadFor) (b : Attempt) : (s.sendRead p r b).kept = s.kept := by
  unfold State.sendRead; split <;> simp
@[simp] theorem kept_nextRead (p : Pos) : (s.nextRead p).kept = s.kept := by
  unfold State.nextRead; split <;> simp
@[simp] theorem kept_queueNotice (p : Pos) : (s.queueNotice p).kept = s.kept := by
  unfold State.queueNotice; split <;> simp
@[simp] theorem kept_queuePartNotice : s.queuePartNotice.kept = s.kept := by
  unfold State.queuePartNotice; split <;> simp
@[simp] theorem kept_raise (p : Pos) (f : PosFlag) : (s.raise p f).kept = s.kept := by
  unfold State.raise; split <;> simp
@[simp] theorem kept_raisePart (f : PartFlag) : (s.raisePart f).kept = s.kept := by
  unfold State.raisePart; split <;> simp
@[simp] theorem kept_raisePartIf (b : Bool) (f : PartFlag) : (s.raisePartIf b f).kept = s.kept := by
  unfold State.raisePartIf; split <;> simp
@[simp] theorem kept_acknowledge (p : Pos) (m v : BitVec 9) : (s.acknowledge p m v).kept = s.kept := by
  unfold State.acknowledge; dsimp only; split <;> simp
@[simp] theorem kept_acknowledgePart (m v : BitVec 5) : (s.acknowledgePart m v).kept = s.kept := by
  unfold State.acknowledgePart; dsimp only; split <;> simp

/-! ### Write channels -/

@[simp] theorem kept_grantTo (r : WriteRequest) : (s.grantTo r).kept = s.kept := by
  unfold State.grantTo; dsimp only; split
  · simp
  · split <;> simp
@[simp] theorem kept_grantLoop (n : Nat) : ∀ s : State, (s.grantLoop n).kept = s.kept := by
  induction n with
  | zero => intro s; rfl
  | succ n ih =>
    intro s; unfold State.grantLoop; split
    · rfl
    · split
      · rw [ih]; simp
      · rfl
@[simp] theorem kept_grantAll : s.grantAll.kept = s.kept := by simp [State.grantAll]
@[simp] theorem kept_requestWrite (p : Pos) : (s.requestWrite p).kept = s.kept := by
  unfold State.requestWrite; split
  · rfl
  · split
    · rfl
    · split <;> simp
@[simp] theorem kept_release (p : Pos) : (s.release p).kept = s.kept := by
  unfold State.release; split <;> simp
@[simp] theorem kept_dropUnsent (p : Pos) : (s.dropUnsent p).kept = s.kept := by
  unfold State.dropUnsent; split <;> simp

/-! ### Calls and charges -/

@[simp] theorem kept_lowCompare (p : Pos) : (s.lowCompare p).kept = s.kept := by
  unfold State.lowCompare; dsimp only; split <;> simp
@[simp] theorem kept_replyCharge (p : Pos) (h : Charge) (o : ChargeOutcome) (n : Nat) (x : Option Location) :
    (s.replyCharge p h o n x).kept = s.kept := rfl
@[simp] theorem kept_startRest (p : Pos) : (s.startRest p).kept = s.kept := by
  unfold State.startRest; split <;> simp
@[simp] theorem kept_settleOwn (p : Pos) : (s.settleOwn p).kept = s.kept := by
  unfold State.settleOwn; split
  · dsimp only; split <;> simp
  · rfl
@[simp] theorem kept_cutHead (p : Pos) (o : ChargeOutcome) (x : Option Location) : (s.cutHead p o x).kept = s.kept := by
  unfold State.cutHead; split
  · rfl
  · split <;> simp
@[simp] theorem kept_cutAll (n : Nat) (p : Pos) (o : ChargeOutcome) (x : Option Location) :
    ∀ s : State, (State.cutAll n s p o x).kept = s.kept := by
  induction n with
  | zero => intro s; rfl
  | succ n ih => intro s; unfold State.cutAll; rw [ih]; simp
@[simp] theorem kept_cutBehind (n : Nat) (p : Pos) : ∀ s : State, (State.cutBehind n s p).kept = s.kept := by
  induction n with
  | zero => intro s; rfl
  | succ n ih =>
    intro s; unfold State.cutBehind; split
    · rw [ih]; simp
    · rfl
theorem kept_answerTags (p : Pos) (r : CallRecord) (tags : List Byte) :
    ∀ s : State, (tags.foldl (fun s tag => s.answerAt p 0x32#8 tag (.record r)) s).kept = s.kept := by
  induction tags with
  | nil => intro s; rfl
  | cons t ts ih => intro s; simp only [List.foldl_cons]; rw [ih]; simp
@[simp] theorem kept_answerCloses (p : Pos) (r : CallRecord) : (s.answerCloses p r).kept = s.kept := by
  unfold State.answerCloses; dsimp only; rw [kept_answerTags]; simp
@[simp] theorem kept_closeCall (p : Pos) (c : EndCause) (x : Option Location) : (s.closeCall p c x).kept = s.kept := by
  unfold State.closeCall; split
  · rfl
  · dsimp only; rw [kept_answerCloses]; split <;> simp
@[simp] theorem kept_completeRequested (p : Pos) : (s.completeRequested p).kept = s.kept := by
  simp [State.completeRequested]
@[simp] theorem kept_completeIfDue (p : Pos) : (s.completeIfDue p).kept = s.kept := by
  unfold State.completeIfDue; split <;> simp
@[simp] theorem kept_beginStep (p : Pos) : (s.beginStep p).kept = s.kept := by
  unfold State.beginStep; split <;> simp
@[simp] theorem kept_workQueue (n : Nat) (p : Pos) : ∀ s : State, (State.workQueue n s p).kept = s.kept := by
  induction n with
  | zero => intro s; rfl
  | succ n ih =>
    intro s; unfold State.workQueue; split
    · rfl
    · split
      · dsimp only; split
        · simp
        · split
          · rw [ih]; simp
          · simp
      · rfl
@[simp] theorem kept_continueHead (p : Pos) : (s.continueHead p).kept = s.kept := by
  unfold State.continueHead; split
  · rfl
  · split
    · split
      · simp
      · split <;> simp
      · split <;> simp
      · simp
      · rfl
    · rfl

/-! ### Faults and identification -/

@[simp] theorem kept_dropSequence (p : Pos) : (s.dropSequence p).kept = s.kept := rfl
@[simp] theorem kept_enterFaulted (p : Pos) (c : FaultCause) (x : Option Location) :
    (s.enterFaulted p c x).kept = s.kept := by
  unfold State.enterFaulted; dsimp only; split
  · rfl
  · split <;> simp
@[simp] theorem kept_lineFailure (p : Pos) : (s.lineFailure p).kept = s.kept := by simp [State.lineFailure]
@[simp] theorem kept_attemptFailed (p : Pos) (o : Order) : (s.attemptFailed p o).kept = s.kept := by
  unfold State.attemptFailed; split
  · simp
  · split <;> simp
  · split <;> simp
  · split <;> simp
  · split <;> simp
  · rfl
@[simp] theorem kept_beginIdentification (p : Pos) : (s.beginIdentification p).kept = s.kept := by
  unfold State.beginIdentification; dsimp only; split <;> simp
@[simp] theorem kept_insert (p : Pos) : (s.insert p).kept = s.kept := by simp [State.insert]
@[simp] theorem kept_reject (p : Pos) (c : Cause) : (s.reject p c).kept = s.kept := by simp [State.reject]
@[simp] theorem kept_checkCard (p : Pos) (h : Header) : (s.checkCard p h).kept = s.kept := by
  unfold State.checkCard; split
  · simp
  · split <;> simp
@[simp] theorem kept_headerAnswered (p : Pos) (h : Header) : (s.headerAnswered p h).kept = s.kept := by
  unfold State.headerAnswered; split
  · simp
  · split <;> simp
@[simp] theorem kept_storeImage (p : Pos) (h : Header) (t : Tally) : (s.storeImage p h t).kept = s.kept := by
  simp [State.storeImage]
@[simp] theorem kept_checkConsumption (p : Pos) (h : Header) (t : Tally) : (s.checkConsumption p h t).kept = s.kept := by
  unfold State.checkConsumption; split
  · simp
  · split <;> simp
@[simp] theorem kept_finishSequence (p : Pos) : (s.finishSequence p).kept = s.kept := by
  unfold State.finishSequence; split <;> simp
@[simp] theorem kept_resolveDoubt (p : Pos) (i : Identity) (t : Tally) : (s.resolveDoubt p i t).kept = s.kept := by
  unfold State.resolveDoubt; split; split <;> simp
@[simp] theorem kept_tallyAnswered (p : Pos) (t : Tally) : (s.tallyAnswered p t).kept = s.kept := by
  unfold State.tallyAnswered; dsimp only; split <;> split <;> simp

/-! ### Answers -/

@[simp] theorem kept_callJudged (p : Pos) (f : InFlight) (t : Tally) : (s.callJudged p f t).kept = s.kept := by
  unfold State.callJudged; split
  · simp
  · split <;> simp
  · simp
@[simp] theorem kept_latchJudged (p : Pos) (f : InFlight) (t : Tally) : (s.latchJudged p f t).kept = s.kept := by
  unfold State.latchJudged; dsimp only; split
  · split <;> simp
  · split <;> simp
  · simp
@[simp] theorem kept_verified (p : Pos) (t : Tally) : (s.verified p t).kept = s.kept := by
  unfold State.verified; split
  · rfl
  · split <;> simp
@[simp] theorem kept_writeRefused (p : Pos) : (s.writeRefused p).kept = s.kept := by simp [State.writeRefused]
@[simp] theorem kept_refusalRead (p : Pos) (t : Tally) : (s.refusalRead p t).kept = s.kept := by
  unfold State.refusalRead; dsimp only; split <;> simp
@[simp] theorem kept_wokenForRead (p : Pos) (r : ReadFor) (b : Attempt) : (s.wokenForRead p r b).kept = s.kept := by
  unfold State.wokenForRead; split <;> simp
@[simp] theorem kept_wokenForRequest (p : Pos) : (s.wokenForRequest p).kept = s.kept := by
  unfold State.wokenForRequest; split <;> simp
@[simp] theorem kept_firstWoken (p : Pos) : (s.firstWoken p).kept = s.kept := by simp [State.firstWoken]
@[simp] theorem kept_answered (p : Pos) (o : Order) (a : Answer) : (s.answered p o a).kept = s.kept := by
  unfold State.answered; dsimp only
  split
  · split <;> simp
  · split <;> simp
  · split <;> simp
  all_goals simp

/-! ### The self-test -/

@[simp] theorem kept_leaveTest (p : Pos) : (s.leaveTest p).kept = s.kept := by
  unfold State.leaveTest; dsimp only; split <;> simp
@[simp] theorem kept_finishTest : s.finishTest.kept = s.kept := by
  unfold State.finishTest; split
  · rfl
  · split
    · dsimp only; rw [kept_send, kept_test]
    · rfl
@[simp] theorem kept_fixCode (p : Pos) (c : Byte) : (s.fixCode p c).kept = s.kept := by
  simp [State.fixCode]
@[simp] theorem kept_beginTestFrame (p : Pos) (k : OrderKind) (b : Attempt) (x : Option Quad) :
    (s.beginTestFrame p k b x).kept = s.kept := by
  unfold State.beginTestFrame; dsimp only; split
  · rfl
  · rfl
@[simp] theorem kept_echoFailed (p : Pos) (o : Order) (c : Byte) : (s.echoFailed p o c).kept = s.kept := by
  unfold State.echoFailed; split <;> simp
@[simp] theorem kept_enterTest (p : Pos) : (s.enterTest p).kept = s.kept := by simp [State.enterTest]
theorem kept_foldl {α : Type} (f : State → α → State) (h : ∀ s a, (f s a).kept = s.kept) (l : List α) :
    ∀ s : State, (l.foldl f s).kept = s.kept := by
  induction l with
  | nil => intro s; rfl
  | cons a l ih => intro s; simp only [List.foldl_cons]; rw [ih, h]
@[simp] theorem kept_startTest (r : Request) (m : Quad) : (s.startTest r m).kept = s.kept := by
  unfold State.startTest; dsimp only
  rw [kept_finishTest, kept_foldl _ (fun s a => kept_enterTest s a)]; rfl
@[simp] theorem kept_abortTest : s.abortTest.kept = s.kept := by
  unfold State.abortTest; dsimp only
  rw [kept_test, kept_foldl _ (fun s a => kept_leaveTest s a)]
@[simp] theorem kept_doLoopbackReturn (p : Pos) (bs : List Byte) : (s.doLoopbackReturn p bs).kept = s.kept := by
  unfold State.doLoopbackReturn; split
  · split <;> simp
  · rfl
@[simp] theorem kept_doLoopbackTimeout (p : Pos) : (s.doLoopbackTimeout p).kept = s.kept := by
  unfold State.doLoopbackTimeout; split <;> simp
@[simp] theorem kept_doEchoAnswer (p : Pos) (bs : List Byte) : (s.doEchoAnswer p bs).kept = s.kept := by
  unfold State.doEchoAnswer; split
  · split <;> simp
  · rfl
@[simp] theorem kept_doEchoTimeout (p : Pos) : (s.doEchoTimeout p).kept = s.kept := by
  unfold State.doEchoTimeout; split
  · split <;> simp
  · rfl

/-! ### Requests of a position, restart, presence, orders -/

@[simp] theorem kept_abandonOrder (p : Pos) : (s.abandonOrder p).kept = s.kept := by
  unfold State.abandonOrder; split <;> simp
@[simp] theorem kept_stopWork (p : Pos) : (s.stopWork p).kept = s.kept := by simp [State.stopWork]
@[simp] theorem kept_goOff (p : Pos) : (s.goOff p).kept = s.kept := by simp [State.goOff]
@[simp] theorem kept_takeReset (p : Pos) (r : Request) : (s.takeReset p r).kept = s.kept := by
  unfold State.takeReset; split <;> simp
@[simp] theorem kept_resetEffect (p : Pos) : (s.resetEffect p).kept = s.kept := by
  unfold State.resetEffect; split <;> simp
@[simp] theorem kept_resetAct (p : Pos) : (s.resetAct p).kept = s.kept := by simp [State.resetAct]
@[simp] theorem kept_doResetPositionAct (p : Pos) : (s.doResetPositionAct p).kept = s.kept := by
  unfold State.doResetPositionAct; split
  · split <;> simp
  · rfl
@[simp] theorem kept_comeIntoService (p : Pos) : (s.comeIntoService p).kept = s.kept := by
  unfold State.comeIntoService; split <;> simp
@[simp] theorem kept_configureAct (p : Pos) : (s.configureAct p).kept = s.kept := by
  unfold State.configureAct; split <;> simp
@[simp] theorem kept_doConfigureAct (p : Pos) : (s.doConfigureAct p).kept = s.kept := by
  unfold State.doConfigureAct; split
  · split <;> simp
  · rfl
@[simp] theorem kept_restartReady (p : Pos) : (s.restartReady p).kept = s.kept := by
  unfold State.restartReady; split
  · dsimp only; split <;> simp
  · rfl
@[simp] theorem kept_restartCloseAt (p : Pos) : (s.restartCloseAt p).kept = s.kept := by
  unfold State.restartCloseAt; split <;> simp
@[simp] theorem kept_restartSettle : s.restartSettle.kept = s.kept := by
  unfold State.restartSettle; split
  · rename_i h
    unfold State.restartClose; dsimp only
    rw [kept_foldl _ (fun s a => kept_restartCloseAt s a)]
    simp [State.kept, h.1]
  · rfl
@[simp] theorem kept_stopArbiter : s.stopArbiter.kept = s.kept := by
  unfold State.stopArbiter; dsimp only
  rw [kept_foldl _ (fun s a => kept_dropUnsent s a)]; rfl
@[simp] theorem kept_blinkEnd (p : Pos) : (s.blinkEnd p).kept = s.kept := by
  unfold State.blinkEnd; dsimp only; split <;> simp
@[simp] theorem kept_doInsertion (p : Pos) : (s.doInsertion p).kept = s.kept := by
  unfold State.doInsertion; dsimp only; split
  · split <;> simp
  · rfl
@[simp] theorem kept_teardown (p : Pos) : (s.teardown p).kept = s.kept := by
  unfold State.teardown; dsimp only; split <;> simp
@[simp] theorem kept_dueFirst (p : Pos) : (s.dueFirst p).1.kept = s.kept := by
  unfold State.dueFirst; dsimp only; split
  · split <;> simp
  · split <;> simp
  · simp
@[simp] theorem kept_replyIf (p : Pos) (r : Option (Byte × Byte)) : (s.replyIf p r).kept = s.kept := by
  unfold State.replyIf; split <;> simp
@[simp] theorem kept_removed (p : Pos) : (s.removed p).kept = s.kept := by
  unfold State.removed; dsimp only; split <;> simp
@[simp] theorem kept_doRemoval (p : Pos) : (s.doRemoval p).kept = s.kept := by
  unfold State.doRemoval; dsimp only; split
  · simp
  · rfl
@[simp] theorem kept_doRestCountExpiry (p : Pos) : (s.doRestCountExpiry p).kept = s.kept := by
  unfold State.doRestCountExpiry; split
  · split <;> simp
  · rfl
@[simp] theorem kept_doLoopCurrentChange (p : Pos) (x : LoopChange) : (s.doLoopCurrentChange p x).kept = s.kept := by
  unfold State.doLoopCurrentChange; split
  · dsimp only; split
    · rw [kept_modLine, kept_cardsOut, kept_modUnit]
    · rw [kept_cardsOut, kept_modUnit]
  · split
    · rfl
    · dsimp only; split
      · rw [kept_modLine, kept_blinkEnd, kept_cardsOut, kept_modUnit]
      · rw [kept_cardsOut, kept_modUnit]
  · rfl
@[simp] theorem kept_doOrderFrameEnd (p : Pos) (x : Passage) (b : Bool) : (s.doOrderFrameEnd p x b).kept = s.kept := by
  unfold State.doOrderFrameEnd; split
  · rfl
  · split
    · rfl
    · dsimp only; split <;> simp
@[simp] theorem kept_takeAnswer (p : Pos) (bs : List Byte) : (s.takeAnswer p bs).kept = s.kept := by
  unfold State.takeAnswer; split
  · rfl
  · split
    · rfl
    · split
      · rfl
      · simp
      · split
        · rfl
        · split <;> simp
theorem kept_arrives (p : Pos) (a : Arrival) (x : List Byte × State) (h : s.arrives p a = some x) : x.2.kept = s.kept := by
  unfold State.arrives at h
  split at h
  · cases hc : s.cardAnswers p <;> simp [hc] at h
    subst h; simp
  · cases h; simp
  · cases h; rfl
@[simp] theorem kept_doAnswerFrame (p : Pos) (a : Arrival) : (s.doAnswerFrame p a).kept = s.kept := by
  unfold State.doAnswerFrame; split
  · rfl
  · rename_i bs s1 h
    simp [kept_arrives s p a _ h]
@[simp] theorem kept_doAnswerTimeout (p : Pos) : (s.doAnswerTimeout p).kept = s.kept := by
  unfold State.doAnswerTimeout; split
  · rfl
  · split <;> simp

/-! ### Requests of the call table -/

@[simp] theorem kept_openAccepted (p : Pos) (r : Request) (i : Image) (t : Terms) (n : Nat) :
    (s.openAccepted p r i t n).kept = s.kept := by simp [State.openAccepted]
@[simp] theorem kept_takeOpen (p : Pos) (r : Request) (n : Nat) : (s.takeOpen p r n).kept = s.kept := by
  unfold State.takeOpen; split
  · simp
  · split
    · simp
    · split <;> simp
@[simp] theorem kept_joinQueue (p : Pos) (h : Charge) : (s.joinQueue p h).kept = s.kept := rfl
@[simp] theorem kept_takeCharge (p : Pos) (r : Request) (n : Nat) : (s.takeCharge p r n).kept = s.kept := by
  unfold State.takeCharge; split
  · simp
  · split <;> simp
@[simp] theorem kept_closeHead (p : Pos) : (s.closeHead p).kept = s.kept := by
  unfold State.closeHead; split
  · simp
  · split <;> simp
@[simp] theorem kept_takeClose (p : Pos) (r : Request) : (s.takeClose p r).kept = s.kept := by
  unfold State.takeClose; split
  · simp
  · dsimp only; split <;> simp

end Sys2Proof.Machine
end

