-- ==== Sys2Proof/Laws/Layouts.lean ====
section
/-! SUPPORT. Byte layouts: a number in a field of 1, 2 or 4 bytes is what the model's byte helpers write (R168). -/

namespace Sys2Proof.Machine

theorem fieldBytes_one (n : Nat) : fieldBytes 1 n = [natByte n] := by simp [fieldBytes, natByte]

theorem fieldBytes_two (n : Nat) : fieldBytes 2 n = natHalf n := by
  have h1 : BitVec.ofNat 8 (n / 256) = (BitVec.ofNat 16 n).extractLsb' 8 8 := by
    apply BitVec.eq_of_toNat_eq; simp [Nat.shiftRight_eq_div_pow]; omega
  have h0 : BitVec.ofNat 8 n = (BitVec.ofNat 16 n).extractLsb' 0 8 := by
    apply BitVec.eq_of_toNat_eq; simp
  simp [fieldBytes, natHalf, halfBytes, List.range_succ, h1, h0]

theorem fieldBytes_four (n : Nat) : fieldBytes 4 n = natQuad n := by
  have h3 : BitVec.ofNat 8 (n / 16777216) = ((BitVec.ofNat 32 n).extractLsb' 16 16).extractLsb' 8 8 := by
    apply BitVec.eq_of_toNat_eq; simp [Nat.shiftRight_eq_div_pow]; omega
  have h2 : BitVec.ofNat 8 (n / 65536) = ((BitVec.ofNat 32 n).extractLsb' 16 16).extractLsb' 0 8 := by
    apply BitVec.eq_of_toNat_eq; simp [Nat.shiftRight_eq_div_pow]; omega
  have h1 : BitVec.ofNat 8 (n / 256) = ((BitVec.ofNat 32 n).extractLsb' 0 16).extractLsb' 8 8 := by
    apply BitVec.eq_of_toNat_eq; simp [Nat.shiftRight_eq_div_pow]; omega
  have h0 : BitVec.ofNat 8 n = ((BitVec.ofNat 32 n).extractLsb' 0 16).extractLsb' 0 8 := by
    apply BitVec.eq_of_toNat_eq; simp
  simp [fieldBytes, natQuad, quadBytes, halfBytes, List.range_succ, h3, h2, h1, h0]

theorem fieldBytes_half (h : Half) : fieldBytes 2 h.toNat = halfBytes h := by simp [fieldBytes_two, natHalf]

theorem fieldBytes_quad (q : Quad) : fieldBytes 4 q.toNat = quadBytes q := by simp [fieldBytes_four, natQuad]

theorem fieldBytes_length (width n : Nat) : (fieldBytes width n).length = width := by simp [fieldBytes]

end Sys2Proof.Machine
end

