-- ==== Sys2Proof/Laws/Requests.lean ====
section
/-! SUPPORT. What taking a request, answering it, the protection check and the raisings of flags come to, each as one
equation, so that a proof cites it and does not unfold the operation. -/

namespace Sys2Proof.Machine

theorem takeFront_taken (s : State) (o : Owner) : s.takeFront o = s.taken o := rfl

theorem answer_takeFront (s : State) (o : Owner) (r : Request) (b : ReplyBody) :
    (s.takeFront o).answer r b = s.replied o r.body.typeCode r b := rfl

theorem answer_eq (s : State) (r : Request) (b : ReplyBody) :
    s.answer r b =
      { s with link := { s.link with outbound := s.link.outbound ++ [.reply r.body.typeCode r.tag r.pos b] } } := rfl

/-- The byte that names a position is the position byte of a request that reaches it. -/
theorem posByte_of_posOf {b : Byte} {p : Pos} (h : posOf b = some p) : posByte p = b := by
  unfold posOf at h
  split at h
  · cases h; simp [posByte, natByte]
  · cases h

/-! ## The protection check (R156, R158) -/

@[simp] theorem guardRefusal_takeFront (s : State) (o : Owner) : (s.takeFront o).guardRefusal = s.guardRefusal := rfl

theorem isGuarded_iff (s : State) : s.isGuarded = true ↔ s.refusesGuarded := by
  unfold State.isGuarded State.refusesGuarded
  rcases s.mode <;> simp

theorem guardRefusal_protected {s : State} (h : s.refusesGuarded) : s.guardRefusal = some .isProtected := by
  simp [State.guardRefusal, (isGuarded_iff s).2 h]

theorem not_guarded {s : State} (h : ¬ s.refusesGuarded) : s.isGuarded = false := by
  rw [← isGuarded_iff] at h; simpa using h

theorem guardRefusal_busy {s : State} (h : ¬ s.refusesGuarded) (hs : s.save.isSome = true) :
    s.guardRefusal = some .busy := by
  simp [State.guardRefusal, not_guarded h, hs]

theorem guardRefusal_none {s : State} (h : ¬ s.refusesGuarded) (hs : s.save = none) : s.guardRefusal = none := by
  simp [State.guardRefusal, not_guarded h, hs]

theorem guarded_stop {s : State} {c : ResultCode} (h : s.guardRefusal = some c) (r : Request) (f : State → State) :
    s.guarded r f = s.answer r (.refusal c) := by simp [State.guarded, h]

theorem guarded_pass {s : State} (h : s.guardRefusal = none) (r : Request) (f : State → State) :
    s.guarded r f = f s := by simp [State.guarded, h]

/-! ## Raisings (R150) -/

theorem raisePart_eq (s : State) (f : PartFlag) :
    s.raisePart f =
      { s with link := { s.link with
          flags := s.link.flags ||| f.bit, outbound := s.link.outbound ++ s.partNoticeOf f } } := by
  have bits : ∀ x : BitVec 5, x &&& f.bit ≠ 0#5 → x ||| f.bit = x := by cases f <;> decide
  simp only [State.raisePart, State.queuePartNotice, State.partNoticeOf, State.modLink, State.send]
  by_cases hz : s.link.flags &&& f.bit = 0#5
  · by_cases hm : Message.partNotice ∈ s.link.outbound <;> simp [hz, hm]
  · simp [hz, bits _ hz]

/-- The part is running with the supply on and start-up complete (R161). -/
theorem running_iff (s : State) : s.running = true ↔ s.powered = true ∧ s.starting = none := by simp [State.running]

theorem setUnit_self (s : State) (p : Pos) : s.units.set p.val (s.unit p) p.isLt = s.units := by
  simp [State.unit]

theorem queueNotice_eq (s : State) (p : Pos) :
    s.queueNotice p =
      { s with link := { s.link with outbound := s.link.outbound ++
          if (s.posSettings p).notify = true ∧ Message.positionNotice p ∉ s.link.outbound then [.positionNotice p]
          else [] } } := by
  unfold State.queueNotice
  split <;> simp [State.send, State.modLink]

theorem raise_eq (s : State) (p : Pos) (f : PosFlag) :
    s.raise p f =
      { s with
        units := s.units.set p.val { s.unit p with flags := (s.unit p).flags ||| f.bit } p.isLt
        link := { s.link with outbound := s.link.outbound ++ s.noticeOf p f } } := by
  have bits : ∀ x : BitVec 9, x &&& f.bit ≠ 0#9 → x ||| f.bit = x := by cases f <;> decide
  unfold State.raise State.noticeOf
  by_cases hz : (s.unit p).flags &&& f.bit = 0#9
  · rw [if_neg (fun h => h hz), queueNotice_eq]
    simp only [hz, true_and]
    rfl
  · rw [if_pos hz, if_neg (fun h => hz h.1), bits _ hz]
    have : s.units.set p.val { s.unit p with flags := (s.unit p).flags } p.isLt = s.units := setUnit_self s p
    simp only [this, List.append_nil]

end Sys2Proof.Machine
end

