-- ==== Sys2Proof/Tests/Slice0.lean ====
section
/-! SUPPORT. Tests: the well-formedness check refuses ill-formed commands; fixed values of the manual's computations; for
every statement with hypotheses, a state and operands that meet them together. -/

namespace Sys2Proof.Tests

open Sys2Proof.Machine

set_option Elab.async false

/-! ## Well-formedness -/

theorem test_wf_frameReceived : (Instr.frameReceived []).wellFormed = false := by decide
theorem test_wf_lengthByte_low : (Instr.lengthByteOutOfRange 4#8).wellFormed = false := by decide
theorem test_wf_lengthByte_high : (Instr.lengthByteOutOfRange 250#8).wellFormed = false := by decide
theorem test_wf_lengthByte_ok : (Instr.lengthByteOutOfRange 3#8).wellFormed ∧ (Instr.lengthByteOutOfRange 251#8).wellFormed := by
  decide
theorem test_wf_supplyLoss : (Instr.mainSupplyLoss [0]).wellFormed = false := by decide
theorem test_wf_passage : (Instr.orderFrameEnd 0 (.altered [2#8]) true).wellFormed = false := by decide
theorem test_wf_answer_altered : (Instr.answerFrame 0 (.altered [])).wellFormed = false := by decide
theorem test_wf_answer_stray : (Instr.answerFrame 0 (.stray (List.replicate 260 0#8))).wellFormed = false := by
  decide +kernel
theorem test_wf_loopback : (Instr.loopbackReturn 0 [2#8, 1#8]).wellFormed = false := by decide
theorem test_wf_echo : (Instr.echoAnswer 0 []).wellFormed = false := by decide

/-! ## Fixed values -/

/-- The check of the nine bytes 0x31 to 0x39 (R168's polynomial and initial value). -/
theorem test_crc : crc [0x31, 0x32, 0x33, 0x34, 0x35, 0x36, 0x37, 0x38, 0x39] = 0x29B1#16 := by decide +kernel

theorem test_decodeTableWord (nbits w : Nat) : decodeTableWord nbits w = none := rfl

def digits (a b c d : Digit) : Digits := { d0 := a, d1 := b, d2 := c, d3 := d }

def tally0 : Tally := { digits := digits 0 0 0 0, latch := 0 }

def header : Header :=
  { id := { series := 7#16, serial := 42#32 }, issued := 100#16,
    check := crc (identityBytes { series := 7#16, serial := 42#32 } ++ halfBytes 100#16) }

def card (t : Tally) (power : CardPower) : Card := { header := header, tally := t, power := power }

theorem test_wf_seating : (Instr.loopCurrentChange 0 (.starts (.fresh (.card (card tally0 .awake))))).wellFormed = false := by
  decide +kernel

/-- C with and without a latch (R9). -/
theorem test_consumption : Tally.consumption { digits := digits 7 2 1 0, latch := 0 } = 87 ∧
    Tally.consumption { digits := digits 7 3 1 0, latch := 1 } = 88 := by decide

/-- A carry: BURN 1 with S0 full, then RESTAGE 1 (R11, R12). -/
theorem test_carry : formDone (.burn 1#8) true { digits := digits 7 2 0 0, latch := 0 } = { digits := digits 7 3 0 0, latch := 1 } ∧
    formDone (.restage 1#8) true { digits := digits 7 3 0 0, latch := 1 } = { digits := digits 0 3 0 0, latch := 0 } := by
  decide

/-- A carry's RESTAGE torn after three cells (R12, R14). -/
theorem test_torn_restage :
    formAfter (.restage 1#8) true { digits := digits 7 3 0 0, latch := 1 } 3 = { digits := digits 4 3 0 0, latch := 1 } := by
  decide

theorem test_burn_refusals : burnRefusal 4#8 tally0 = some .badStage ∧ burnRefusal 1#8 tally0 = some .lowerNotFull ∧
    burnRefusal 0#8 { digits := digits 7 0 0 0, latch := 0 } = some .stageFull ∧
    burnRefusal 0#8 { digits := digits 0 1 0 0, latch := 1 } = some .latchSet ∧
    restageRefusal 0#8 tally0 = some .badStage ∧ restageRefusal 1#8 tally0 = some .noLatch := by decide

/-- 25 pulses with 4 of credit at weight 10 need 3 steps (R61). -/
theorem test_stepsNeeded : stepsNeeded 25 4 10 = 3 ∧ stepsNeeded 4 4 10 = 0 ∧ stepsNeeded 24 4 10 = 2 := by decide

def range (a b : Nat) : Range := { series := 7#16, first := BitVec.ofNat 32 a, last := BitVec.ofNat 32 b }

/-- An added range joins its neighbours on both sides (R54); a removed span splits one (R55). -/
theorem test_blocks : addRange [range 1 4, range 6 9] (range 5 5) = some [range 1 9] ∧
    removeSpan [range 1 9] (range 5 5) = some [range 1 4, range 6 9] := by decide

/-! ## States -/

/-- The part after reset, with one request received and not yet taken. -/
def got (body : ReqBody) (pos : Byte) : State :=
  { State.reset with link := { State.reset.link with received := [{ tag := 9#8, pos := pos, body := body }], outstanding := 1 } }

def request (body : ReqBody) (pos : Byte) : Request := { tag := 9#8, pos := pos, body := body }

/-- The line unit of position 0 is changed. -/
def withLine (f : LineUnit → LineUnit) (s : State) : State := s.modLine 0 f

def withCard (t : Tally) (power : CardPower) (s : State) : State :=
  s.modUnit 0 fun u => { u with reader := some (.card (card t power)) }

def withOrder (k : OrderKind) (retry : Bool) (purpose : Purpose) (s : State) : State :=
  withLine (fun l => { l with order := some { kind := k, stage := 0, retry := retry, begun := true, ended := true, elapsed := 0,
                                              timeout := 10, purpose := purpose } }) s

def withWait (w : LineWait) (s : State) : State := s.modUnit 0 fun u => { u with wait := some w }

def image (t : Tally) : Image := { header := header, tally := t }

/-- Position 0 READY with a card (R48). -/
def ready (t : Tally) (s : State) : State :=
  ((withCard t .awake s).modUnit 0 fun u =>
    { u with
      line := { u.line with state := .ready, present := true, debounce := none, contact := .powered, shownId := some header.id }
      held := some header.id
      terms := some { weight := 10, retries := 1, maxIssued := 200 }
      inForce := true }).modCtx 0 fun c => { c with image := some (image t) }

/-- Position 0 in a call with the balance given, of weight 10 and credit 4 (R77). -/
def inCall (t : Tally) (balance : Nat) (s : State) : State :=
  (((ready t s).modLine 0 fun l => { l with state := .inCall }).modCtx 0 fun c =>
    { c with state := .openCall, callId := 1, id := header.id, weight := 10, retries := 1, balanceAtOpen := 100,
             balance := balance, credit := 4 }).modRetained fun m =>
    { m with callCounter := 1, reservations := [{ position := 0, callId := 1 }] }

/-- The call's head charge is in work. -/
def working (steps : Nat) (step : Option Step) (s : State) : State :=
  (s.modCtx 0 fun c => { c with queue := [{ tag := 5#8, pulses := 25, steps := steps }] }).modUnit 0 fun u =>
    { u with work := some { pulses := 25, credit := 4, weight := 10, balance := 100, needed := 3, planned := 3, step := step } }

def burning (stage : Stage) (before : Tally) (s : State) : State :=
  s.modCtx 0 fun c => { c with field := some { kind := .burn, stage := stage, before := before } }

/-- The queue of position 0 has a head with so many steps done, and more charges behind it. -/
def withHead (steps : Nat) (behind : List Charge) (s : State) : State :=
  s.modCtx 0 fun c => { c with queue := { tag := 5#8, pulses := 25, steps := steps } :: behind }

/-- Position 0 being identified, at a step of its sequence. -/
def identifying (step : Nat) (contact : Contact) (h : Option Header) (s : State) : State :=
  s.modUnit 0 fun u =>
    { u with
      line := { u.line with state := .identifying, present := true, debounce := none, contact := contact }
      seq := some { step := step, reread := false, header := h, tally := none, sends := 0 } }

def locked (s : State) : State := { s with mode := .locked }
def saving (s : State) : State := { s with save := some { copy := s.working, tag := 3#8, pos := 0xFF#8 } }
def restarting (s : State) : State := { s with restart := .settling }
def unpowered (s : State) : State := { s with powered := false }
def held (s : State) : State := { s with link := { s.link with hold := true } }

def testRun : TestRun :=
  { mask := 3#32, codes := (Vector.replicate 32 (some 0x10#8)).set 1 none |>.set 0 none, storeGood := true,
    retainedGood := true, tag := 2#8, pos := 0xFF#8 }

/-- Positions 0 and 1 are tested, and position 0 waits for a test frame. -/
def testing (k : OrderKind) (retry : Bool) (s : State) : State :=
  { withOrder k retry .test (s.modUnit 0 fun u =>
      { u with line := { u.line with state := .testing }, test := some { wasOff := false, pattern := 5#32, earlier := none } })
    with test := some testRun }

def fourHolders : List Holder :=
  [{ position := 1, kind := .burn, stage := 0 }, { position := 2, kind := .burn, stage := 0 },
   { position := 3, kind := .burn, stage := 0 }, { position := 4, kind := .restage, stage := 1 }]

def channelsHeld (s : State) : State := { s with arbiter := { s.arbiter with held := fourHolders } }

def starting (x : StartUp) (s : State) : State := { s with starting := some x }

/-- A RESTART is pending with its closes made. -/
def restarted (s : State) : State := { s with restart := .closed }

/-- A second open call, at position p. -/
def inCallAt (p : Pos) (s : State) : State :=
  (s.modCtx p fun c => { c with state := .openCall, callId := 2, weight := 10 }).modRetained fun m =>
    { m with callCounter := 2, reservations := m.reservations ++ [{ position := p, callId := 2 }] }

def doubt (n : Nat) (resolved : Option (DoubtOutcome × Pos)) : DoubtEntry :=
  { creation := n, id := header.id, position := 0, callId := 1, stage := 0, before := digits 0 0 0 0, resolved := resolved }

def withDoubts (es : List DoubtEntry) (s : State) : State := s.modRetained fun m => { m with doubts := es }

def causeOf : Record → Option EndCause
  | .call r => some r.cause
  | .resolution _ => none

/-! ## Single steps -/

/-- A frame of a CHARGE becomes a request (R139, R141). -/
theorem test_frame : ∃ t,
    step { State.reset with pending := [.frameReceived (linkFrame 0x31#8 9#8 0#8 [25#8])] } = .next t ∧
    t.link.received = [request (.charge 25#8) 0#8] ∧ t.link.outstanding = 1 := ⟨_, rfl, by decide +kernel⟩

/-- A charge of 25 pulses with 4 of credit begins a BURN 0 (R58, R61, R100). -/
theorem test_charge_burns : ∃ t, exec .charge (inCall tally0 100 (got (.charge 25#8) 0#8)) = .next t ∧
    (t.line 0).order.map (·.kind) = some .burn ∧ (t.ctx 0).field = some { kind := .burn, stage := 0, before := tally0 } ∧
    (t.unit 0).work.map (·.needed) = some 3 ∧ t.arbiter.held.length = 1 := ⟨_, rfl, by decide +kernel⟩

/-- An OPEN on a READY position (R75 to R77). -/
theorem test_open : ∃ t, exec .openCall (ready tally0 (got (.openCall 0#16) 0#8)) = .next t ∧
    (t.line 0).state = .inCall ∧ (t.ctx 0).balance = 100 ∧ (t.ctx 0).callId = 1 ∧
    t.link.outbound = [.partNotice, .reply 0x30#8 9#8 0#8 (.opened 1 100 10 1000)] := ⟨_, rfl, by decide +kernel⟩

/-- A CLOSE of a call with no charge (R87): the record, and READY. -/
theorem test_close : ∃ t, exec .close (inCall tally0 100 (got .close 0#8)) = .next t ∧ (t.line 0).state = .ready ∧
    t.retained.records.length = 1 ∧ t.retained.reservations = [] ∧ t.link.flags = 0x0D#5 := ⟨_, rfl, by decide +kernel⟩

/-- The card's answer to READ TALLY at step 7 makes the position READY (R44, R48). -/
theorem test_identified : ∃ t,
    exec (.answerFrame 0 .answer) (withOrder .readTally false (.read .sequence) (identifying 7 .powered (some header)
      (withCard tally0 (.working .readTally true 0) State.reset))) = .next t ∧
    (t.line 0).state = .ready ∧ (t.ctx 0).image = some (image tally0) ∧ (t.unit 0).flags = 0x004#9 :=
  ⟨_, rfl, by decide +kernel⟩

/-- A removal in a call closes it REMOVED (R19, R90). -/
theorem test_removal : ∃ t,
    exec (.removal 0) (withLine (fun l => { l with debounce := some 20 }) (inCall tally0 100 State.reset)) = .next t ∧
    (t.line 0).state = .empty ∧ (t.ctx 0).state = .noCall ∧ t.retained.records.length = 1 ∧
    (t.unit 0).flags = 0x042#9 := ⟨_, rfl, by decide +kernel⟩

/-- The main supply lost and back: the call is closed POWER_LOSS (R96, R160, R161). -/
theorem test_power_cycle : ∃ t, exec (.powerOn true) (unpowered (inCall tally0 100 State.reset)) = .next t ∧
    (t.line 0).state = .empty ∧ t.retained.records.length = 1 ∧ t.link.flags = 0x05#5 ∧ t.link.outbound = [.partNotice] :=
  ⟨_, rfl, by decide +kernel⟩

/-- A restart that is cut after its first close still closes the others RESTART (R161). -/
theorem test_restart_cut :
    let s := restarted (inCallAt 3 (inCall tally0 100 State.reset))
    let a := (s.doPartRestart (some 1)).doMainSupplyLoss []
    let b := a.doPowerOn true none
    (a.ctx 0).state = .noCall ∧ (a.ctx 3).state = .openCall ∧ (b.ctx 3).state = .noCall ∧
    b.retained.records.map causeOf = [some .restart, some .restart] := by decide +kernel

/-- An insertion and a key change counted within start-up wait for its end (R157, R161). -/
theorem test_startUp_holds :
    let s := (((unpowered State.reset).doPowerOn true (some 0)).doLoopCurrentChange 0
      (.starts (.fresh (.card (card tally0 .unpowered))))).doInsertion 0
    let t := s.doKeyDebounceExpiry.doKeyInputChange true
    let u := t.doKeyDebounceExpiry.doPowerOn true none
    (s.line 0).state = .empty ∧ (s.line 0).present = true ∧ s.link.hold = true ∧ (u.line 0).state = .identifying ∧
    u.link.flags = 0x14#5 ∧ u.link.hold = false ∧ u.link.outbound = [.partNotice, .positionNotice 0] := by decide +kernel

/-- A card that nothing disturbs answers a READ TALLY in its fourth millisecond (R15). -/
theorem test_card_answers :
    let s := withOrder .readTally false (.read .sequence) (identifying 7 .powered (some header)
      (withCard tally0 (.working .readTally true 0) State.reset))
    s.tick.tick.tick.pending = [] ∧ s.tick.tick.tick.tick.pending = [.answerFrame 0 .answer] := by decide +kernel

/-- A RESTART that closes a call whose WAKE is in flight leaves READY at REST, and one at POWERED counts to rest (R17,
R24). -/
theorem test_restart_ready :
    let s := inCall tally0 100 (got .restart 0xFF#8)
    let w := withOrder .wake false .wakeRequest (withLine (fun l => { l with contact := .waking }) s)
    (s.doRestart.line 0).state = .ready ∧ (s.doRestart.line 0).rest = some { target := 3, elapsed := 0 } ∧
    (w.doRestart.line 0).state = .ready ∧ (w.doRestart.line 0).contact = .rest ∧ (w.doRestart.line 0).order = none := by
  decide +kernel

/-- A card that works a RESTAGE while its READ TALLY times out goes on with it, past the repeat of the order (R2). -/
theorem test_card_goes_on :
    let s := withOrder .readTally false (.read .verify) (withCard tally0 (.working (.restage 1#8) true 10)
      (inCall tally0 100 State.reset))
    let t := (s.doAnswerTimeout 0).doOrderFrameEnd 0 .intact true
    ((s.doAnswerTimeout 0).line 0).order.map (·.retry) = some true ∧ (t.line 0).order.map (·.ended) = some true ∧
    (t.unit 0).reader = some (.card (card tally0 (.working (.restage 1#8) true 10))) := by decide +kernel

/-- A closing head whose WAKE is answered while a RESTART waits for another position's write is left for the close by
RESTART (R86, R95, log 47). -/
theorem test_wake_under_restart :
    let s := restarting (withOrder .wake false .wakeRequest (withCard tally0 (.working .wake true 20)
      (working 0 (some (Step.start 0)) (inCall tally0 100 State.reset))))
    let t := ((s.modCtx 0 fun c => { c with state := .closing }).modLine 1 fun l =>
      { l with order := (s.line 0).order.map fun o => { o with kind := .burn, purpose := .write } })
    let u := t.doAnswerFrame 0 .answer
    (u.line 0).order = none ∧ (u.line 0).contact = .powered ∧ (u.ctx 0).state = .closing ∧
    (u.ctx 0).queue = (t.ctx 0).queue ∧ (u.ctx 0).queue ≠ [] ∧ u.restart = .settling := by decide +kernel

/-- A charge that credit covers, in a call opened after the closes of a RESTART, is settled at once (R62, R162). -/
theorem test_charge_after_closes :
    let s := (restarted (inCall tally0 100 (got (.charge 4#8) 0#8))).doCharge
    (s.ctx 0).queue = [] ∧ (s.ctx 0).state = .openCall ∧ s.restart = .closed ∧
    s.link.outbound = [.partNotice, .reply 0x31#8 9#8 0#8 (.charge {
      outcome := .done, covered := 4, uncovered := 0, steps := 0, balance := 100, credit := 0, failing := none })] := by
  decide +kernel

/-- A frame without a kind is a bad frame, its check good or not (log 18). -/
theorem test_frame_without_kind (b c : Byte) : readLineFrame [2#8, 0#8, b, c] = .bad := by
  simp [readLineFrame]

/-- A retry keeps the timeout of its first attempt, whatever line class was set since, behind a WAKE too (R27, log 38). -/
theorem test_retry_keeps_timeout :
    let s := withLine (fun l => { l with order := l.order.map fun o => { o with timeout := 20 } })
      (withOrder .readTally false (.read .verify) (withCard tally0 .awake (inCall tally0 100 State.reset)))
    let r := (withLine (fun l => { l with contact := .rest }) s).doAnswerTimeout 0
    let w := ((withCard tally0 (.working .wake true 0) r).doOrderFrameEnd 0 .intact true).doAnswerFrame 0 .answer
    (s.posSettings 0).lineClass = .short ∧ ((s.doAnswerTimeout 0).line 0).order.map (·.timeout) = some 20 ∧
    (r.line 0).order.map (·.kind) = some .wake ∧ (w.line 0).order.map (·.timeout) = some 20 ∧
    (w.line 0).order.map (·.retry) = some true := by decide +kernel

/-- An OPEN on a READY position whose card has balance 0 is accepted, with balance at open 0 (R75, R87, log 45). -/
theorem test_open_at_balance_zero :
    let s := (ready { digits := digits 4 4 1 0, latch := 0 } (got (.openCall 0#16) 0#8)).doOpen
    Tally.consumption { digits := digits 4 4 1 0, latch := 0 } = header.issued.toNat ∧
    (s.ctx 0).state = .openCall ∧ (s.ctx 0).balanceAtOpen = 0 ∧
    s.link.outbound = [.partNotice, .reply 0x30#8 9#8 0#8 (.opened 1 0 10 0)] := by decide +kernel

/-- A CLOSE that settles a waiting head starts the rest count (R24, R86). -/
theorem test_close_starts_rest :
    let s := working 0 (some (Step.start 0)) (inCall tally0 100 (got .close 0#8))
    (s.doClose.ctx 0).queue = [] ∧ (s.doClose.line 0).rest = some { target := 3, elapsed := 0 } := by decide +kernel

/-! ## Witnesses: the machine, start-up and supply -/

theorem test_witness_StepRunsFrontCommand : ({ State.reset with pending := [.status] } : State).pending = .status :: [] := rfl

/-- The order of position 0 has waited so long of its 10 ms. -/
def waited (n : Nat) (k : OrderKind) (purpose : Purpose) : State :=
  withLine (fun l => { l with order := l.order.map fun o => { o with elapsed := n } }) (withOrder k false purpose State.reset)

theorem test_witness_IdleStepIsOneMillisecond :
    State.reset.pending = [] ∧ (unpowered State.reset).powered = false ∧ State.reset.powered = true := by decide +kernel

/-- Each count one millisecond before its end: the command of its end is queued. -/
theorem test_witness_IdleStepIsOneMillisecond_ends :
    (withLine (fun l => { l with debounce := some 49 }) State.reset).tick.pending = [.insertion 0] ∧
    (withLine (fun l => { l with debounce := some 19 }) (ready tally0 State.reset)).tick.pending = [.removal 0] ∧
    (withLine (fun l => { l with rest := some { target := 3, elapsed := 2999 } }) (ready tally0 State.reset)).tick.pending =
      [.restCountExpiry 0] ∧
    (waited 9 .readTally (.read .sequence)).tick.pending = [.answerTimeout 0] ∧
    (waited 9 .loopback .test).tick.pending = [.loopbackTimeout 0] ∧
    (waited 9 .echo .test).tick.pending = [.echoTimeout 0] ∧
    (withCard tally0 (.working .wake true 19) State.reset).tick.pending = [.answerFrame 0 .answer] ∧
    ({ State.reset with key := { State.reset.key with debounce := some 49 } } : State).tick.pending =
      [.keyDebounceExpiry] ∧
    ({ State.reset with link := { State.reset.link with framer := .started, gap := 20 } } : State).tick.pending =
      [.frameGapTimeout []] ∧
    State.reset.tick.pending = [] := by decide +kernel

/-- The supply on; the supply off; a routine that has stopped, with an insertion held. -/
theorem test_witness_PowerOnStartsUp :
    let s := starting { lost := true, keyChanged := true } (withLine (fun l => { l with present := true }) State.reset)
    State.reset.powered = true ∧ State.reset.starting = none ∧ (unpowered State.reset).powered = false ∧
    ((unpowered State.reset).retained.check && false) = false ∧
    s.powered = true ∧ s.starting = some { lost := true, keyChanged := true } ∧ (∀ p, (s.unit p).wait = none) ∧
    (s.line 0).state = .empty ∧ (s.line 0).present = true ∧ (s.line 1).present = false := by decide +kernel

theorem test_witness_PartRestartStartsUp : (restarting State.reset).restart ≠ .none ∧
    (restarting State.reset).writesSettled = true ∧ (restarting State.reset).save = none ∧
    (restarting State.reset).retained.check = true ∧
    State.reset.restart = .none ∧ (saving State.reset).save.isSome = true ∧
    (withOrder .burn false .write State.reset).writesSettled = false := by decide +kernel

/-- The supply off with a BURN in progress, room in the doubt list and none; a routine that has stopped, with two calls still
open, one with a head that has stepped once and a charge behind it. -/
theorem test_witness_StartUpClosesEveryCall :
    let s := unpowered (burning 0 tally0 (inCall tally0 100 State.reset))
    let full := withDoubts (List.replicate 48 (doubt 1 none)) s
    let x := starting { lost := false, keyChanged := false } (inCallAt 31 (working 1 none (inCall tally0 100 State.reset)))
    let y := x.modCtx 0 fun c => { c with queue := c.queue ++ [{ tag := 6#8, pulses := 8, steps := 0 }] }
    s.powered = false ∧ s.retained.check = true ∧ s.retained.countsLawful ∧ (s.ctx 0).state ≠ .noCall ∧
    (s.ctx 0).queue = [] ∧ (s.ctx 0).field = some { kind := .burn, stage := 0, before := tally0 } ∧
    s.retained.doubts.length < 48 ∧ full.retained.doubts.length = 48 ∧ full.retained.countsLawful ∧
    x.starting.isSome = true ∧ x.retained.check = true ∧ x.retained.countsLawful ∧
    (positions.filter fun p => (x.ctx p).state ≠ .noCall) = [0, 31] ∧
    y.starting.isSome = true ∧ y.retained.check = true ∧ y.retained.countsLawful ∧
    (y.ctx 0).queue = [{ tag := 5#8, pulses := 25, steps := 1 }, { tag := 6#8, pulses := 8, steps := 0 }] := by
  unfold Retained.countsLawful; decide +kernel

theorem test_witness_MainSupplyLossKeepsRetained : State.reset.powered = true ∧ (unpowered State.reset).powered = false ∧
    ((ready tally0 State.reset).unit 0).reader = some (.card (card tally0 .awake)) ∧
    (State.reset.unit 0).reader = none := by decide +kernel

/-! ## Witnesses: the management link -/

/-- A CHARGE to position 31, an ACKNOWLEDGE of part 0xFF, and a STATUS, which names no position. -/
theorem test_witness_FrameBecomesRequest :
    State.reset.powered = true ∧ State.reset.starting = none ∧ State.reset.link.framer = .hunting ∧
    State.reset.link.hold = false ∧ 9#8 ≠ 0#8 ∧ requestLength 0x31#8 = some ([25#8].length + 3) ∧
    requestBody 0x31#8 [25#8] = some (.charge 25#8) ∧ (31#8).toNat < 32 ∧ (0x31#8 : Byte) ≠ 0x13#8 ∧
    (∀ p : Pos, p.val = (31#8).toNat → (State.reset.line p).state ≠ .off) ∧
    requestLength 0x13#8 = some ([0#8, 0#8, 0#8, 1#8].length + 3) ∧
    requestBody 0x13#8 [0#8, 0#8, 0#8, 1#8] = some (.acknowledge 0#16 1#16) ∧
    (0x13#8 : Byte) ∉ [0x11#8, 0x12#8, 0x30#8, 0x31#8, 0x32#8, 0x33#8] ∧ (∀ p : Pos, p.val ≠ (0xFF#8).toNat) ∧
    requestLength 0x10#8 = some ([0#8].length + 3) ∧ requestBody 0x10#8 [0#8] = some .status ∧
    (0x10#8 : Byte) ∉ [0x11#8, 0x12#8, 0x30#8, 0x31#8, 0x32#8, 0x33#8, 0x13#8] := by decide +kernel

/-- An unknown type; a length that is not the type's, at the shortest and the longest payload; a position byte of 32; OFF. -/
theorem test_witness_FrameRefusedByLinkPort :
    State.reset.powered = true ∧ State.reset.starting = none ∧ State.reset.link.framer = .hunting ∧
    State.reset.link.hold = false ∧ 1 ≤ [0#8].length ∧ (List.replicate 247 0#8).length + 3 ≤ 250 ∧ requestLength 0x00#8 = none ∧
    requestLength 0x31#8 = some 4 ∧ 4 ≠ (List.replicate 247 0#8).length + 3 ∧
    requestLength 0x12#8 = some 6 ∧ 6 ≠ [0#8].length + 3 ∧
    requestLength 0x32#8 = some ([0#8].length + 3) ∧ 32 ≤ (32#8).toNat ∧
    (0x32#8 : Byte) ∈ [0x11#8, 0x12#8, 0x30#8, 0x31#8, 0x32#8, 0x33#8] ∧ (0x32#8 : Byte) ∈ [0x30#8, 0x31#8, 0x32#8, 0x13#8] ∧
    requestLength 0x13#8 = some ([0#8, 0#8, 0#8, 1#8].length + 3) ∧ 32#8 ≠ 0xFF#8 ∧ (0 : Pos).val = (0#8).toNat ∧
    ((withLine (fun l => { l with state := .off }) State.reset).line 0).state = .off := by
  decide +kernel

theorem test_witness_FrameDiscarded :
    State.reset.powered = true ∧ State.reset.starting = none ∧ State.reset.link.framer = .hunting ∧
    (unpowered State.reset).powered = false ∧
    (starting { lost := false, keyChanged := false } State.reset).starting.isSome = true ∧ (held State.reset).link.hold = true ∧
    (held State.reset).restart = .none ∧ (held (restarting State.reset)).restart ≠ .none ∧ 9#8 ≠ 0#8 ∧
    0#16 ≠ crc [4#8, 0x10#8, 9#8, 0xFF#8, 0#8] ∧ (State.reset.link.framer.run []).2 = [] ∧
    ((Framer.gathering 4#8 [0x10#8]).run [9#8]).2 = [] ∧
    (3#8).toNat < 4 ∧ 250 < (251#8).toNat := by decide +kernel

def sending : State :=
  { State.reset with link := { State.reset.link with transmitting := some { frame := [1#8], isReply := true }, outstanding := 1 } }

theorem test_witness_MessageTransmitted : State.reset.link.transmitting = none ∧
    State.reset.link.outbound = .partNotice :: [] ∧
    sending.link.transmitting = some { frame := [1#8], isReply := true } := by decide +kernel

theorem test_witness_StatusAndQueryReplies :
    (got .status 0xFF#8).front .linkPort = some (request .status 0xFF#8) ∧
    (inCall tally0 100 (got .query 0#8)).front .linkPort = some (request .query 0#8) ∧ posOf 0#8 = some 0 ∧
    ((inCall tally0 100 (got .query 0#8)).line 0).state = .inCall ∧
    (ready tally0 (got .query 0#8)).front .linkPort = some (request .query 0#8) ∧
    ((ready tally0 (got .query 0#8)).line 0).state ≠ .inCall ∧ ((ready tally0 (got .query 0#8)).unit 0).inForce = true ∧
    ((ready tally0 (got .query 0#8)).ctx 0).image = some (image tally0) ∧
    (image tally0).tally.consumption ≤ (image tally0).header.issued.toNat := by decide +kernel

theorem test_witness_AcknowledgeSetsFlags :
    (got (.acknowledge 1#16 1#16) 31#8).front .linkPort = some (request (.acknowledge 1#16 1#16) 31#8) ∧
    posOf 31#8 = some 31 ∧
    (got (.acknowledge 16#16 0#16) 0xFF#8).front .linkPort = some (request (.acknowledge 16#16 0#16) 0xFF#8) ∧
    posOf 0xFF#8 = none := by decide +kernel

/-! ## Witnesses: tables, settings and the key -/

def entry : SeriesFields := { code := 7#16, weight := 10#8, maxIssued := 200#16, retries := 1#8, accepting := true }

def withEntry (s : State) : State := s.writeSeries 0 (some entry)

/-- A SERIES LOAD of the code 7. -/
def load (index action accepting : Byte) : ReqBody := .seriesLoad index action 7#16 10#8 200#16 1#8 accepting

theorem test_witness_SeriesLoadOutcomes (index action accepting : Byte) :
    (withEntry (got (load index action accepting) 0xFF#8)).front .identification =
      some (request (load index action accepting) 0xFF#8) ∧
    ¬ (withEntry (got (load index action accepting) 0xFF#8)).refusesGuarded ∧
    (withEntry (got (load index action accepting) 0xFF#8)).save = none :=
  ⟨rfl, by simp [State.refusesGuarded, withEntry, got, State.writeSeries, State.reset], rfl⟩

/-- Index 16 and index 15; the code held by entry 0 for a load of entry 15, and not for one of entry 0. -/
theorem test_witness_SeriesLoadOutcomes_clauses :
    15 < (16#8).toNat ∧ (15 : Fin 16).val = (15#8).toNat ∧ (0 : Fin 16).val = (0#8).toNat ∧
    (∃ j : Fin 16, ∃ e ∈ ((withEntry State.reset).working.series[j.val]'j.isLt).toList, j ≠ 15 ∧ e.code = 7#16) ∧
    (¬ ∃ j : Fin 16, ∃ e ∈ ((withEntry State.reset).working.series[j.val]'j.isLt).toList, j ≠ 0 ∧ e.code = 7#16) := by
  decide +kernel

theorem test_witness_SeriesReadReplies :
    (got (.seriesRead 15#8) 0xFF#8).front .identification = some (request (.seriesRead 15#8) 0xFF#8) ∧
    (got (.seriesRead 16#8) 0xFF#8).front .identification = some (request (.seriesRead 16#8) 0xFF#8) ∧
    15 < (16#8).toNat ∧ (15 : Fin 16).val = (15#8).toNat := by decide +kernel

/-- 256 ranges of three serials, no two adjacent. -/
def fullList : List Range := (List.range 256).map fun i => range (4 * i) (4 * i + 2)

def withBlocks (bs : List Range) (s : State) : State := s.writeBlocks bs

theorem test_fullList : blocksCanonical fullList := by
  refine ⟨by simp [fullList], fun r h => ?_, List.pairwise_map.2 ?_⟩
  · simp only [fullList, List.mem_map, List.mem_range] at h
    obtain ⟨i, hi, rfl⟩ := h
    simp [range]; omega
  · refine List.pairwise_lt_range.imp_of_mem fun {i j} hi hj h => ?_
    simp only [List.mem_range] at hi hj
    simp [Range.before, Range.touches, range]; omega

theorem test_witness_BlockAddCoversRange (x : Range) (bs : List Range) :
    (withBlocks bs (got (.blockAdd x) 0xFF#8)).front .identification = some (request (.blockAdd x) 0xFF#8) ∧
    ¬ (withBlocks bs (got (.blockAdd x) 0xFF#8)).refusesGuarded ∧
    (withBlocks bs (got (.blockAdd x) 0xFF#8)).save = none ∧
    (withBlocks bs (got (.blockAdd x) 0xFF#8)).working.blocks = bs :=
  ⟨rfl, by simp [State.refusesGuarded, withBlocks, got, State.writeBlocks, State.reset], rfl, rfl⟩

/-- An empty range; a full list that nothing touches, one that is touched, and one with a place free. -/
theorem test_witness_BlockAddCoversRange_clauses :
    (range 2 1).last.toNat < (range 2 1).first.toNat ∧ (range 2000 2000).first.toNat ≤ (range 2000 2000).last.toNat ∧
    (∀ y ∈ fullList, y.touches (range 2000 2000) = false) ∧ fullList.length = 256 ∧
    range 0 2 ∈ fullList ∧ (range 0 2).touches (range 3 3) = true ∧ (fullList.drop 1).length < 256 := by
  refine ⟨by decide, by decide, fun y h => ?_, by simp [fullList], ?_, by decide, by simp [fullList]⟩
  · simp only [fullList, List.mem_map, List.mem_range] at h
    obtain ⟨i, hi, rfl⟩ := h
    simp [Range.touches, range]; omega
  · exact List.mem_map.2 ⟨0, by simp, rfl⟩

theorem test_witness_BlockRemoveUncoversSpan (x : Range) (bs : List Range) :
    (withBlocks bs (got (.blockRemove x) 0xFF#8)).front .identification = some (request (.blockRemove x) 0xFF#8) ∧
    ¬ (withBlocks bs (got (.blockRemove x) 0xFF#8)).refusesGuarded ∧
    (withBlocks bs (got (.blockRemove x) 0xFF#8)).save = none ∧
    (withBlocks bs (got (.blockRemove x) 0xFF#8)).working.blocks = bs :=
  ⟨rfl, by simp [State.refusesGuarded, withBlocks, got, State.writeBlocks, State.reset], rfl, rfl⟩

/-- A span within a range, which splits it, and a span that takes a range's first serial. -/
theorem test_witness_BlockRemoveUncoversSpan_clauses :
    range 4 6 ∈ fullList ∧ splits (range 5 5) (range 4 6) = true ∧ fullList.length = 256 ∧
    (∀ y ∈ fullList, splits (range 4 4) y = false) := by
  refine ⟨List.mem_map.2 ⟨1, by simp, rfl⟩, by decide, by simp [fullList], fun y h => ?_⟩
  simp only [fullList, List.mem_map, List.mem_range] at h
  obtain ⟨i, hi, rfl⟩ := h
  simp [splits, range]; omega

theorem test_witness_BlockClearAndRead :
    (got .blockClear 0xFF#8).front .identification = some (request .blockClear 0xFF#8) ∧
    ¬ (got .blockClear 0xFF#8).refusesGuarded ∧ (got .blockClear 0xFF#8).save = none ∧
    (got (.blockRead 0#16) 0xFF#8).front .identification = some (request (.blockRead 0#16) 0xFF#8) := by
  unfold State.refusesGuarded; decide +kernel

/-- LOCKED; KEYED with the key off; OPEN while a SAVE writes; KEYED with the key on while a SAVE writes. -/
theorem test_witness_GuardedRequestRefused :
    guardedCommand .blockClear = some (.identification, .blockClear, 0x24#8) ∧
    (locked (got .blockClear 0xFF#8)).front .identification = some (request .blockClear 0xFF#8) ∧
    (locked (got .blockClear 0xFF#8)).refusesGuarded ∧
    ({ got .blockClear 0xFF#8 with mode := .keyed } : State).refusesGuarded ∧
    (saving (got .blockClear 0xFF#8)).front .identification = some (request .blockClear 0xFF#8) ∧
    ¬ (saving (got .blockClear 0xFF#8)).refusesGuarded ∧ (saving (got .blockClear 0xFF#8)).save.isSome = true ∧
    ¬ ({ got .blockClear 0xFF#8 with mode := .keyed, key := { State.reset.key with input := true } } : State).refusesGuarded
    := by
  unfold State.refusesGuarded; decide +kernel

theorem test_witness_ProtectOutcomes (mode : Byte) :
    (got (.protect mode) 0xFF#8).front .settings = some (request (.protect mode) 0xFF#8) ∧
    (locked (got (.protect mode) 0xFF#8)).front .settings = some (request (.protect mode) 0xFF#8) ∧
    ¬ (got (.protect mode) 0xFF#8).refusesGuarded ∧ (locked (got (.protect mode) 0xFF#8)).refusesGuarded ∧
    2 < (3#8).toNat :=
  ⟨rfl, rfl, by simp [State.refusesGuarded, got, State.reset], by simp [State.refusesGuarded, locked], by decide⟩

/-- During a self-test; the first byte that names no rate; each rate and the byte that leaves it; a SAVE being written. -/
theorem test_witness_SaveStoresCopy :
    (got (.save 60#8 4#8) 0xFF#8).front .settings = some (request (.save 60#8 4#8) 0xFF#8) ∧
    ¬ (got (.save 60#8 4#8) 0xFF#8).refusesGuarded ∧ (got (.save 60#8 4#8) 0xFF#8).save = none ∧
    (got (.save 60#8 4#8) 0xFF#8).test = none ∧ 4 ≤ (4#8).toNat ∧ 4#8 ≠ 0xFF#8 ∧
    (testing .echo false (got (.save 60#8 3#8) 0xFF#8)).front .settings = some (request (.save 60#8 3#8) 0xFF#8) ∧
    ¬ (testing .echo false (got (.save 60#8 3#8) 0xFF#8)).refusesGuarded ∧
    (testing .echo false (got (.save 60#8 3#8) 0xFF#8)).save = none ∧
    (testing .echo false (got (.save 60#8 3#8) 0xFF#8)).test.isSome = true ∧
    3#8 = Rate.b115200.code ∧ State.reset.working.rate = .b9600 ∧
    (saving State.reset).save = some { copy := State.reset.working, tag := 3#8, pos := 0xFF#8 } := by
  unfold State.refusesGuarded; decide +kernel

def keySettled (closed : Bool) : State :=
  { State.reset with key := { closed := closed, input := false, settled := true, debounce := some 49 } }

theorem test_witness_KeyDebounced :
    State.reset.powered = true ∧ State.reset.key.closed ≠ true ∧ State.reset.key.debounce = some 0 ∧
    State.reset.key.settled = false ∧ (keySettled true).key.debounce = some 49 ∧ (keySettled true).key.settled = true ∧
    (keySettled true).key.closed ≠ (keySettled true).key.input ∧ (keySettled true).starting = none ∧
    (starting { lost := false, keyChanged := false } (keySettled true)).starting =
      some { lost := false, keyChanged := false } ∧
    (keySettled false).key.debounce = some 49 ∧ (keySettled false).key.closed = (keySettled false).key.input := by
  decide +kernel

/-! ## Witnesses: calls and charges -/

def manyRecords (n : Nat) (s : State) : State :=
  s.modRetained fun m => { m with records := List.replicate n (.resolution { seq := 0, id := header.id, callId := 1, stage := 0,
                                                                             outcome := .taken, position := 0 }) }

/-- With 55 slots in use, the last OPEN that finds room. -/
theorem test_witness_OpenAccepted :
    let s := manyRecords 55 (ready tally0 (got (.openCall 1001#16) 0#8))
    s.front .callTable = some (request (.openCall 1001#16) 0#8) ∧ posOf 0#8 = some 0 ∧ (s.line 0).state = .ready ∧
    (s.ctx 0).state = .noCall ∧ (s.ctx 0).image = some (image tally0) ∧
    (s.unit 0).terms = some { weight := 10, retries := 1, maxIssued := 200 } ∧
    (image tally0).tally.consumption ≤ (image tally0).header.issued.toNat ∧
    blocked s.working.blocks header.id = false ∧
    s.retained.records.length + s.retained.reservations.length + 1 ≤ 56 := by decide +kernel

/-- EMPTY; READY and blocked; READY with 56 slots in use. -/
theorem test_witness_OpenRefused :
    let s := got (.openCall 0#16) 0#8
    let blockedState := withBlocks [range 42 42] (ready tally0 s)
    let full := manyRecords 56 (ready tally0 s)
    s.front .callTable = some (request (.openCall 0#16) 0#8) ∧ (s.line 0).state ≠ .ready ∧
    (s.ctx 0).completionDue = false ∧
    blockedState.front .callTable = some (request (.openCall 0#16) 0#8) ∧ (blockedState.line 0).state = .ready ∧
    (blockedState.ctx 0).state = .noCall ∧ (blockedState.ctx 0).image = some (image tally0) ∧
    (blockedState.unit 0).terms = some { weight := 10, retries := 1, maxIssued := 200 } ∧
    blocked blockedState.working.blocks header.id = true ∧
    full.front .callTable = some (request (.openCall 0#16) 0#8) ∧ (full.line 0).state = .ready ∧
    (full.ctx 0).state = .noCall ∧ (full.ctx 0).image = some (image tally0) ∧
    (full.unit 0).terms = some { weight := 10, retries := 1, maxIssued := 200 } ∧
    blocked full.working.blocks header.id = false ∧
    56 < full.retained.records.length + full.retained.reservations.length + 1 := by decide +kernel

def withQueue (n : Nat) (s : State) : State :=
  s.modCtx 0 fun c => { c with queue := List.replicate n { tag := 5#8, pulses := 25, steps := 0 } }

/-- No call; a queue of four; a queue of three whose head is in work. -/
theorem test_witness_ChargeRefusedOrWaits :
    let s := got (.charge 25#8) 0#8
    let full := withQueue 4 (working 0 none (inCall tally0 100 s))
    let three := withQueue 3 (working 0 none (inCall tally0 100 s))
    s.front .callTable = some (request (.charge 25#8) 0#8) ∧ posOf 0#8 = some 0 ∧ (s.ctx 0).state ≠ .openCall ∧
    full.front .callTable = some (request (.charge 25#8) 0#8) ∧ (full.ctx 0).state = .openCall ∧
    4 ≤ (full.ctx 0).queue.length ∧
    three.front .callTable = some (request (.charge 25#8) 0#8) ∧ (three.ctx 0).state = .openCall ∧
    (three.ctx 0).queue.length < 4 ∧ (three.unit 0).work.isSome = true := by decide +kernel

theorem test_terms_lawful (t : Tally) (b : Nat) (body : ReqBody) : (inCall t b (got body 0#8)).termsLawful := by
  intro p
  by_cases hp : p = 0
  · subst hp
    exact ⟨fun x h => (by cases h; decide), fun _ => (show 1 ≤ 10 ∧ 10 ≤ 100 ∧ 1 ≤ 3 by decide)⟩
  · have hv : ¬ (0 = p.val) := fun h => hp (Fin.ext h.symm)
    constructor
    · intro x h
      simp [inCall, ready, withCard, got, State.unit, State.modUnit, State.setUnit, State.modLine, State.modCtx,
        State.modRetained, hv, State.reset, Position.start] at h
    · intro h
      simp [inCall, ready, withCard, got, State.modUnit, State.setUnit, State.modLine, State.modCtx, State.ctx,
        Retained.ctx, Retained.modCtx, State.modRetained, hv, State.reset, Retained.cleared, Context.cleared] at h

/-- Four pulses with 4 of credit; 25 pulses with the balance 0; the first with the closes of a RESTART
made, and with them still to make. -/
theorem test_witness_ChargeSettledAtOnce :
    let a := inCall tally0 100 (got (.charge 4#8) 0#8)
    let b := inCall tally0 0 (got (.charge 25#8) 0#8)
    a.front .callTable = some (request (.charge 4#8) 0#8) ∧ (a.ctx 0).state = .openCall ∧ (a.ctx 0).queue = [] ∧
    (a.unit 0).work = none ∧ (a.unit 0).resetWaits = false ∧ (4#8).toNat ≤ (a.ctx 0).credit ∧ a.restart = .none ∧
    b.front .callTable = some (request (.charge 25#8) 0#8) ∧ (b.ctx 0).state = .openCall ∧ (b.ctx 0).queue = [] ∧
    (b.unit 0).work = none ∧ (b.unit 0).resetWaits = false ∧ (b.ctx 0).balance = 0 ∧ b.restart = .none ∧
    (restarted a).front .callTable = some (request (.charge 4#8) 0#8) ∧ (restarted a).restart = .closed ∧
    (restarting a).front .callTable = some (request (.charge 4#8) 0#8) ∧ (restarting a).restart = .settling := by
  decide +kernel

/-- A charge that credit covers and that joins under a pending RESTART is settled RESTART with its call (R153). -/
theorem test_charge_under_restart :
    let s := { withOrder .burn false .write (inCall tally0 100 (got (.charge 4#8) 0#8)) with restart := .settling }
    let t := { s.doCharge with units := s.doCharge.units.set 0 { s.doCharge.unit 0 with
      line := { s.doCharge.line 0 with order := none } } }.restartSettle
    s.doCharge.link.outbound = [.partNotice] ∧ (t.ctx 0).state = .noCall ∧
    t.link.outbound = [.partNotice, .reply 0x31#8 9#8 0#8 (.charge {
      outcome := .restart, covered := 4, uncovered := 0, steps := 0, balance := 100, credit := 0, failing := none })] := by
  decide +kernel

/-- A single step and a carry of stage 3, a channel free or all four held; contacts at REST. -/
theorem test_witness_ChargeAsksForBurn :
    let carry : Tally := { digits := digits 7 7 7 2, latch := 0 }
    let s := inCall tally0 100 (got (.charge 5#8) 0#8)
    let c := channelsHeld (inCall carry 1 (got (.charge 5#8) 0#8))
    s.front .callTable = some (request (.charge 5#8) 0#8) ∧ posOf 0#8 = some 0 ∧ 1 ≤ (s.ctx 0).weight ∧
    (s.ctx 0).state = .openCall ∧ (s.ctx 0).queue = [] ∧ (s.unit 0).work = none ∧ (s.unit 0).wait = none ∧
    s.restart = .none ∧ (s.line 0).state = .inCall ∧ (s.line 0).contact = .powered ∧ (s.line 0).order = none ∧
    (∀ h ∈ s.arbiter.held, h.position ≠ 0) ∧ (∀ w ∈ s.arbiter.waiting, w.position ≠ 0) ∧
    (s.ctx 0).image = some (image tally0) ∧ (tally0.digits.get 0).val < 7 ∧ (¬ ∃ j : Stage, j < 0) ∧ (s.ctx 0).credit < (5#8).toNat ∧
    1 ≤ (s.ctx 0).balance ∧ s.arbiter.granting = true ∧ s.arbiter.held.length < 4 ∧ s.arbiter.waiting = [] ∧
    c.front .callTable = some (request (.charge 5#8) 0#8) ∧ (c.ctx 0).state = .openCall ∧ (c.ctx 0).queue = [] ∧
    (c.unit 0).work = none ∧ (c.unit 0).wait = none ∧ c.restart = .none ∧ (c.line 0).state = .inCall ∧
    (c.line 0).contact = .powered ∧ (c.line 0).order = none ∧ (∀ h ∈ c.arbiter.held, h.position ≠ 0) ∧
    (∀ w ∈ c.arbiter.waiting, w.position ≠ 0) ∧ (c.ctx 0).image = some (image carry) ∧
    carry.latch = 0 ∧ (carry.digits.get 3).val < 7 ∧ (∀ j : Stage, j < 3 → (carry.digits.get j).val = 7) ∧ 1 ≤ (c.ctx 0).balance ∧ 1 ≤ (c.ctx 0).weight ∧ (c.ctx 0).credit < (5#8).toNat ∧
    4 ≤ c.arbiter.held.length ∧
    ((withLine (fun l => { l with contact := .rest }) s).line 0).contact = .rest ∧
    ((withLine (fun l => { l with contact := .rest }) s).line 0).order = none := by decide +kernel

def closing (s : State) : State := s.modCtx 0 fun c => { c with state := .closing }

theorem test_witness_CallCompletedRequested :
    let s := inCall tally0 100 (got .close 0#8)
    s.front .callTable = some (request .close 0#8) ∧ posOf 0#8 = some 0 ∧ (s.ctx 0).state = .openCall ∧
    (s.ctx 0).queue = [] ∧ (s.ctx 0).field = none ∧ (s.unit 0).resetWaits = false ∧
    ((closing s).ctx 0).queue = [] ∧ ((closing s).ctx 0).state = .closing ∧ (closing s).powered = true ∧
    (closing s).starting = none := by decide +kernel

/-- No call; a reset waits; a head whose order is in flight, with three charges behind it; one that waits for a channel. -/
theorem test_witness_CloseCutsWaitingCharges :
    let s := got .close 0#8
    let w := withWait (.reset 8#8) (inCall tally0 100 s)
    let q := withQueue 4 (working 0 (some (Step.start 0)) (inCall tally0 100 s))
    let h := withOrder .burn false .write (withQueue 4 (working 0 none (inCall tally0 100 s)))
    s.front .callTable = some (request .close 0#8) ∧ (s.ctx 0).state ≠ .openCall ∧
    w.front .callTable = some (request .close 0#8) ∧ (w.ctx 0).state = .openCall ∧ (w.unit 0).resetWaits = true ∧
    h.front .callTable = some (request .close 0#8) ∧ (h.ctx 0).state = .openCall ∧ (h.unit 0).resetWaits = false ∧
    (h.ctx 0).queue = { tag := 5#8, pulses := 25, steps := 0 } :: List.replicate 3 { tag := 5#8, pulses := 25, steps := 0 } ∧
    h.headFinishes 0 = true ∧
    q.front .callTable = some (request .close 0#8) ∧ (q.ctx 0).state = .openCall ∧ (q.unit 0).resetWaits = false ∧
    (q.ctx 0).queue = { tag := 5#8, pulses := 25, steps := 0 } :: List.replicate 3 { tag := 5#8, pulses := 25, steps := 0 } ∧
    (q.unit 0).work.map (·.step) = some (some (Step.start 0)) ∧ (Step.start 0).awaited = .burn ∧
    (q.line 0).order = none := by decide +kernel

def planned (steps : Nat) : Context :=
  { Context.cleared with weight := 10, credit := 4, balance := 2, queue := [{ tag := 5#8, pulses := 25, steps := steps }] }

/-- Three steps are needed and two planned: one counted, and, with the balance 3, all three. -/
theorem test_witness_SettlementKeepsPulseLaw :
    1 ≤ (planned 1).weight ∧ (planned 1).credit < (planned 1).weight ∧
    1 ≤ (planCharge (planned 1) { tag := 5#8, pulses := 25, steps := 1 }).planned ∧
    1 < (planCharge (planned 1) { tag := 5#8, pulses := 25, steps := 1 }).needed ∧
    3 ≤ (planCharge { planned 3 with balance := 3 } { tag := 5#8, pulses := 25, steps := 3 }).planned ∧
    (planCharge { planned 3 with balance := 3 } { tag := 5#8, pulses := 25, steps := 3 }).needed = 3 ∧
    (planned 1).covered + 25 ≤ 4294967295 ∧ (planned 1).uncovered + 25 ≤ 4294967295 := by decide

/-! ## Witnesses: records and doubts -/

/-- Five records and a PENDING entry; 64 records, and a held entry of which one finds room. -/
theorem test_witness_TakeRecordsHandsOldest :
    let s := withDoubts [doubt 1 none] (manyRecords 5 (got (.takeRecords 4#8) 0xFF#8))
    let x := withDoubts [doubt 1 (some (.taken, 3)), doubt 2 none, doubt 3 (some (.mismatch, 0))]
      (manyRecords 64 (got (.takeRecords 0#8) 0xFF#8))
    s.front .recordList = some (request (.takeRecords 4#8) 0xFF#8) ∧ s.retained.seqCounter ≤ 65535 ∧
    x.front .recordList = some (request (.takeRecords 0#8) 0xFF#8) ∧ x.retained.seqCounter ≤ 65535 ∧
    x.doTakeRecords.retained.records.length = 64 ∧
    x.doTakeRecords.retained.doubts = [doubt 2 none, doubt 3 (some (.mismatch, 0))] ∧
    x.doTakeRecords.link.flags = 0x0D#5 := by
  decide +kernel

theorem test_witness_DoubtReadReplies :
    (got (.doubtRead 0#8) 0xFF#8).front .doubtList = some (request (.doubtRead 0#8) 0xFF#8) := by decide +kernel

/-- A PENDING entry behind a RESOLVED one; a RESOLVED entry only; no entry. -/
theorem test_witness_DoubtDiscardOutcomes :
    let s := got (.doubtDiscard header.id) 0xFF#8
    let a := withDoubts [doubt 1 (some (.taken, 0)), doubt 2 none] s
    let b := withDoubts [doubt 1 (some (.taken, 0))] s
    a.front .doubtList = some (request (.doubtDiscard header.id) 0xFF#8) ∧
    a.retained.doubts = [doubt 1 (some (.taken, 0))] ++ doubt 2 none :: [] ∧ (doubt 2 none).id = header.id ∧
    (doubt 2 none).resolved = none ∧ (∀ x ∈ [doubt 1 (some (.taken, 0))], ¬ (x.id = header.id ∧ x.resolved = none)) ∧
    b.front .doubtList = some (request (.doubtDiscard header.id) 0xFF#8) ∧
    (∀ x ∈ b.retained.doubts, x.id = header.id → x.resolved.isSome = true) ∧
    (∃ x ∈ b.retained.doubts, x.id = header.id) ∧
    s.front .doubtList = some (request (.doubtDiscard header.id) 0xFF#8) ∧
    (∀ x ∈ s.retained.doubts, x.id = header.id → x.resolved.isSome = true) ∧
    (∀ x ∈ s.retained.doubts, x.id ≠ header.id) := by decide +kernel

/-! ## Witnesses: requests to a position -/

/-- Behind an earlier wait; in TESTING; in a call. -/
theorem test_witness_ResetPositionTaken :
    let s := got .resetPosition 0#8
    let w := withWait (.configure 8#8) s
    let t := testing .echo false s
    let c := inCall tally0 100 s
    w.front (.lineUnit (posByte 0)) = some (request .resetPosition 0#8) ∧ (w.unit 0).wait.isSome = true ∧
    t.front (.lineUnit (posByte 0)) = some (request .resetPosition 0#8) ∧ (t.unit 0).wait = none ∧
    (t.line 0).state = .testing ∧
    c.front (.lineUnit (posByte 0)) = some (request .resetPosition 0#8) ∧ (c.unit 0).wait = none ∧
    (c.line 0).state ≠ .testing ∧ (c.ctx 0).completionDue = false ∧ (c.line 0).unsent = false := by decide +kernel

/-- A write in progress; OFF; EMPTY; a call, with and without a RESTART pending; READY. -/
theorem test_witness_ResetPositionActs :
    let w := withWait (.reset 8#8)
    let write := w (withOrder .burn false .write (inCall tally0 100 State.reset))
    let off := w (withLine (fun l => { l with state := .off }) State.reset)
    let call := w (inCall tally0 100 State.reset)
    (write.unit 0).wait = some (.reset 8#8) ∧ (write.line 0).writeInProgress = true ∧
    (off.unit 0).wait = some (.reset 8#8) ∧ (off.line 0).awaited = false ∧ (off.line 0).state = .off ∧
    ((w State.reset).unit 0).wait = some (.reset 8#8) ∧ ((w State.reset).line 0).awaited = false ∧
    ((w State.reset).line 0).state = .empty ∧
    (call.unit 0).wait = some (.reset 8#8) ∧ (call.line 0).awaited = false ∧ (call.line 0).state = .inCall ∧
    (call.ctx 0).state ≠ .noCall ∧ call.restart = .none ∧ (restarting call).restart ≠ .none ∧
    ((w (ready tally0 State.reset)).line 0).state = .ready ∧ ((w (ready tally0 State.reset)).line 0).awaited = false := by
  decide +kernel

/-- A call whose head is in work, 12 of its 25 pulses paid for, with a charge behind it and a CLOSE that waits. -/
theorem test_witness_ResetPositionActs_charges :
    let s := withWait (.reset 8#8) ((closing (withHead 1 [{ tag := 6#8, pulses := 3, steps := 0 }]
      (working 1 (some (Step.start 0)) (inCall tally0 99 State.reset)))).modUnit 0 fun u => { u with closes := [7#8] })
    (s.unit 0).wait = some (.reset 8#8) ∧ (s.line 0).awaited = false ∧ (s.line 0).state = .inCall ∧
    (s.ctx 0).state ≠ .noCall ∧ (s.ctx 0).field = none ∧ (s.ctx 0).queue.length = 2 ∧ (s.unit 0).work.isSome = true ∧
    s.cutCovered 0 = 14 ∧ s.cutAvailable 0 = 14 ∧ (s.cutReplies 0 .reset none).length = 2 := by decide +kernel

/-- The two in-service bytes and the first that is none; OFF with and without a card; a write in progress. -/
theorem test_witness_ConfigureOutcomes (i n c : Byte) :
    (got (.configure i n c) 0#8).front (.lineUnit (posByte 0)) = some (request (.configure i n c) 0#8) ∧
    ((got (.configure i n c) 0#8).unit 0).wait = none ∧ ((got (.configure i n c) 0#8).ctx 0).completionDue = false :=
  ⟨rfl, rfl, rfl⟩

theorem test_witness_ConfigureOutcomes_clauses :
    let s := got (.configure 0#8 1#8 1#8) 0#8
    let off := withLine (fun l => { l with state := .off }) (got (.configure 1#8 1#8 1#8) 0#8)
    let seated := withLine (fun l => { l with state := .off, present := true }) (got (.configure 1#8 1#8 1#8) 0#8)
    let write := withOrder .restage false .write (identifying 9 .powered (some header) s)
    ¬ ((2#8).toNat ≤ 1 ∧ (1#8).toNat ≤ 1 ∧ (1#8).toNat ≤ 1) ∧ ((0#8).toNat ≤ 1 ∧ (1#8).toNat ≤ 1 ∧ (1#8).toNat ≤ 1) ∧
    ((testing .echo false s).line 0).state = .testing ∧ ((testing .echo false s).unit 0).wait = none ∧
    ((inCall tally0 100 s).line 0).state = .inCall ∧ ((inCall tally0 100 s).ctx 0).completionDue = false ∧
    (off.line 0).state = .off ∧ (off.line 0).present = false ∧ (off.unit 0).wait = none ∧
    (seated.line 0).state = .off ∧ (seated.line 0).present = true ∧ (seated.unit 0).wait = none ∧
    ((ready tally0 s).line 0).state = .ready ∧ ((ready tally0 s).line 0).unsent = false ∧
    ((ready tally0 s).line 0).awaited = false ∧ (write.line 0).state = .identifying ∧ (write.line 0).unsent = false ∧
    (write.line 0).awaited = true ∧ (write.unit 0).wait = none := by decide +kernel

theorem test_witness_ConfigureOutOfServiceActs :
    let s := withWait (.configure 8#8) (identifying 9 .powered (some header) State.reset)
    let w := withOrder .restage false .write s
    (s.unit 0).wait = some (.configure 8#8) ∧ (s.line 0).awaited = false ∧ (s.line 0).state ≠ .testing ∧
    (s.line 0).unsent = false ∧ (s.line 0).state ≠ .off ∧
    (w.unit 0).wait = some (.configure 8#8) ∧ (w.line 0).writeInProgress = true := by decide +kernel

/-! ## Witnesses: self-test and RESTART -/

/-- A SAVE writes; a test runs; a mask that names no position; a mask that names positions 0 and 31. -/
theorem test_witness_SelfTestTaken :
    let a := got (.selfTest 0x80000001#32) 0xFF#8
    let z := got (.selfTest 0#32) 0xFF#8
    let joins (s : State) (mask : Quad) (p : Pos) : Prop :=
      mask.getLsbD p.val = true ∧ ((s.line p).state = .empty ∨ (s.line p).state = .off)
    a.front .selfTest = some (request (.selfTest 0x80000001#32) 0xFF#8) ∧ a.save = none ∧ a.test = none ∧
    a.restart = .none ∧ joins a 0x80000001#32 0 ∧ joins a 0x80000001#32 31 ∧ ¬ joins a 0x80000001#32 1 ∧
    z.front .selfTest = some (request (.selfTest 0#32) 0xFF#8) ∧ z.save = none ∧ z.test = none ∧ z.restart = .none ∧
    (∀ p, ¬ joins z 0#32 p) ∧ (saving a).save.isSome = true ∧
    (saving a).front .selfTest = some (request (.selfTest 0x80000001#32) 0xFF#8) ∧
    (testing .echo false a).test.isSome = true ∧
    (testing .echo false a).front .selfTest = some (request (.selfTest 0x80000001#32) 0xFF#8) := by decide +kernel

theorem test_witness_LineTestCodes (k : OrderKind) (retry : Bool) :
    (testing k retry State.reset).test = some testRun ∧
    ((testing k retry State.reset).unit 0).test = some { wasOff := false, pattern := 5#32, earlier := none } ∧
    ∃ o, ((testing k retry State.reset).line 0).order = some o ∧ o.purpose = .test ∧ o.kind = k ∧ o.ended = true ∧
      o.retry = retry :=
  ⟨rfl, rfl, _, rfl, rfl, rfl, rfl, rfl⟩

/-- Another position without its code, and none; a card seated; a changed loopback; a corrupt echo by its check and by its
pattern, a late one, and bytes that are no frame. -/
theorem test_witness_LineTestCodes_clauses :
    testRun.codes[(1 : Pos).val]'(1 : Pos).isLt = none ∧
    (positions.all fun q => q = 0 || ((testRun.codes.set 1 (some 0#8))[q.val]'q.isLt).isSome) = true ∧
    ((testing .echo true State.reset).line 0).present = false ∧
    ((testing .echo true (withLine (fun l => { l with present := true }) State.reset)).line 0).present = true ∧
    readLineFrame (lineFrame 0x07#8 (quadBytes 4#32)) ≠ .good 0x07#8 (quadBytes 5#32) ∧
    readLineFrame [2#8, 1#8, 6#8, 0#8, 0#8] = .bad ∧
    readLineFrame (lineFrame 0x06#8 (0#8 :: quadBytes 4#32)) = .good 0x06#8 (0#8 :: quadBytes 4#32) ∧
    0#8 :: quadBytes 4#32 ≠ 0#8 :: quadBytes 5#32 ∧ readLineFrame [3#8, 1#8, 6#8, 0#8, 0#8] = .noFrame ∧
    (({ wasOff := false, pattern := 5#32, earlier := some 4#32 } : PosTest).earlier = some 4#32 ∧ 4#32 ≠ 5#32) := by
  decide +kernel

/-- With nothing in progress; with a write of a call in progress; with two calls, one of which has a head in work, a charge
behind it and a CLOSE that waits; with a call whose completion is due. -/
theorem test_witness_RestartTaken :
    let s := got .restart 0xFF#8
    let w := withOrder .burn false .write (inCall tally0 100 s)
    let c := inCallAt 31 ((withQueue 2 (working 0 (some (Step.start 0)) (closing (inCall tally0 100 s)))).modUnit 0 fun u =>
      { u with closes := [8#8] })
    let d := closing (inCall tally0 100 s)
    c.front .linkPort = some (request .restart 0xFF#8) ∧ c.writesSettled = true ∧
    (positions.filter fun p => (c.ctx p).state ≠ .noCall) = [0, 31] ∧ (c.ctx 0).completionDue = false ∧
    (c.ctx 0).queue.length = 2 ∧ (c.unit 0).work.isSome = true ∧ (c.unit 0).closes = [8#8] ∧
    c.retained.seqCounter ≤ 65535 ∧
    d.front .linkPort = some (request .restart 0xFF#8) ∧ d.writesSettled = true ∧ (d.ctx 0).completionDue = true ∧
    s.front .linkPort = some (request .restart 0xFF#8) ∧ s.writesSettled = true ∧
    w.front .linkPort = some (request .restart 0xFF#8) ∧ (w.line 0).awaited = true ∧ (w.line 0).state ≠ .testing := by
  decide +kernel

/-! ## Witnesses: presence and rest -/

/-- A card drawn; a card seated in an ABSENT position, and in PRESENT ones with contacts UNPOWERED and POWERED. -/
theorem test_witness_LoopCurrentSensed :
    let s := ready tally0 State.reset
    let gone := s.modUnit 0 fun u => { u with reader := none }
    State.reset.powered = true ∧ (s.unit 0).reader = some (.card (card tally0 .awake)) ∧
    (State.reset.unit 0).reader = none ∧ (State.reset.line 0).present = false ∧
    State.reset.seating (.fresh (.card (card tally0 .unpowered))) = some (.card (card tally0 .unpowered), []) ∧
    (card tally0 .unpowered).power = .unpowered ∧
    (gone.unit 0).reader = none ∧ (gone.line 0).present = true ∧ (gone.line 0).contact = .powered ∧
    gone.seating (.fresh .other) = some (.other, []) ∧
    ((withLine (fun l => { l with contact := .unpowered }) gone).line 0).contact = .unpowered := by decide +kernel

theorem test_witness_InsertionBeginsIdentification :
    let s := withLine (fun l => { l with debounce := some 50 }) State.reset
    (s.line 0).present = false ∧ (s.line 0).debounce.isSome = true ∧ (s.line 0).state = .empty ∧ s.mayBegin 0 = true ∧
    s.powered = true ∧ s.starting = none ∧ ((withLine (fun l => { l with state := .off }) s).line 0).state = .off ∧
    (starting { lost := false, keyChanged := false } s).starting.isSome = true := by decide +kernel

theorem test_witness_RemovalEmptiesPosition :
    let s := withLine (fun l => { l with debounce := some 20 }) (inCall tally0 100 State.reset)
    let r := withLine (fun l => { l with debounce := some 20 }) (ready tally0 State.reset)
    let e := withLine (fun l => { l with debounce := some 20, present := true }) State.reset
    (s.line 0).present = true ∧ (s.line 0).debounce.isSome = true ∧ (s.unit 0).wait = none ∧
    (s.ctx 0).completionDue = false ∧ s.restart = .none ∧ s.arbiter.lawful ∧ (s.line 0).state = .inCall ∧
    (r.line 0).present = true ∧ (r.line 0).debounce.isSome = true ∧ (r.line 0).state = .ready ∧ (e.line 0).present = true ∧ (e.line 0).debounce.isSome = true ∧
    (e.unit 0).wait = none ∧ (e.ctx 0).completionDue = false ∧ e.restart = .none ∧ e.arbiter.lawful ∧
    (e.line 0).state = .empty := by
  unfold Arbiter.lawful; decide +kernel

/-- A call with no charge; one with a head in work, a charge behind it, a RESTAGE in progress and a CLOSE that waits. -/
theorem test_witness_RemovalEmptiesPosition_call :
    let s := withLine (fun l => { l with debounce := some 20 }) (inCall tally0 100 State.reset)
    let x := (((withQueue 2 (working 0 (some (Step.start 1)) s)).modCtx 0 fun c =>
      { c with state := .closing, field := some { kind := .restage, stage := 1, before := tally0 } }).modUnit 0 fun u =>
        { u with closes := [8#8] })
    (s.line 0).state = .inCall ∧ (s.ctx 0).state ≠ .noCall ∧ (s.ctx 0).field = none ∧ (s.ctx 0).queue = [] ∧
    (x.line 0).present = true ∧ (x.line 0).debounce.isSome = true ∧ (x.unit 0).wait = none ∧
    (x.ctx 0).completionDue = false ∧ x.restart = .none ∧ x.arbiter.lawful ∧ (x.line 0).state = .inCall ∧
    (x.ctx 0).state ≠ .noCall ∧ (x.ctx 0).field.map (·.kind) = some .restage ∧ (x.ctx 0).queue.length = 2 ∧
    (x.unit 0).work.isSome = true := by
  unfold Arbiter.lawful; decide +kernel

/-- A reset that the RESTAGE of a call holds up; one that nothing holds up, in a call, in EMPTY and in OFF; a CONFIGURE that
nothing holds up. -/
theorem test_witness_RemovalEmptiesPosition_waiting :
    let w (s : State) := withWait (.reset 8#8) (withLine (fun l => { l with debounce := some 20, present := true }) s)
    let call := w (inCall tally0 100 State.reset)
    let holds := (withOrder .restage false .write call).modCtx 0 fun c =>
      { c with field := some { kind := .restage, stage := 1, before := tally0 } }
    let off := w (withLine (fun l => { l with state := .off }) State.reset)
    let c := withWait (.configure 8#8) (withLine (fun l => { l with debounce := some 20 }) (ready tally0 State.reset))
    (holds.line 0).present = true ∧ (holds.line 0).debounce.isSome = true ∧ (holds.ctx 0).completionDue = false ∧
    holds.restart = .none ∧ holds.arbiter.lawful ∧ (holds.line 0).awaited = true ∧ (holds.line 0).state = .inCall ∧
    (holds.ctx 0).state ≠ .noCall ∧ (holds.ctx 0).field.map (·.kind) = some .restage ∧
    (call.line 0).present = true ∧ (call.line 0).debounce.isSome = true ∧ (call.ctx 0).completionDue = false ∧
    call.restart = .none ∧ call.arbiter.lawful ∧ (call.unit 0).wait = some (.reset 8#8) ∧
    (call.line 0).awaited = false ∧ (call.line 0).state = .inCall ∧ (call.ctx 0).state ≠ .noCall ∧
    (off.line 0).present = true ∧ (off.line 0).debounce.isSome = true ∧ (off.ctx 0).completionDue = false ∧
    off.restart = .none ∧ off.arbiter.lawful ∧ (off.unit 0).wait = some (.reset 8#8) ∧ (off.line 0).awaited = false ∧
    (off.line 0).state = .off ∧ ((w State.reset).line 0).state = .empty ∧
    (c.line 0).present = true ∧ (c.line 0).debounce.isSome = true ∧ (c.ctx 0).completionDue = false ∧ c.restart = .none ∧
    c.arbiter.lawful ∧ (c.unit 0).wait = some (.configure 8#8) ∧ (c.line 0).awaited = false ∧ (c.line 0).state = .ready := by
  unfold Arbiter.lawful; decide +kernel

/-- With room in the doubt list, and with its 48 places taken; and with a reset that waits for the BURN. -/
theorem test_witness_RemovalTearsBurn :
    let s := withLine (fun l => { l with debounce := some 20 }) (withOrder .burn false .write
      (burning 0 tally0 (working 0 (some (Step.start 0)) (inCall tally0 100 State.reset))))
    let full := withDoubts (List.replicate 48 (doubt 1 none)) s
    let r := withWait (.reset 8#8) s
    (r.unit 0).wait = some (.reset 8#8) ∧ (r.line 0).present = true ∧ (r.line 0).debounce.isSome = true ∧
    r.restart = .none ∧ (r.line 0).state = .inCall ∧ (r.ctx 0).state ≠ .noCall ∧ (r.ctx 0).queue ≠ [] ∧
    (r.line 0).writeInProgress = true ∧ (r.ctx 0).field = some { kind := .burn, stage := 0, before := tally0 } ∧
    (s.line 0).present = true ∧ (s.line 0).debounce.isSome = true ∧ s.restart = .none ∧
    (s.line 0).state = .inCall ∧ (s.ctx 0).state ≠ .noCall ∧ (s.ctx 0).queue ≠ [] ∧
    (s.line 0).writeInProgress = true ∧ (s.ctx 0).field = some { kind := .burn, stage := 0, before := tally0 } ∧
    s.retained.doubts.length < 48 ∧ full.retained.doubts.length = 48 ∧ (full.line 0).writeInProgress = true ∧
    (full.ctx 0).field = some { kind := .burn, stage := 0, before := tally0 } := by decide +kernel

/-- A rest count with no end, and one of 3 s. -/
theorem test_witness_RestCountRestsCard :
    let s (n : Nat) := withLine (fun l => { l with rest := some { target := n, elapsed := 0 } }) (ready tally0 State.reset)
    ((s 0).line 0).rest = some { target := 0, elapsed := 0 } ∧ ((s 3).line 0).rest = some { target := 3, elapsed := 0 } ∧
    ((s 3).unit 0).reader = some (.card (card tally0 .awake)) ∧ (card tally0 .awake).power = .awake := by decide +kernel

/-! ## Witnesses: orders and answers -/

def sendingOrder (k : OrderKind) (power : CardPower) : State :=
  withLine (fun l => { l with order := l.order.map fun o => { o with ended := false } })
    (withOrder k false (.read .sequence) (withCard tally0 power State.reset))

theorem test_witness_OrderFrameEndStartsTimeout (k : OrderKind) (power : CardPower) :
    ((sendingOrder k power).unit 0).reader = some (.card (card tally0 power)) ∧
    ∃ o, ((sendingOrder k power).line 0).order = some o ∧ o.kind = k ∧ o.ended = false ∧ o.purpose ≠ .test :=
  ⟨rfl, _, rfl, rfl, rfl, fun h => Purpose.noConfusion h⟩

/-- A frame cut short, one whose check fails, one of a kind that is no card order. -/
theorem test_witness_OrderFrameEndStartsTimeout_spoilt :
    readLineFrame [0#8] = .noFrame ∧ readLineFrame [2#8, 1#8, 3#8, 0#8, 0#8] = .bad ∧
    readLineFrame (lineFrame 0x06#8 []) = .good 0x06#8 [] ∧ 5 < (0x06#8).toNat ∧
    readLineFrame (lineFrame 0x00#8 []) = .good 0x00#8 [] := by decide +kernel

/-- The frame of an echo order over a seated card; a READ TALLY where no card is seated, and where another object is. -/
theorem test_witness_OrderFrameEndStartsTimeout_noCard :
    let e := withLine (fun l => { l with order := l.order.map fun o => { o with ended := false } })
      (testing .echo false (withCard tally0 .unpowered State.reset))
    let s := withLine (fun l => { l with order := l.order.map fun o => { o with ended := false } })
      (withOrder .readTally false (.read .sequence) State.reset)
    (∃ o, (e.line 0).order = some o ∧ o.ended = false ∧ o.purpose = .test ∧ o.kind = .echo) ∧
    (∃ o, (s.line 0).order = some o ∧ o.ended = false ∧ o.purpose ≠ .test) ∧ (s.unit 0).reader = none ∧
    ((s.modUnit 0 fun u => { u with reader := some .other }).unit 0).reader = some .other :=
  ⟨⟨_, rfl, rfl, rfl, rfl⟩, ⟨_, rfl, rfl, fun h => Purpose.noConfusion h⟩, rfl, rfl⟩

theorem test_witness_WakeAnswerReadsHeader :
    let s := withOrder .wake false .firstWake (identifying 1 .waking none
      (withCard tally0 (.working .wake true 0) State.reset))
    (s.line 0).order.map (·.kind) = some .wake ∧ (s.line 0).order.map (·.purpose) = some .firstWake ∧
    (s.line 0).state = .identifying ∧ (s.line 0).contact = .waking ∧ (s.unit 0).seq.isSome = true ∧ s.mayBegin 0 = true ∧
    (s.unit 0).reader = some (.card (card tally0 (.working .wake true 0))) ∧ 0x5D#8 ≠ 0x5C#8 := by decide +kernel

/-- A WAKE in front of a read and of a write request, in a call and in latch completion, with all channels held or free. -/
theorem test_witness_WakeAnswerReadsHeader_order (purpose : Purpose) :
    let c := withOrder .wake false purpose (withLine (fun l => { l with contact := .waking })
      (withCard tally0 (.working .wake true 20) (working 0 (some (Step.start 0)) (inCall tally0 100 State.reset))))
    let i := withOrder .wake false purpose ((identifying 9 .waking (some header)
      (withCard tally0 (.working .wake true 20) State.reset)).modUnit 0 fun u =>
        { u with seq := u.seq.map fun q => { q with tally := some { digits := digits 7 1 0 0, latch := 1 } } })
    (∃ o, (c.line 0).order = some o ∧ o.kind = .wake ∧ o.purpose = purpose) ∧ (c.line 0).contact = .waking ∧
    c.restart = .none ∧ (c.unit 0).wait = none ∧ (c.line 0).state = .inCall ∧ (c.ctx 0).state = .openCall ∧
    (c.ctx 0).queue.length = 1 ∧ (c.unit 0).work.bind (·.step) = some (Step.start 0) ∧
    (c.ctx 0).image = some (image tally0) ∧
    (c.unit 0).reader = some (.card (card tally0 (.working .wake true 20))) ∧ c.arbiter.held = [] ∧
    c.arbiter.waiting = [] ∧ c.arbiter.granting = true ∧ (channelsHeld c).arbiter.held = fourHolders ∧
    (∃ o, (i.line 0).order = some o ∧ o.kind = .wake ∧ o.purpose = purpose) ∧ (i.line 0).state = .identifying ∧
    (i.unit 0).seq.bind (·.tally) = some { digits := digits 7 1 0 0, latch := 1 } ∧
    (i.unit 0).reader = some (.card (card tally0 (.working .wake true 20))) :=
  ⟨⟨_, rfl, rfl, rfl⟩, rfl, rfl, rfl, rfl, rfl, rfl, rfl, rfl, rfl, rfl, rfl, rfl, rfl, ⟨_, rfl, rfl, rfl⟩, rfl, rfl, rfl⟩

/-- Position 0 waits for the answer to READ HEAD, with the series table and block list given. -/
def reading (e : Option SeriesFields) (bs : List Range) : State :=
  withBlocks bs ((withOrder .readHead false (.read .sequence) (identifying 2 .powered none
    (withCard tally0 (.working .readHead true 0) State.reset))).writeSeries 15 e)

theorem test_witness_HeaderAnswerChecksCard :
    let s := reading (some entry) []
    (s.line 0).order.map (·.kind) = some .readHead ∧ (s.line 0).order.map (·.purpose) = some (.read .sequence) ∧
    (s.line 0).state = .identifying ∧ (s.line 0).contact = .powered ∧ (s.unit 0).seq.map (·.step) = some 2 ∧
    (s.unit 0).seq.map (·.reread) = some false ∧ s.mayBegin 0 = true ∧
    (s.unit 0).reader = some (.card (card tally0 (.working .readHead true 0))) ∧
    crc (headerSpan header) = header.check ∧ crc (headerSpan { header with issued := 101#16 }) ≠ header.check ∧
    seriesEntry s.working.series header.id.series = some entry ∧ entry.accepting = true ∧
    blocked s.working.blocks header.id = false ∧ (¬ ∃ x, x ≠ 0 ∧ (s.unit x).held = some header.id) ∧
    seriesEntry (reading none []).working.series header.id.series = none ∧
    blocked (reading (some entry) [range 42 42]).working.blocks header.id = true ∧
    (∃ x, x ≠ 0 ∧ ((s.modUnit 31 fun u => { u with held := some header.id }).unit x).held = some header.id) ∧
    seriesEntry (reading (some { entry with weight := 101#8 }) []).working.series header.id.series =
      some { entry with weight := 101#8 } ∧ header.issued.toNat ≤ entry.maxIssued.toNat := by
  decide +kernel

/-- Position 0 waits for the answer to READ TALLY at step 7, its card with the tally given. -/
def readingTally (t : Tally) : State :=
  withOrder .readTally false (.read .sequence) (identifying 7 .powered (some header)
    (withCard t (.working .readTally true 0) State.reset))

theorem test_witness_TallyAnswerEndsSequence (t : Tally) :
    ((readingTally t).line 0).order.map (·.kind) = some .readTally ∧
    ((readingTally t).line 0).order.map (·.purpose) = some (.read .sequence) ∧
    ((readingTally t).line 0).state = .identifying ∧ ((readingTally t).line 0).contact = .powered ∧
    ((readingTally t).unit 0).seq.bind (·.header) = some header ∧ (readingTally t).mayBegin 0 = true ∧
    ((readingTally t).unit 0).reader = some (.card (card t (.working .readTally true 0))) :=
  ⟨rfl, rfl, rfl, rfl, rfl, rfl, rfl⟩

/-- C one below, at and one above the issued 100 units; a latch with every channel held and with all free; a PENDING entry
of the card, with room for its record and with none. -/
theorem test_witness_TallyAnswerEndsSequence_clauses :
    Tally.consumption { digits := digits 3 4 1 0, latch := 0 } = 99 ∧
    Tally.consumption { digits := digits 4 4 1 0, latch := 0 } = header.issued.toNat ∧
    Tally.consumption { digits := digits 5 4 1 0, latch := 0 } = 101 ∧
    (channelsHeld (readingTally { digits := digits 7 1 0 0, latch := 1 })).arbiter.held.length = 4 ∧
    (∀ x ∈ fourHolders, x.position ≠ 0) ∧ (readingTally tally0).arbiter.held = [] ∧
    (readingTally tally0).arbiter.waiting = [] ∧ (readingTally tally0).arbiter.granting = true ∧
    (withDoubts [doubt 1 none] (readingTally tally0)).retained.pendingEntry header.id = some (doubt 1 none) ∧
    (manyRecords 64 (readingTally tally0)).retained.records.length = 64 ∧
    (∀ x ∈ [doubt 1 none], x.creation = 1 → x = doubt 1 none) ∧
    (readingTally tally0).retained.pendingEntry header.id = none := by decide +kernel

/-- The verify read of a latch completion: confirmed with C below, at and above the issued units, unchanged below and at
the limit of two sends, mismatched. -/
theorem test_witness_TallyAnswerEndsSequence_latch :
    let latched : Tally := { digits := digits 7 3 1 0, latch := 1 }
    let f : InFlight := { kind := .restage, stage := 1, before := latched }
    let verify (sends : Nat) (t : Tally) : State :=
      (((readingTally t).modUnit 0 fun u =>
        { u with
          line := { u.line with order := u.line.order.map fun o => { o with purpose := .read .verify } }
          terms := some { weight := 10, retries := 1, maxIssued := 200 }
          seq := u.seq.map fun q => { q with step := 9, tally := some latched, sends := sends } })).modCtx 0 fun c =>
        { c with field := some f }
    let s := verify 1 { digits := digits 0 3 1 0, latch := 0 }
    (s.line 0).order.map (·.purpose) = some (.read .verify) ∧ (s.line 0).order.map (·.kind) = some .readTally ∧
    (s.line 0).state = .identifying ∧ (s.line 0).contact = .powered ∧ (s.unit 0).seq.bind (·.tally) = some latched ∧
    (s.unit 0).seq.bind (·.header) = some header ∧ (s.unit 0).terms.isSome = true ∧ (s.ctx 0).field = some f ∧
    s.mayBegin 0 = true ∧ s.arbiter.held = [] ∧ s.arbiter.waiting = [] ∧
    judge f { digits := digits 0 3 1 0, latch := 0 } = .confirmed ∧ (s.unit 0).seq.map (·.sends) = some 1 ∧
    ((verify 2 latched).unit 0).seq.map (·.sends) = some 2 ∧ judge f latched = .unchanged ∧
    judge f { digits := digits 7 4 1 0, latch := 1 } = .mismatched ∧
    Tally.consumption { digits := digits 0 3 1 0, latch := 0 } < header.issued.toNat := by decide +kernel

/-- The RESTAGE of latch completion, which the card takes and which it refuses, and the READ TALLY after the refusal. -/
theorem test_witness_TallyAnswerEndsSequence_write (owed : Bool) :
    let latched : Tally := { digits := digits 7 3 1 0, latch := 1 }
    let i := identifying 9 .powered (some header) State.reset
    let s := withOrder .restage false .write (withCard latched (.working (.restage 1#8) true 15) i)
    let x := withOrder .restage false .write (withCard tally0 (.working (.restage 1#8) true 15) i)
    let r := withOrder .readTally false (.read (.refusal owed)) (withCard tally0 (.working .readTally true 4) i)
    (s.line 0).state = .identifying ∧ (s.line 0).contact = .powered ∧ s.restart = .none ∧ s.arbiter.lawful ∧
    (∃ o, (s.line 0).order = some o ∧ o.kind = .restage ∧ o.purpose = .write) ∧
    (s.unit 0).reader = some (.card (card latched (.working (.restage 1#8) true 15))) ∧
    restageRefusal 1#8 latched = none ∧ restageRefusal 1#8 tally0 ≠ none ∧
    (x.unit 0).reader = some (.card (card tally0 (.working (.restage 1#8) true 15))) ∧ x.arbiter.lawful ∧
    (r.line 0).state = .identifying ∧ (r.line 0).contact = .powered ∧ r.restart = .none ∧
    (∃ o, (r.line 0).order = some o ∧ o.kind = .readTally ∧ o.purpose = .read (.refusal owed)) ∧
    (r.unit 0).reader = some (.card (card tally0 (.working .readTally true 4))) :=
  ⟨rfl, rfl, rfl, ⟨Nat.zero_le 4, List.nodup_nil⟩, ⟨_, rfl, rfl, rfl⟩, rfl, by decide, by decide, rfl,
    ⟨Nat.zero_le 4, List.nodup_nil⟩, rfl, rfl, rfl, ⟨_, rfl, rfl, rfl⟩, rfl⟩

/-- A call's write with its verify read in flight, after so many sends. -/
def verifying (kind : WriteKind) (stage : Stage) (sends : Nat) (before read : Tally) : State :=
  withOrder .readTally false (.read .verify) ((working 0
    (some { Step.start stage with awaited := kind, sends := sends, begun := true })
    (withCard read (.working .readTally true 4) (inCall before 50 State.reset))).modCtx 0 fun c =>
      { c with field := some { kind := kind, stage := stage, before := before } })

/-- A carry's BURN 1 that has taken, a single BURN 0, the RESTAGE of the carry; each unchanged; a bare latch. -/
theorem test_witness_ConfirmedBurnCounts :
    let before : Tally := { digits := digits 7 2 0 0, latch := 0 }
    let burned : Tally := { digits := digits 7 3 0 0, latch := 1 }
    let s := verifying .burn 1 1 before burned
    (s.line 0).order.map (·.kind) = some .readTally ∧ (s.line 0).order.map (·.purpose) = some (.read .verify) ∧
    (s.line 0).state = .inCall ∧ (s.ctx 0).state = .openCall ∧ s.mayBegin 0 = true ∧ (s.line 0).contact = .powered ∧
    (s.ctx 0).field = some { kind := .burn, stage := 1, before := before } ∧ (s.ctx 0).image.isSome = true ∧
    (s.ctx 0).queue.length = 1 ∧ (s.unit 0).work.bind (·.step) =
      some { Step.start 1 with awaited := .burn, sends := 1, begun := true } ∧ (Step.start 1).carry = true ∧
    (s.unit 0).reader = some (.card (card burned (.working .readTally true 4))) ∧
    s.arbiter.held = [] ∧ s.arbiter.waiting = [] ∧ s.arbiter.granting = true ∧ (s.ctx 0).retries = 1 ∧
    judge { kind := .burn, stage := 1, before := before } burned = .confirmed ∧ (Step.start 0).carry = false ∧
    judge { kind := .burn, stage := 0, before := tally0 } { digits := digits 1 0 0 0, latch := 0 } = .confirmed ∧
    judge { kind := .restage, stage := 1, before := burned } { digits := digits 0 3 0 0, latch := 0 } = .confirmed ∧
    judge { kind := .burn, stage := 1, before := before } before = .unchanged ∧
    judge { kind := .restage, stage := 1, before := burned } burned = .unchanged ∧
    judge { kind := .burn, stage := 1, before := before } { before with latch := 1 } = .mismatched ∧ before.latch = 0 ∧
    ((verifying .burn 1 2 before before).unit 0).work.bind (·.step) =
      some { Step.start 1 with awaited := .burn, sends := 2, begun := true } := by decide +kernel

/-- A confirmed BURN 0 that leaves a step to do, that is the last of three needed, that is the last of two planned where
three are needed; behind the head nothing, a charge the credit covers, and one more that it does not; the same in
CLOSING. -/
theorem test_witness_ConfirmedBurnCounts_settled :
    let s := verifying .burn 0 1 tally0 { digits := digits 1 0 0 0, latch := 0 }
    let free : List Charge := [{ tag := 6#8, pulses := 3, steps := 0 }]
    let late : List Charge := [{ tag := 7#8, pulses := 100, steps := 0 }]
    let last := withHead 2 (free ++ late) s
    let short := (withHead 1 [] s).modUnit 0 fun u => { u with work := u.work.map fun w => { w with planned := 2 } }
    let x := closing (withHead 2 [] s)
    judge { kind := .burn, stage := 0, before := tally0 } { digits := digits 1 0 0 0, latch := 0 } = .confirmed ∧
    (s.ctx 0).field = some { kind := .burn, stage := 0, before := tally0 } ∧
    (s.unit 0).work.bind (·.step) = some { Step.start 0 with awaited := .burn, sends := 1, begun := true } ∧
    (Step.start 0).carry = decide ((0 : Stage) ≠ 0) ∧ (s.ctx 0).state = .openCall ∧
    (s.unit 0).work.map (·.planned) = some 3 ∧ (s.unit 0).work.map (·.needed) = some 3 ∧ (s.ctx 0).queue.length = 1 ∧
    0 + 1 < 3 ∧ (last.ctx 0).queue = { tag := 5#8, pulses := 25, steps := 2 } :: (free ++ late) ∧ 3 ≤ 2 + 1 ∧
    (free ++ late).length ≤ 3 ∧ (∀ y ∈ free ++ late, y.steps = 0) ∧ 1 ≤ (last.ctx 0).weight ∧
    (free.map (·.pulses)).sum ≤ 4 + 3 * 10 - 25 ∧ 4 + 3 * 10 - 25 - (free.map (·.pulses)).sum < 100 ∧
    1 ≤ (last.ctx 0).balance - 1 ∧ (short.unit 0).work.map (·.planned) = some 2 ∧
    (short.ctx 0).queue = [{ tag := 5#8, pulses := 25, steps := 1 }] ∧ (1 : Nat) + 1 ≠ 3 ∧
    (x.ctx 0).state = .closing ∧ (x.ctx 0).queue = [{ tag := 5#8, pulses := 25, steps := 2 }] ∧ x.mayBegin 0 = true ∧
    (x.line 0).state = .inCall := by decide +kernel

/-- A BURN and a RESTAGE that the card takes. -/
theorem test_witness_ConfirmedBurnCounts_done :
    let latched : Tally := { digits := digits 7 3 0 0, latch := 1 }
    let call (t : Tally) (power : CardPower) := working 0 (some (Step.start 0)) (withCard t power (inCall t 50 State.reset))
    let b := withOrder .burn false .write (call tally0 (.working (.burn 0#8) true 8))
    let r := withOrder .restage false .write (call latched (.working (.restage 1#8) true 15))
    burnRefusal 0#8 tally0 = none ∧ restageRefusal 1#8 latched = none ∧
    (b.unit 0).reader = some (.card (card tally0 (.working (.burn 0#8) true 8))) ∧ cardAnswerMs (.burn 0#8) = 8 ∧
    (b.line 0).order.map (·.kind) = some .burn ∧ (b.line 0).order.map (·.purpose) = some .write ∧ b.arbiter.lawful ∧
    b.mayBegin 0 = true ∧ (b.ctx 0).image.isSome = true ∧ (b.ctx 0).queue.length = 1 ∧
    (b.unit 0).work.bind (·.step) = some (Step.start 0) ∧
    (r.unit 0).reader = some (.card (card latched (.working (.restage 1#8) true 15))) ∧
    cardAnswerMs (.restage 1#8) = 15 ∧ (r.line 0).order.map (·.kind) = some .restage ∧ r.arbiter.lawful ∧
    ((closing b).ctx 0).state = .closing := by
  unfold Arbiter.lawful; decide +kernel

/-- A BURN and a RESTAGE that the card refuses, and the READ TALLY after a refusal. -/
theorem test_witness_ConfirmedBurnCounts_refused (owed : Bool) :
    let call (power : CardPower) := working 0 (some (Step.start 0)) (withCard tally0 power (inCall tally0 50 State.reset))
    let b := withOrder .burn false .write (call (.working (.burn 1#8) true 8))
    let r := withOrder .restage false .write (call (.working (.restage 1#8) true 15))
    let t := withOrder .readTally false (.read (.refusal owed)) (call (.working .readTally true 4))
    (b.unit 0).reader = some (.card (card tally0 (.working (.burn 1#8) true 8))) ∧ burnRefusal 1#8 tally0 ≠ none ∧
    cardAnswerMs (.burn 1#8) = 8 ∧ b.arbiter.lawful ∧ b.mayBegin 0 = true ∧
    (r.unit 0).reader = some (.card (card tally0 (.working (.restage 1#8) true 15))) ∧ restageRefusal 1#8 tally0 ≠ none ∧
    cardAnswerMs (.restage 1#8) = 15 ∧ (t.line 0).order.map (·.purpose) = some (.read (.refusal owed)) ∧
    (t.ctx 0).field = none ∧ t.mayBegin 0 = true :=
  ⟨rfl, by decide, rfl, ⟨Nat.zero_le 4, List.nodup_nil⟩, rfl, rfl, by decide, rfl, rfl, rfl, rfl⟩

/-- Each purpose at a first attempt and at a retry, in a call and in an identification, with the contacts POWERED and at
REST. -/
theorem test_witness_AnswerTimeoutRetriesOrFaults (k : OrderKind) (retry : Bool) (purpose : Purpose) :
    let s := withOrder k retry purpose (inCall tally0 100 State.reset)
    let i := withOrder k retry purpose (identifying 1 .waking none State.reset)
    (∃ o, (s.line 0).order = some o ∧ o.ended = true ∧ o.retry = retry ∧ o.purpose = purpose) ∧ s.restart = .none ∧
    s.arbiter.lawful ∧ (s.line 0).contact = .powered ∧ (s.line 0).state = .inCall ∧
    ((withLine (fun l => { l with contact := .rest }) s).line 0).contact = .rest ∧
    (∃ o, (i.line 0).order = some o ∧ o.ended = true ∧ o.retry = retry ∧ o.purpose = purpose) ∧ i.restart = .none ∧
    i.arbiter.lawful ∧ (i.line 0).state = .identifying :=
  ⟨⟨_, rfl, rfl, rfl, rfl⟩, rfl, ⟨Nat.zero_le 4, List.nodup_nil⟩, rfl, rfl, rfl, ⟨_, rfl, rfl, rfl, rfl⟩, rfl,
    ⟨Nat.zero_le 4, List.nodup_nil⟩, rfl⟩

/-- A write that holds a channel while position 5 waits, POWERED or at REST; a bad frame, a malformed tally, no frame, a
frame of another kind. -/
theorem test_witness_AnswerTimeoutRetriesOrFaults_clauses :
    let write := withOrder .burn false .write (inCall tally0 100 State.reset)
    let a : Arbiter := { held := [{ position := 0, kind := .burn, stage := 0 }, { position := 1, kind := .burn, stage := 0 }]
                         waiting := [{ position := 5, kind := .burn, stage := 0, requester := .chargeProcessor }]
                         granting := true }
    let s : State := { write.modCtx 5 fun c => { c with image := some (image tally0) } with arbiter := a }
    s.arbiter.lawful ∧ (s.line 0).order.map (·.purpose) = some .write ∧ (∃ x ∈ s.arbiter.held, x.position = 0) ∧
    (s.ctx 5).image.map (·.tally) = some tally0 ∧ (s.line 5).contact ≠ .powered ∧
    ((s.modLine 5 fun l => { l with contact := .powered }).line 5).contact = .powered ∧
    readLineFrame [2#8, 1#8, 3#8, 0#8, 0#8] = .bad ∧
    readLineFrame (lineFrame 0x03#8 [0#8, 8#8, 0#8, 0#8, 0#8, 0#8]) = .good OrderKind.readTally.code
      [0#8, 8#8, 0#8, 0#8, 0#8, 0#8] ∧ ¬ (8#8).toNat < 8 ∧
    readLineFrame [3#8] = .noFrame ∧ readLineFrame (lineFrame 0x04#8 [0#8]) = .good 0x04#8 [0#8] ∧
    0x04#8 ≠ OrderKind.readTally.code := by
  unfold Arbiter.lawful; decide +kernel

/-- The verify read of a call's BURN, and of its RESTAGE, at its retry, with room in the doubt list and with none; a card that
works that read, and one that works a RESTAGE. -/
theorem test_witness_AnswerTimeoutRetriesOrFaults_verify :
    let s := withOrder .readTally true (.read .verify) (burning 0 tally0 (working 0 (some (Step.start 0))
      (withCard tally0 (.working .readTally true 0) (inCall tally0 100 State.reset))))
    let r := s.modCtx 0 fun c => { c with field := c.field.map fun f => { f with kind := .restage } }
    (∃ o, (s.line 0).order = some o ∧ o.kind = .readTally ∧ o.ended = true ∧ o.retry = true ∧
      o.purpose = .read .verify) ∧
    s.restart = .none ∧ s.arbiter.lawful ∧ (s.line 0).state = .inCall ∧ (s.ctx 0).state ≠ .noCall ∧
    (s.ctx 0).field = some { kind := .burn, stage := 0, before := tally0 } ∧ (s.ctx 0).queue ≠ [] ∧
    (s.unit 0).work.isSome = true ∧ s.retained.doubts.length < 48 ∧
    (withDoubts (List.replicate 48 (doubt 1 none)) s).retained.doubts.length = 48 ∧
    (r.ctx 0).field = some { kind := .restage, stage := 0, before := tally0 } ∧
    (s.unit 0).reader = some (.card (card tally0 (.working .readTally true 0))) ∧
    ((withCard tally0 (.working (.restage 1#8) true 10) s).unit 0).reader =
      some (.card (card tally0 (.working (.restage 1#8) true 10))) :=
  ⟨⟨_, rfl, rfl, rfl, rfl, rfl⟩, rfl, ⟨Nat.zero_le 4, List.nodup_nil⟩, rfl, by decide, rfl, by decide, rfl, by decide,
    by decide +kernel, rfl, rfl, rfl⟩

/-! ## Witnesses: cards, and the laws -/

/-- A refused and an accepted order of each kind; each refusal; a stage that is not 0; a card cut at work, whose BURN had
reached its cell, and one cut awake. -/
theorem test_witness_CardWriteForms :
    burnRefusal 4#8 tally0 ≠ none ∧ restageRefusal 0#8 tally0 ≠ none ∧ burnRefusal (stageByte 0) tally0 = none ∧
    burnRefusal (stageByte 3) { digits := digits 7 7 7 6, latch := 0 } = none ∧
    restageRefusal (stageByte 3) { digits := digits 7 7 7 7, latch := 3 } = none ∧ (3 : Stage) ≠ 0 ∧ 3 < (4#8).toNat ∧
    burnRefusal (stageByte 3) { digits := digits 7 7 7 7, latch := 3 } = some .latchSet ∧
    burnRefusal (stageByte 3) { digits := digits 7 7 7 7, latch := 0 } = some .stageFull ∧
    burnRefusal (stageByte 3) { digits := digits 7 7 6 0, latch := 0 } = some .lowerNotFull ∧
    restageRefusal (stageByte 2) { digits := digits 7 7 7 7, latch := 3 } = some .noLatch ∧
    (card tally0 (.working (.burn 0#8) true 3)).power = .working (.burn 0#8) true 3 ∧
    (cardCut 1 (card tally0 (.working (.burn 0#8) true 3))).tally = { digits := digits 1 0 0 0, latch := 0 } ∧
    (∀ (x : CardOrder) (takes : Bool) (m : Nat), (card tally0 .awake).power ≠ .working x takes m) := by
  refine ⟨by decide, by decide, by decide, by decide, by decide, by decide, by decide, by decide, by decide, by decide,
    by decide, by decide, by decide, fun x takes m h => by cases h⟩

theorem test_witness_link : State.reset.linkLawful ∧ State.reset.noticesOnce ∧
    State.reset.requestsHeld ≤ State.reset.link.outstanding ∧ State.reset.quietLawful ∧
    State.reset.retained.queuesLawful := by
  unfold State.linkLawful State.noticesOnce State.quietLawful Retained.queuesLawful; decide +kernel

theorem test_witness_channels : (channelsHeld State.reset).arbiter.lawful ∧
    (withOrder .burn false .write { State.reset with
      arbiter := { held := [{ position := 0, kind := .burn, stage := 0 }], waiting := [], granting := true } }).writersHold := by
  unfold Arbiter.lawful State.writersHold; decide +kernel

theorem test_room_lawful : (inCall tally0 100 State.reset).retained.roomLawful := by
  refine ⟨by decide +kernel, by decide +kernel, fun r => ?_⟩
  have hr : (inCall tally0 100 State.reset).retained.reservations = [{ position := 0, callId := 1 }] := rfl
  rw [hr, List.mem_singleton]
  have h : ∀ p : Pos, ((inCall tally0 100 State.reset).retained.ctx p).state ≠ .noCall →
      p = 0 ∧ ((inCall tally0 100 State.reset).retained.ctx p).callId = 1 := by decide +kernel
  obtain ⟨p, n⟩ := r
  constructor
  · intro h1
    cases h1
    exact ⟨by decide +kernel, by decide +kernel⟩
  · rintro ⟨h1, h2⟩
    obtain ⟨h3, h4⟩ := h p h1
    subst h3
    simp only at h2
    rw [← h2, h4]

theorem test_witness_retained : (inCall tally0 100 State.reset).retained.roomLawful ∧
    (inCall tally0 100 State.reset).retained.countsLawful ∧ (inCall tally0 100 State.reset).retained.queuesLawful :=
  ⟨test_room_lawful, by unfold Retained.countsLawful; decide +kernel, by unfold Retained.queuesLawful; decide +kernel⟩

theorem test_witness_tables : (withEntry State.reset).tablesLawful ∧ (ready tally0 State.reset).presentSetLawful ∧
    (inCall tally0 100 (got .close 0#8)).termsLawful := by
  refine ⟨⟨⟨⟨by decide, (by intro r h; cases h), List.Pairwise.nil⟩, ?_⟩, ⟨⟨by decide, (by intro r h; cases h), List.Pairwise.nil⟩, ?_⟩,
    (by intro x h; cases h)⟩, ?_, test_terms_lawful _ _ _⟩
  · have h : ∀ i : Fin 16, ((withEntry State.reset).working.series[i.val]'i.isLt).isSome = true → i = 0 := by decide +kernel
    intro i j a b ha hb _
    rw [h i (by rw [ha]; rfl), h j (by rw [hb]; rfl)]
  · have h : ∀ i : Fin 16, ((withEntry State.reset).stored.series[i.val]'i.isLt).isSome = false := by decide +kernel
    intro i j a b ha
    have := h i
    rw [ha] at this
    cases this
  · have h : ∀ p : Pos, ((ready tally0 State.reset).unit p).held.isSome = true → p = 0 := by decide +kernel
    intro p q i hp hq
    rw [h p (by rw [hp]; rfl), h q (by rw [hq]; rfl)]

end Sys2Proof.Tests
end

namespace Sys2Proof.Machine

/-! ## What a command of this family runs -/

theorem exec_mainSupplyLoss (points : List Nat) (s : State) :
    exec (.mainSupplyLoss points) s = .next (s.doMainSupplyLoss points) := rfl

theorem exec_loopCurrentChange (p : Pos) (change : LoopChange) (s : State) :
    exec (.loopCurrentChange p change) s = .next (s.doLoopCurrentChange p change) := rfl

theorem exec_orderFrameEnd (p : Pos) (passage : Passage) (takes : Bool) (s : State) :
    exec (.orderFrameEnd p passage takes) s = .next (s.doOrderFrameEnd p passage takes) := rfl

theorem exec_answerFrame (p : Pos) (a : Arrival) (s : State) :
    exec (.answerFrame p a) s = .next (s.doAnswerFrame p a) := rfl

theorem exec_answerTimeout (p : Pos) (s : State) :
    exec (.answerTimeout p) s = .next (s.doAnswerTimeout p) := rfl

/-! ## All units rewritten, and one unit written twice -/

theorem unit_map (s : State) (f : Position → Position) (p : Pos) :
    ({ s with units := s.units.map f } : State).unit p = f (s.unit p) := by
  simp [State.unit]

theorem modUnit_modUnit (s : State) (p : Pos) (f g : Position → Position) :
    (s.modUnit p f).modUnit p g = s.modUnit p fun u => g (f u) := by
  simp [State.modUnit, State.setUnit, State.unit]

/-! ## MAIN_SUPPLY_LOSS -/

theorem doMainSupplyLoss_unit {s : State} (h : s.powered = true) (points : List Nat) (p : Pos) :
    (s.doMainSupplyLoss points).unit p = s.offPosition points p := by
  simp only [State.doMainSupplyLoss, h, if_true]
  simp [State.unit]

theorem offPosition_reader (s : State) (points : List Nat) (p : Pos) :
    (s.offPosition points p).reader = (s.unit p).reader.map (seatedCut (points.getD p.val 0)) := rfl

/-- Settles O8: of a loss of main supply with the supply on, each field is read off the state it leaves, and a reader
holds what the off position holds. -/
theorem mainSupplyLossKeepsRetained : Obligations.MainSupplyLossKeepsRetained := by
  unfold Obligations.MainSupplyLossKeepsRetained
  intro points s
  constructor
  · intro h
    refine ⟨s.doMainSupplyLoss points, exec_mainSupplyLoss points s, ?_⟩
    have reader (p : Pos) : ((s.doMainSupplyLoss points).unit p).reader =
        (s.unit p).reader.map (seatedCut (points.getD p.val 0)) := by
      rw [doMainSupplyLoss_unit h, offPosition_reader]
    refine ⟨?_, ?_, ?_, ?_, ?_, ?_, ?_, ?_, ?_, ?_, ?_⟩
    case refine_10 => intro p c hc; rw [reader, hc]; rfl
    case refine_11 => intro p hp; rw [reader, hp]; rfl
    all_goals simp [State.doMainSupplyLoss, h, Link.start]
  · intro h
    simp [exec_mainSupplyLoss, State.doMainSupplyLoss, h]

/-! ## LOOP_CURRENT_CHANGE -/

theorem cardCut_unpowered {c : Card} (h : c.power = .unpowered) (n : Nat) : cardCut n c = c := by
  obtain ⟨header, tally, power⟩ := c
  cases h
  rfl

/-- Contact power taken off where no card has power changes the line alone. -/
theorem contactOff_of_unpowered {s : State} {p : Pos}
    (h : ∀ c : Card, (s.unit p).reader = some (.card c) → c.power = .unpowered) (k : Contact) :
    s.contactOff p k = s.modLine p fun l => { l with contact := k, rest := none } := by
  unfold State.contactOff
  dsimp only
  split
  · rename_i c hc
    have hp := h c hc
    simp only [hp, cardCut_unpowered hp, ← hc]
    rfl
  · rfl

/-- A position is written after the object in its reader was exchanged. -/
theorem modLine_of_seated (s : State) (p : Pos) (u : Position) (out : List Card) (f : LineUnit → LineUnit) :
    ({ s.setUnit p u with cardsOut := out } : State).modLine p f =
      { s.setUnit p { u with line := f u.line } with cardsOut := out } := by
  simp [State.modLine, State.modUnit, State.setUnit, State.unit]

theorem doLoopCurrentChange_stops {s : State} {p : Pos} {x : Seated} (hs : s.powered = true)
    (hx : (s.unit p).reader = some x) (point : Nat) :
    s.doLoopCurrentChange p (.stops point) =
      { s.setUnit p { s.unit p with reader := none, line := (s.line p).currentStops } with
        cardsOut := drawn point x ++ s.cardsOut } := by
  simp only [State.doLoopCurrentChange, hx]
  exact (if_pos hs).trans (modLine_of_seated s p _ _ _)

/-- A break in loop current that was no removal ends as R25 says (`blinkEnd`), written for the line alone. -/
def LineUnit.blinkEnd (l : LineUnit) : LineUnit :=
  if l.present = true ∧ (l.contact = .waking ∨ l.contact = .powered) then { l with contact := .rest, rest := none }
  else l

theorem blinkEnd_of_unpowered {s : State} {p : Pos}
    (h : ∀ c : Card, (s.unit p).reader = some (.card c) → c.power = .unpowered) :
    s.blinkEnd p = s.modLine p LineUnit.blinkEnd := by
  unfold State.blinkEnd
  by_cases hb : (s.line p).present = true ∧ ((s.line p).contact = .waking ∨ (s.line p).contact = .powered)
  · have e : s.modLine p LineUnit.blinkEnd = s.modLine p fun l => { l with contact := .rest, rest := none } := by
      have e' : (s.line p).blinkEnd = { s.line p with contact := .rest, rest := none } := if_pos hb
      exact congrArg (fun l => s.setUnit p { s.unit p with line := l }) e'
    rw [e]
    exact (if_pos hb).trans (contactOff_of_unpowered h .rest)
  · have e' : (s.line p).blinkEnd = s.line p := if_neg hb
    have e : s.modLine p LineUnit.blinkEnd = s := by
      calc s.modLine p LineUnit.blinkEnd = s.setUnit p { s.unit p with line := s.line p } :=
            congrArg (fun l => s.setUnit p { s.unit p with line := l }) e'
        _ = s := congrArg (fun v => { s with units := v }) (setUnit_self s p)
    rw [e]
    exact if_neg hb

theorem doLoopCurrentChange_starts {s : State} {p : Pos} {y : Seating} {x : Seated} {out : List Card}
    (hs : s.powered = true) (hr : (s.unit p).reader = none) (hy : s.seating y = some (x, out))
    (hx : ∀ c : Card, x = .card c → c.power = .unpowered) :
    s.doLoopCurrentChange p (.starts y) =
      { s.setUnit p { s.unit p with reader := some x, line := (s.line p).blinkEnd.currentStarts } with
        cardsOut := out } := by
  have seat : ∀ c : Card,
      (({ s.modUnit p (fun u => { u with reader := some x }) with cardsOut := out } : State).unit p).reader =
        some (.card c) → c.power = .unpowered := by
    intro c hc
    have hread : (s.modUnit p fun u => { u with reader := some x }).unit p = { s.unit p with reader := some x } :=
      unit_modUnit s p _
    exact hx c (Option.some.inj ((congrArg Position.reader hread).symm.trans hc))
  simp only [State.doLoopCurrentChange, hr, hy]
  refine (if_pos hs).trans ?_
  rw [blinkEnd_of_unpowered seat]
  exact (congrArg (State.modLine · p LineUnit.currentStarts) (modLine_of_seated s p _ out LineUnit.blinkEnd)).trans
    (modLine_of_seated s p _ out LineUnit.currentStarts)

/-- Settles O42: where loop current stops by what the reader holds, and where it starts by presence and contacts. -/
theorem loopCurrentSensed : Obligations.LoopCurrentSensed := by
  unfold Obligations.LoopCurrentSensed
  intro s p hs
  constructor
  · intro point x hx
    rw [exec_loopCurrentChange, doLoopCurrentChange_stops hs hx]
    cases x <;> rfl
  · intro y x out hr hy hx
    have run := doLoopCurrentChange_starts hs hr hy hx
    have line {l : LineUnit} (hl : (s.line p).blinkEnd.currentStarts = l) :
        exec (.loopCurrentChange p (.starts y)) s =
          .next { s.setUnit p { s.unit p with reader := some x, line := l } with cardsOut := out } := by
      rw [exec_loopCurrentChange, run, hl]
    refine ⟨fun hp => line ?_, fun hp hc => line ?_, fun hp hc => line ?_⟩
    · simp [LineUnit.blinkEnd, LineUnit.currentStarts, hp]
    · rcases hc with hc | hc <;> simp [LineUnit.blinkEnd, LineUnit.currentStarts, hp, hc]
    · rcases hc with hc | hc <;> simp [LineUnit.blinkEnd, LineUnit.currentStarts, hp, hc]

end Sys2Proof.Machine

namespace Sys2Proof.Machine

/-! ## ORDER_FRAME_END: what a card makes of a frame -/

/-- The order a card hears in the frame of an order sent intact; none in a test order's (R170). -/
def OrderKind.heard (k : OrderKind) (stage : Stage) : Option CardOrder :=
  match k with
  | .wake => some .wake
  | .readHead => some .readHead
  | .readTally => some .readTally
  | .burn => some (.burn (stageByte stage))
  | .restage => some (.restage (stageByte stage))
  | .echo => none
  | .loopback => none

theorem cardOrderOf_orderFrame (k : OrderKind) (stage : Stage) (pattern : Quad) :
    cardOrderOf (orderFrame k stage pattern) = k.heard stage := by
  cases k <;>
    simp [cardOrderOf, orderFrame, readLineFrame_lineFrame, OrderKind.code, quadBytes, halfBytes, OrderKind.heard]

/-- A frame that came spoilt, or of a kind that is no card order, holds no order (R2, R170). -/
theorem cardOrderOf_eq_none {bs : List Byte}
    (h : readLineFrame bs = .noFrame ∨ readLineFrame bs = .bad ∨
      ∃ kind content, readLineFrame bs = .good kind content ∧ (kind = 0#8 ∨ 5 < kind.toNat)) :
    cardOrderOf bs = none := by
  obtain h | h | ⟨kind, content, h, hk⟩ := h
  · simp [cardOrderOf, h]
  · simp [cardOrderOf, h]
  · simp only [cardOrderOf, h]
    split <;> simp_all

theorem cardHears_awake {bs : List Byte} {o : CardOrder} {c : Card} (ho : cardOrderOf bs = some o)
    (hc : c.power = .awake) (takes : Bool) : cardHears bs takes c = { c with power := .working o takes 0 } := by
  simp [cardHears, ho, hc]

theorem cardHears_asleep_wake {bs : List Byte} {c : Card} (ho : cardOrderOf bs = some .wake)
    (hc : c.power = .asleep) (takes : Bool) : cardHears bs takes c = { c with power := .working .wake takes 0 } := by
  simp [cardHears, ho, hc]

/-- A frame is ignored by a card that is not awake, unless it brings a WAKE to a card asleep (R1, R2). -/
theorem cardHears_ignored {bs : List Byte} {c : Card}
    (h : ∀ o, cardOrderOf bs = some o → c.power ≠ .awake ∧ (o = .wake → c.power ≠ .asleep)) (takes : Bool) :
    cardHears bs takes c = c := by
  unfold cardHears
  split
  · next o ho hp => exact absurd hp (h o ho).1
  · next ho hp => exact absurd hp ((h .wake ho).2 rfl)
  · rfl

/-- A line unit whose order frame has ended (R26). -/
def LineUnit.frameEnded (o : Order) (l : LineUnit) : LineUnit :=
  { l with order := some { o with ended := true, elapsed := 0 } }

/-- The end of an order frame, as the one position it changes: the line unit, and the card but for a test order. -/
theorem doOrderFrameEnd_eq {s : State} {p : Pos} {o : Order} (ho : (s.line p).order = some o) (he : o.ended = false)
    (passage : Passage) (takes : Bool) :
    s.doOrderFrameEnd p passage takes = s.setUnit p { s.unit p with
      line := (s.line p).frameEnded o
      reader := if o.purpose = .test then (s.unit p).reader
        else (s.unit p).reader.map (Seated.onCard (cardHears (heardBytes (s.orderBytes p o) passage) takes)) } := by
  simp only [State.doOrderFrameEnd, ho, he, Bool.false_eq_true, if_false]
  by_cases ht : o.purpose = .test
  · rw [if_pos ht, if_pos ht]; rfl
  · rw [if_neg ht, if_neg ht]
    exact modUnit_modUnit s p _ _

/-- Settles O47: a test order or an empty reader leaves the reader as it was; else by the card's power and what the
frame holds. -/
theorem orderFrameEndStartsTimeout : Obligations.OrderFrameEndStartsTimeout := by
  unfold Obligations.OrderFrameEndStartsTimeout
  constructor
  · intro s p o passage takes ho he hn
    have reader : (if o.purpose = .test then (s.unit p).reader else (s.unit p).reader.map (Seated.onCard
        (cardHears (heardBytes (s.orderBytes p o) passage) takes))) = (s.unit p).reader := by
      split
      · rfl
      · next ht =>
        have hc := hn.resolve_left ht
        cases hr : (s.unit p).reader with
        | none => rfl
        | some x =>
          cases x with
          | card c => exact absurd hr (hc c)
          | other => rfl
    rw [exec_orderFrameEnd, doOrderFrameEnd_eq ho he, reader]
    rfl
  · intro s p o c takes ho he ht hr
    have run (passage : Passage) {x : CardPower}
        (hx : cardHears (heardBytes (s.orderBytes p o) passage) takes c = { c with power := x }) :
        exec (.orderFrameEnd p passage takes) s = .next { s with units := s.units.set p.val { s.unit p with
          reader := some (.card { c with power := x })
          line := { s.line p with order := some { o with ended := true, elapsed := 0 } } } p.isLt } := by
      rw [exec_orderFrameEnd, doOrderFrameEnd_eq ho he, if_neg ht, hr]
      simp only [Option.map_some, Seated.onCard, hx]
      rfl
    have sent : cardOrderOf (heardBytes (s.orderBytes p o) .intact) = o.kind.heard o.stage :=
      cardOrderOf_orderFrame _ _ _
    have ignored (passage : Passage) (h : ∀ x, cardOrderOf (heardBytes (s.orderBytes p o) passage) = some x →
        c.power ≠ .awake ∧ (x = .wake → c.power ≠ .asleep)) := run passage (cardHears_ignored h takes)
    refine ⟨fun hp => ?_, fun hp hk => ?_, fun hp hw he hl => ?_, fun hp he hl => ?_, fun x b n passage hp => ?_,
      fun bs hbs => ?_⟩
    · refine ⟨fun hk => ?_, fun hk => ?_, fun hk => ?_, fun hk => ?_, fun hk => ?_⟩ <;>
        exact run .intact (cardHears_awake (by rw [sent, hk]; rfl) hp takes)
    · exact run .intact (cardHears_asleep_wake (by rw [sent, hk]; rfl) hp takes)
    · rw [← hp]
      refine ignored .intact fun x hx => ⟨by simp [hp], ?_⟩
      rw [sent] at hx
      cases hk : o.kind <;> simp_all [OrderKind.heard]
      all_goals rintro rfl; cases hx
    · rw [← hp]
      exact ignored .intact fun x _ => by simp [hp]
    · rw [← hp]
      exact ignored passage fun y _ => by simp [hp]
    · exact ignored (.altered bs) fun x hx => by
        simp only [heardBytes, cardOrderOf_eq_none hbs] at hx
        cases hx

end Sys2Proof.Machine

namespace Sys2Proof.Machine

/-! ## A millisecond: the commands it brings -/

/-- The commands of the counts of one position that end with this millisecond. -/
def State.endsAt (s : State) (p : Pos) : List Instr := (s.unit p).answerEnds p ++ (s.line p).ends p

theorem dueCommands_eq (s : State) : s.dueCommands = positions.flatMap s.endsAt ++ s.key.ends ++ s.link.ends := rfl

/-- Every command that the counts of a position can bring. -/
def countCommands (p : Pos) : List Instr :=
  [.answerFrame p .answer, .removal p, .insertion p, .restCountExpiry p, .answerTimeout p, .loopbackTimeout p,
    .echoTimeout p]

/-- The position whose count brings a command. -/
def countPos (i : Instr) : Option Pos :=
  match i with
  | .answerFrame p _ => some p
  | .removal p => some p
  | .insertion p => some p
  | .restCountExpiry p => some p
  | .answerTimeout p => some p
  | .loopbackTimeout p => some p
  | .echoTimeout p => some p
  | _ => none

theorem countPos_of_mem {p : Pos} {i : Instr} (h : i ∈ countCommands p) : countPos i = some p := by
  simp only [countCommands, List.mem_cons, List.not_mem_nil, or_false] at h
  rcases h with rfl | rfl | rfl | rfl | rfl | rfl | rfl <;> rfl

theorem nodup_countCommands (p : Pos) : (countCommands p).Nodup := by simp [countCommands]

/-! Each kind of count brings at most its command. -/

theorem answerEnds_sublist (p : Pos) (u : Position) : (u.answerEnds p).Sublist [.answerFrame p .answer] := by
  unfold Position.answerEnds
  split
  · split
    · split <;> simp
    · simp
  · simp

theorem debounceEnds_sublist (p : Pos) (l : LineUnit) : (l.debounceEnds p).Sublist [.removal p, .insertion p] := by
  unfold LineUnit.debounceEnds
  split
  · split
    · split <;> simp
    · simp
  · simp

theorem restEnds_sublist (p : Pos) (l : LineUnit) : (l.restEnds p).Sublist [.restCountExpiry p] := by
  unfold LineUnit.restEnds
  split
  · split <;> simp
  · simp

theorem orderEnds_sublist (p : Pos) (l : LineUnit) :
    (l.orderEnds p).Sublist [.answerTimeout p, .loopbackTimeout p, .echoTimeout p] := by
  unfold LineUnit.orderEnds Order.timeoutCommand
  split
  · split
    · split
      · split <;> simp
      · simp
    · simp
  · simp

theorem keyEnds_sublist (k : Key) : k.ends.Sublist [.keyDebounceExpiry] := by
  unfold Key.ends
  split
  · split <;> simp
  · simp

theorem linkEnds_sublist (l : Link) : l.ends.Sublist [.frameGapTimeout []] := by
  unfold Link.ends
  split <;> simp

theorem endsAt_sublist (s : State) (p : Pos) : (s.endsAt p).Sublist (countCommands p) :=
  (answerEnds_sublist p _).append
    (((debounceEnds_sublist p _).append (restEnds_sublist p _)).append (orderEnds_sublist p _))

theorem mem_positions (p : Pos) : p ∈ positions := List.mem_finRange p

theorem mem_dueCommands {s : State} {i : Instr} :
    i ∈ s.dueCommands ↔ (∃ p, i ∈ s.endsAt p) ∨ i ∈ s.key.ends ∨ i ∈ s.link.ends := by
  simp [dueCommands_eq, mem_positions]

/-- Outside its own position no count brings a command of a position. -/
theorem mem_dueCommands_at {s : State} {i : Instr} {p : Pos} (h : countPos i = some p) :
    i ∈ s.dueCommands ↔ i ∈ s.endsAt p := by
  rw [mem_dueCommands]
  constructor
  · rintro (⟨q, hq⟩ | hk | hl)
    · have hi := countPos_of_mem ((endsAt_sublist s q).subset hq)
      cases h.symm.trans hi
      exact hq
    · cases List.mem_singleton.1 ((keyEnds_sublist s.key).subset hk); cases h
    · cases List.mem_singleton.1 ((linkEnds_sublist s.link).subset hl); cases h
  · exact fun hp => .inl ⟨p, hp⟩

/-- A command that is no position's comes from the key or from the link. -/
theorem mem_dueCommands_part {s : State} {i : Instr} (h : countPos i = none) :
    i ∈ s.dueCommands ↔ i ∈ s.key.ends ∨ i ∈ s.link.ends := by
  rw [mem_dueCommands]
  constructor
  · rintro (⟨q, hq⟩ | hi)
    · cases h.symm.trans (countPos_of_mem ((endsAt_sublist s q).subset hq))
    · exact hi
  · exact .inr

theorem nodup_dueCommands (s : State) : s.dueCommands.Nodup := by
  have places : (positions.flatMap countCommands ++ [Instr.keyDebounceExpiry] ++ [Instr.frameGapTimeout []]).Nodup := by
    have apart : (positions.flatMap countCommands).Nodup := by
      rw [List.nodup_flatMap]
      refine ⟨fun p _ => nodup_countCommands p, (List.nodup_finRange 32).imp fun hpq i hi hj => hpq ?_⟩
      exact Option.some.inj ((countPos_of_mem hi).symm.trans (countPos_of_mem hj))
    have other {i : Instr} (hi : i ∈ positions.flatMap countCommands) : countPos i ≠ none := by
      obtain ⟨p, -, hp⟩ := List.mem_flatMap.1 hi
      simp [countPos_of_mem hp]
    rw [List.append_assoc, List.nodup_append]
    refine ⟨apart, by simp, fun i hi j hj hij => other hi ?_⟩
    subst hij
    simp only [List.cons_append, List.nil_append, List.mem_cons, List.not_mem_nil, or_false] at hj
    rcases hj with rfl | rfl <;> rfl
  rw [dueCommands_eq]
  exact places.sublist (((List.Sublist.flatMap_right positions fun p _ => endsAt_sublist s p).append
    (keyEnds_sublist s.key)).append (linkEnds_sublist s.link))

/-! When each count ends. -/

@[simp] theorem mem_answerEnds {p : Pos} {u : Position} {i : Instr} :
    i ∈ u.answerEnds p ↔ i = .answerFrame p .answer ∧ ∃ (c : Card) (o : CardOrder) (b : Bool) (n : Nat),
      u.reader = some (.card c) ∧ c.power = .working o b n ∧ n + 1 = cardAnswerMs o := by
  constructor
  · intro h
    unfold Position.answerEnds at h
    split at h
    · next c hc =>
      split at h
      · next o b n hp =>
        split at h
        · next hn => exact ⟨by simpa using h, c, o, b, n, hc, hp, by simpa [countDue] using hn⟩
        · cases h
      · cases h
    · cases h
  · rintro ⟨rfl, c, o, b, n, hc, hp, hn⟩
    simp [Position.answerEnds, hc, hp, countDue, hn]

@[simp] theorem mem_debounceEnds {p : Pos} {l : LineUnit} {i : Instr} :
    i ∈ l.debounceEnds p ↔
      (i = .removal p ∧ l.present = true ∧ l.debounce = some 19) ∨
      (i = .insertion p ∧ l.present = false ∧ l.debounce = some 49) := by
  unfold LineUnit.debounceEnds
  cases hd : l.debounce <;> cases hp : l.present <;>
    simp [countDue, LineUnit.debounceMs, hp, Config.removalMs, Config.insertionMs, and_comm]

@[simp] theorem mem_restEnds {p : Pos} {l : LineUnit} {i : Instr} :
    i ∈ l.restEnds p ↔ i = .restCountExpiry p ∧ ∃ c, l.rest = some c ∧ c.elapsed + 1 = c.target * 1000 := by
  unfold LineUnit.restEnds
  cases hr : l.rest with
  | none => simp
  | some c => by_cases hc : c.elapsed + 1 = c.target * 1000 <;> simp [countDue, RestCount.limit, hc]

/-- The wait for the answer to an order in flight ends with this millisecond. -/
def LineUnit.expires (l : LineUnit) (o : Order) : Prop :=
  l.order = some o ∧ o.ended = true ∧ o.elapsed + 1 = o.timeout

@[simp] theorem mem_orderEnds {p : Pos} {l : LineUnit} {i : Instr} :
    i ∈ l.orderEnds p ↔
      (i = .answerTimeout p ∧ ∃ o, l.expires o ∧ o.purpose ≠ .test) ∨
      (i = .loopbackTimeout p ∧ ∃ o, l.expires o ∧ o.purpose = .test ∧ o.kind = .loopback) ∨
      (i = .echoTimeout p ∧ ∃ o, l.expires o ∧ o.purpose = .test ∧ o.kind ≠ .loopback) := by
  unfold LineUnit.orderEnds LineUnit.expires
  cases ho : l.order with
  | none => simp
  | some o =>
    by_cases he : o.ended = true ∧ o.elapsed + 1 = o.timeout
    · by_cases ht : o.purpose = .test <;> by_cases hk : o.kind = .loopback <;>
        simp [countDue, Order.timeoutCommand, he, ht, hk]
    · have hd : (o.ended && countDue o.timeout o.elapsed) = false := by simpa [countDue] using he
      simp [hd, he]

@[simp] theorem mem_keyEnds {k : Key} {i : Instr} : i ∈ k.ends ↔ i = .keyDebounceExpiry ∧ k.debounce = some 49 := by
  unfold Key.ends
  cases hd : k.debounce <;> simp [countDue, Config.keyMs, and_comm]

@[simp] theorem mem_linkEnds {l : Link} {i : Instr} :
    i ∈ l.ends ↔ i = .frameGapTimeout [] ∧ l.framer ≠ .hunting ∧ l.gap = 20 := by
  unfold Link.ends
  simp [countDue, Config.gapMs, and_comm]

@[simp] theorem mem_endsAt {s : State} {p : Pos} {i : Instr} :
    i ∈ s.endsAt p ↔ i ∈ (s.unit p).answerEnds p ∨ i ∈ (s.line p).debounceEnds p ∨ i ∈ (s.line p).restEnds p ∨
      i ∈ (s.line p).orderEnds p := by
  simp [State.endsAt, LineUnit.ends]

/-! ## A millisecond: what it leaves -/

theorem tick_off {s : State} (h : s.powered = false) : s.tick = s := by simp [State.tick, h]

theorem tick_on {s : State} (h : s.powered = true) :
    s.tick = { s with units := s.units.map Position.tick, key := s.key.tick, link := s.link.tick,
                      pending := s.pending ++ s.dueCommands } := by
  simp [State.tick, h]

theorem tick_unit {s : State} (h : s.powered = true) (p : Pos) : s.tick.unit p = (s.unit p).tick := by
  rw [tick_on h]
  exact unit_map s Position.tick p

theorem link_tick_eq (l : Link) :
    l.tick = { l with gap := if l.framer = .hunting then l.gap else countOn 21 l.gap } := by
  unfold Link.tick
  split <;> rfl

theorem step_idle {s : State} (h : s.pending = []) : step s = .next s.tick := by simp [step, h]

/-- Settles O3: the counts by the equations of `tick`, the commands by the lemmas on when each count ends. -/
theorem idleStepIsOneMillisecond : Obligations.IdleStepIsOneMillisecond := by
  unfold Obligations.IdleStepIsOneMillisecond
  intro s hq
  refine ⟨fun h => by rw [step_idle hq, tick_off h], fun h => ⟨s.tick, step_idle hq, ?_⟩⟩
  intro next answerMs expires
  have pending : s.tick.pending = s.dueCommands := by rw [tick_on h, hq]; rfl
  have atPos {i : Instr} {p : Pos} (hi : countPos i = some p) : i ∈ s.tick.pending ↔ i ∈ s.endsAt p := by
    rw [pending, mem_dueCommands_at hi]
  have part {i : Instr} (hi : countPos i = none) : i ∈ s.tick.pending ↔ i ∈ s.key.ends ∨ i ∈ s.link.ends := by
    rw [pending, mem_dueCommands_part hi]
  refine ⟨?_, fun p => ?_, fun p => ?_, ?_, ?_, fun i hi => ?_, ?_⟩
  · rw [tick_on h, link_tick_eq]; rfl
  · rw [tick_unit h]
    have ms : (s.line p).debounceMs = if (s.line p).present then 20 else 50 := rfl
    rw [← ms]
    refine congrArg (fun x => ({ s.unit p with line := (s.line p).tick, reader := x } : Position)) ?_
    rcases (s.unit p).reader with - | ⟨⟨header, tally, power⟩⟩ | -
    · rfl
    · rcases power with - | - | - | ⟨o, b, n⟩
      case working => cases o <;> rfl
      all_goals rfl
    · rfl
  · have ms (o : CardOrder) : answerMs o = cardAnswerMs o := by cases o <;> rfl
    have wait (o : Order) : expires p o ↔ (s.line p).expires o := Iff.rfl
    refine ⟨?_, ?_, ?_, ?_, ?_, ?_, ?_⟩ <;> rw [atPos rfl] <;> simp [ms, wait]
  · simp [part (i := .keyDebounceExpiry) rfl]
  · simp [part (i := .frameGapTimeout []) rfl]
  · rw [pending, mem_dueCommands, mem_keyEnds, mem_linkEnds] at hi
    obtain ⟨p, hp⟩ | ⟨rfl, -⟩ | ⟨rfl, -⟩ := hi
    · have hc := (endsAt_sublist s p).subset hp
      refine .inr (.inr ⟨p, ?_⟩)
      simp only [countCommands, List.mem_cons, List.not_mem_nil, or_false] at hc ⊢
      tauto
    · exact .inl rfl
    · exact .inr (.inl rfl)
  · rw [pending]
    exact nodup_dueCommands s

end Sys2Proof.Machine

namespace Sys2Proof.Machine

/-! ## Cards: stages, digits and consumption -/

@[simp] theorem stageOf_stageByte (k : Stage) : stageOf (stageByte k) = some k := by
  revert k; decide

theorem mem_stagesBelow {j k : Stage} : j ∈ stagesBelow k ↔ j < k := by
  revert j k; decide

theorem get_set (d : Digits) (k j : Stage) (v : Digit) : (d.set k v).get j = if j = k then v else d.get j := by
  fin_cases k <;> fin_cases j <;> rfl

/-- What a stage adds to C, in cells: nothing below a set latch, and else its digit (R9). -/
def counted (t : Tally) (j : Stage) : Nat := if t.latch ≠ 0 ∧ j < t.latch then 0 else (t.digits.get j).val

theorem consumption_eq (t : Tally) :
    t.consumption = counted t 0 + 8 * counted t 1 + 64 * counted t 2 + 512 * counted t 3 := rfl

theorem counted_le (t : Tally) (j : Stage) : counted t j ≤ 7 := by
  unfold counted
  split <;> omega

theorem consumption_le (t : Tally) : t.consumption ≤ 4095 := by
  have h0 := counted_le t 0
  have h1 := counted_le t 1
  have h2 := counted_le t 2
  have h3 := counted_le t 3
  rw [consumption_eq]
  omega

theorem consumption_congr {t u : Tally} (h : ∀ j, counted t j = counted u j) : t.consumption = u.consumption := by
  simp only [consumption_eq, h]

/-! ## Cards: the refusals -/

theorem stageOf_eq_none {k : Byte} (h : 3 < k.toNat) : stageOf k = none := by
  simp [stageOf]; omega

theorem burnRefusal_badStage {k : Byte} (h : 3 < k.toNat) (t : Tally) : burnRefusal k t = some .badStage := by
  simp [burnRefusal, stageOf_eq_none h]

theorem restageRefusal_badStage {k : Byte} (h : 3 < k.toNat) (t : Tally) : restageRefusal k t = some .badStage := by
  simp [restageRefusal, stageOf_eq_none h]

/-- A stage below S_k is not full. -/
@[reducible] def lowerNotFull (k : Stage) (t : Tally) : Prop := ∃ j, j < k ∧ ¬ (t.digits.get j).val = 7

theorem any_stagesBelow (k : Stage) (t : Tally) :
    ((stagesBelow k).any fun j => (t.digits.get j).val ≠ 7) = true ↔ lowerNotFull k t := by
  simp [lowerNotFull, mem_stagesBelow]

/-- The checks of a BURN on a stage, in their order (R11). -/
theorem burnRefusal_stage (k : Stage) (t : Tally) :
    burnRefusal (stageByte k) t =
      if t.latch ≠ 0 then some .latchSet
      else if (t.digits.get k).val = 7 then some .stageFull
      else if lowerNotFull k t then some .lowerNotFull
      else none := by
  simp only [burnRefusal, stageOf_stageByte, any_stagesBelow]

theorem restageRefusal_stage (k : Stage) (t : Tally) :
    restageRefusal (stageByte k) t = if k = 0 then some .badStage else if t.latch = k then none else some .noLatch := by
  simp only [restageRefusal, stageOf_stageByte]

/-- A BURN is taken where no latch is set, the stage is not full, and every stage below it is (R11). -/
theorem burnRefusal_eq_none {k : Stage} {t : Tally} :
    burnRefusal (stageByte k) t = none ↔
      t.latch = 0 ∧ (t.digits.get k).val ≠ 7 ∧ ∀ j, j < k → (t.digits.get j).val = 7 := by
  rw [burnRefusal_stage]
  unfold lowerNotFull
  split
  · simp_all
  · split
    · simp_all
    · split <;> simp_all

theorem restageRefusal_eq_none {k : Stage} {t : Tally} :
    restageRefusal (stageByte k) t = none ↔ k ≠ 0 ∧ t.latch = k := by
  rw [restageRefusal_stage]
  split
  · simp_all
  · split <;> simp_all

/-! ## Cards: the forms an order leaves -/

theorem orderForms_burn_refused {k : Byte} {t : Tally} (h : burnRefusal k t ≠ none) (takes : Bool) :
    orderForms (.burn k) takes t = [] := by
  unfold orderForms
  split <;> simp_all

theorem orderForms_restage_refused {k : Byte} {t : Tally} (h : restageRefusal k t ≠ none) (takes : Bool) :
    orderForms (.restage k) takes t = [] := by
  unfold orderForms
  split <;> simp_all

theorem orderForms_burn {k : Stage} {t : Tally} (h : burnRefusal (stageByte k) t = none) (takes : Bool) :
    orderForms (.burn (stageByte k)) takes t = burnForms k takes t := by
  simp [orderForms, h]

theorem orderForms_restage {k : Stage} {t : Tally} (h : restageRefusal (stageByte k) t = none) (takes : Bool) :
    orderForms (.restage (stageByte k)) takes t = restageForms k t := by
  simp [orderForms, h]

theorem formAfter_of_no_forms {o : CardOrder} {takes : Bool} {t : Tally} (h : orderForms o takes t = []) (n : Nat) :
    formAfter o takes t n = t := by
  simp [formAfter, h]

theorem formDone_of_no_forms {o : CardOrder} {takes : Bool} {t : Tally} (h : orderForms o takes t = []) :
    formDone o takes t = t := by
  simp [formDone, h]

/-- What is left after some small steps is the tally as it was, or one of the forms. -/
theorem formAfter_mem (o : CardOrder) (takes : Bool) (t : Tally) (n : Nat) :
    formAfter o takes t n = t ∨ formAfter o takes t n ∈ orderForms o takes t := by
  unfold formAfter
  cases h : (orderForms o takes t).take n using List.reverseRecOn with
  | nil => exact .inl rfl
  | append_singleton l x =>
    refine .inr (List.take_subset n _ ?_)
    simp [h]

/-! ## Cards: a BURN -/

/-- The tally of a BURN that took (R11). -/
def burnedForm (k : Stage) (t : Tally) : Tally := { digits := t.digits.set k (t.digits.get k + 1), latch := k }

/-- The tally of a BURN with its latch set and no cell burned (R11, R13). -/
def bareForm (k : Stage) (t : Tally) : Tally := { t with latch := k }

theorem bareForm_zero {t : Tally} (h : t.latch = 0) : bareForm 0 t = t := by simp [bareForm, ← h]

/-- In the order of its small steps, a BURN leaves the bare latch, for a stage above S0, and then the burned cell if it
takes. -/
theorem burnForms_eq {k : Stage} {t : Tally} (h : t.latch = 0) (takes : Bool) :
    burnForms k takes t =
      (if k = 0 then [] else [bareForm k t]) ++ (if takes = true then [burnedForm k t] else []) := by
  unfold burnForms
  split
  · next hk => subst hk; simp [burnCell, burnedForm, h]
  · rfl

theorem mem_burnForms {k : Stage} {t u : Tally} {takes : Bool} (h : t.latch = 0) (hu : u ∈ burnForms k takes t) :
    u = bareForm k t ∨ (takes = true ∧ u = burnedForm k t) := by
  rw [burnForms_eq h, List.mem_append] at hu
  rcases hu with hu | hu
  · split at hu
    · cases hu
    · exact .inl (List.mem_singleton.1 hu)
  · split at hu
    · next ht => exact .inr ⟨ht, List.mem_singleton.1 hu⟩
    · cases hu

theorem formDone_burn_takes {k : Stage} {t : Tally} (h : burnRefusal (stageByte k) t = none) :
    formDone (.burn (stageByte k)) true t = burnedForm k t := by
  have hl := (burnRefusal_eq_none.1 h).1
  rw [formDone, orderForms_burn h, burnForms_eq hl, if_pos rfl]
  exact List.getLastD_concat

theorem formDone_burn_fails {k : Stage} {t : Tally} (h : burnRefusal (stageByte k) t = none) :
    formDone (.burn (stageByte k)) false t = bareForm k t := by
  have hl := (burnRefusal_eq_none.1 h).1
  rw [formDone, orderForms_burn h, burnForms_eq hl]
  by_cases hk : k = 0
  · subst hk; simp [bareForm_zero hl]
  · simp [hk]

theorem counted_of_no_latch {t : Tally} (h : t.latch = 0) (j : Stage) : counted t j = (t.digits.get j).val := by
  simp [counted, h]

/-- Only a stage above S0 has stages below it for a latch to hide. -/
theorem latch_hides (k j : Stage) : (k ≠ 0 ∧ j < k) ↔ j < k :=
  ⟨And.right, fun h => ⟨fun hk => absurd h (by simp [hk]), h⟩⟩

theorem counted_burnedForm (k : Stage) (t : Tally) (j : Stage) :
    counted (burnedForm k t) j =
      if j < k then 0 else if j = k then (t.digits.get k + 1).val else (t.digits.get j).val := by
  simp only [counted, burnedForm, latch_hides, get_set, apply_ite Fin.val]

theorem counted_bareForm (k : Stage) (t : Tally) (j : Stage) :
    counted (bareForm k t) j = if j < k then 0 else (t.digits.get j).val := by
  simp only [counted, bareForm, latch_hides]

theorem consumption_burnedForm {k : Stage} {t : Tally} (h : burnRefusal (stageByte k) t = none) :
    (burnedForm k t).consumption = t.consumption + 1 := by
  obtain ⟨hl, hk, hj⟩ := burnRefusal_eq_none.1 h
  simp only [consumption_eq, counted_burnedForm, counted_of_no_latch hl]
  have up : (t.digits.get k + 1).val = (t.digits.get k).val + 1 := by
    have := (t.digits.get k).isLt
    rw [Fin.val_add_one_of_lt' (by omega)]
  rw [up]
  have h0 := hj 0
  have h1 := hj 1
  have h2 := hj 2
  fin_cases k <;> simp at h0 h1 h2 ⊢ <;> omega

theorem consumption_bareForm {k : Stage} {t : Tally} (h : burnRefusal (stageByte k) t = none) :
    (bareForm k t).consumption + (8 ^ k.val - 1) = t.consumption := by
  obtain ⟨hl, hk, hj⟩ := burnRefusal_eq_none.1 h
  simp only [consumption_eq, counted_bareForm, counted_of_no_latch hl]
  have h0 := hj 0
  have h1 := hj 1
  have h2 := hj 2
  fin_cases k <;> simp at h0 h1 h2 ⊢ <;> omega

/-! ## Cards: a RESTAGE -/

theorem mem_clearForms {j : Stage} {t u : Tally} (h : u ∈ clearForms j t) :
    u.latch = t.latch ∧ ∀ i, i ≠ j → u.digits.get i = t.digits.get i := by
  simp only [clearForms, List.mem_map, List.mem_reverse] at h
  obtain ⟨m, -, rfl⟩ := h
  exact ⟨rfl, fun i hi => by simp [get_set, hi]⟩

/-- Clearing stages moves neither the latch nor any other stage. -/
theorem mem_clearStages {u : Tally} (js : List Stage) : ∀ t : Tally, u ∈ clearStages js t →
    u.latch = t.latch ∧ ∀ i, i ∉ js → u.digits.get i = t.digits.get i := by
  induction js with
  | nil => intro t h; cases h
  | cons j js ih =>
    intro t h
    rcases List.mem_append.1 h with h | h
    · obtain ⟨hl, hd⟩ := mem_clearForms h
      exact ⟨hl, fun i hi => hd i fun e => hi (e ▸ List.mem_cons_self)⟩
    · obtain ⟨hl, hd⟩ := ih _ h
      refine ⟨hl, fun i hi => (hd i fun e => hi (List.mem_cons_of_mem j e)).trans ?_⟩
      rw [get_set, if_neg fun (e : i = j) => hi (e ▸ List.mem_cons_self)]

theorem get_foldl_set_zero (js : List Stage) : ∀ (d : Digits) (i : Stage),
    (js.foldl (fun d j => d.set j 0) d).get i = if i ∈ js then 0 else d.get i := by
  induction js with
  | nil => intro d i; rfl
  | cons j js ih =>
    intro d i
    rw [List.foldl_cons, ih, get_set]
    by_cases h1 : i ∈ js <;> by_cases h2 : i = j <;> simp [h1, h2]

theorem get_restaged (k : Stage) (t : Tally) (j : Stage) :
    (restaged k t).digits.get j = if j < k then 0 else t.digits.get j := by
  simp only [restaged, get_foldl_set_zero, mem_stagesBelow]

theorem formDone_restage {k : Stage} {t : Tally} (h : restageRefusal (stageByte k) t = none) (takes : Bool) :
    formDone (.restage (stageByte k)) takes t = restaged k t := by
  rw [formDone, orderForms_restage h]
  exact List.getLastD_concat

/-- A form of a RESTAGE cut short has its latch still, and its stages from S_k up as they were; the last form has every
stage below S_k at 0 (R12, R14). -/
theorem formAfter_restage {k : Stage} {t : Tally} (h : restageRefusal (stageByte k) t = none) (takes : Bool) (n : Nat) :
    let u := formAfter (.restage (stageByte k)) takes t n
    u = restaged k t ∨ (u.latch = k ∧ ∀ j, j ≥ k → u.digits.get j = t.digits.get j) := by
  intro u
  have hl := (restageRefusal_eq_none.1 h).2
  rcases formAfter_mem (.restage (stageByte k)) takes t n with hu | hu
  · exact .inr ⟨by rw [show u = t from hu, hl], fun j _ => by rw [show u = t from hu]⟩
  · rw [orderForms_restage h, restageForms, List.mem_append, List.mem_singleton] at hu
    rcases hu with hu | hu
    · obtain ⟨hu, hd⟩ := mem_clearStages _ t hu
      exact .inr ⟨hu.trans hl, fun j hj => hd j fun e => absurd (mem_stagesBelow.1 e) (not_lt.2 hj)⟩
    · exact .inl hu

/-- What the stages add to C where a latch hides those below S_k: nothing below, and from S_k up their digits. -/
theorem counted_latched {k : Stage} {u t : Tally} (hk : k ≠ 0) (hl : u.latch = k)
    (hd : ∀ j, j ≥ k → u.digits.get j = t.digits.get j) (j : Stage) :
    counted u j = if j < k then 0 else (t.digits.get j).val := by
  unfold counted
  by_cases hj : j < k
  · simp [hl, hk, hj]
  · simp [hl, hj, hd j (not_lt.1 hj)]

theorem counted_restaged (k : Stage) (t : Tally) (j : Stage) :
    counted (restaged k t) j = if j < k then 0 else (t.digits.get j).val := by
  rw [counted_of_no_latch rfl, get_restaged]
  split <;> rfl

/-! ## Cards: the loss of power -/

theorem cardCut_power (n : Nat) (c : Card) : (cardCut n c).power = .unpowered := by
  unfold cardCut; split <;> rfl

theorem cardCut_header (n : Nat) (c : Card) : (cardCut n c).header = c.header := by
  unfold cardCut; split <;> rfl

theorem cardCut_tally_working {c : Card} {x : CardOrder} {takes : Bool} {m : Nat} (h : c.power = .working x takes m)
    (n : Nat) : (cardCut n c).tally = formAfter x takes c.tally n := by
  simp [cardCut, h]

theorem cardCut_tally_idle {c : Card} (h : ∀ x takes m, c.power ≠ .working x takes m) (n : Nat) :
    (cardCut n c).tally = c.tally := by
  unfold cardCut
  split
  · next hc => exact absurd hc (h _ _ _)
  · rfl

theorem orderForms_read {x : CardOrder} (h : x = .wake ∨ x = .readHead ∨ x = .readTally) (takes : Bool) (t : Tally) :
    orderForms x takes t = [] := by
  rcases h with rfl | rfl | rfl <;> rfl

/-- Settles O53: consumption by what each stage adds to it, the refusals by the order of the checks, and the forms of a
BURN and of a RESTAGE by what their small steps leave. -/
theorem cardWriteForms : Obligations.CardWriteForms := by
  unfold Obligations.CardWriteForms
  refine ⟨fun t => ?_, rfl, fun k t hk => ⟨burnRefusal_badStage hk t, restageRefusal_badStage hk t⟩, fun k t => ?_,
    fun k t takes n => ?_, fun k t takes n h => ?_, fun k t takes n h => ?_, fun x t takes n => ?_, fun n c => ?_⟩
  · refine ⟨?_, ?_, ?_, ?_, consumption_le t⟩
    all_goals intro hl; simp [consumption_eq, counted, hl, Digits.get]
  · refine ⟨fun hl => ?_, fun hl hk => ?_, fun hl hk hj => ?_, fun hl hk hj => ?_, fun hk => ?_, fun hk hl => ?_,
      fun hk hl => restageRefusal_eq_none.2 ⟨hk, hl⟩⟩
    · rw [burnRefusal_stage, if_pos hl]
    · rw [burnRefusal_stage, if_neg (not_not.2 hl), if_pos hk]
    · rw [burnRefusal_stage, if_neg (not_not.2 hl), if_neg hk, if_pos (show lowerNotFull k t from hj)]
    · exact burnRefusal_eq_none.2 ⟨hl, hk, hj⟩
    · rw [restageRefusal_stage, if_pos hk]
    · rw [restageRefusal_stage, if_neg hk, if_neg hl]
  · exact ⟨fun h => ⟨formAfter_of_no_forms (orderForms_burn_refused h takes) n,
        formDone_of_no_forms (orderForms_burn_refused h takes)⟩,
      fun h => ⟨formAfter_of_no_forms (orderForms_restage_refused h takes) n,
        formDone_of_no_forms (orderForms_restage_refused h takes)⟩⟩
  · refine ⟨?_, formDone_burn_takes h, formDone_burn_fails h, consumption_burnedForm h, consumption_bareForm h⟩
    exact (formAfter_mem _ takes t n).imp_right fun hu =>
      mem_burnForms (burnRefusal_eq_none.1 h).1 (orderForms_burn h takes ▸ hu)
  · intro u v
    have hk := (restageRefusal_eq_none.1 h)
    have hv : v = restaged k t := formDone_restage h takes
    have whole (j : Stage) : counted t j = if j < k then 0 else (t.digits.get j).val :=
      counted_latched hk.1 hk.2 (fun _ _ => rfl) j
    have above (j : Stage) (hj : j ≥ k) : (restaged k t).digits.get j = t.digits.get j := by
      rw [get_restaged, if_neg (not_lt.2 hj)]
    rw [hv]
    refine ⟨?_, ?_, ?_, rfl, fun j hj => by rw [get_restaged, if_pos hj], above⟩
    all_goals rcases formAfter_restage h takes n with hu | ⟨hl, hd⟩
    · exact consumption_congr fun j => by rw [show u = restaged k t from hu, counted_restaged, whole]
    · exact consumption_congr fun j => by rw [counted_latched hk.1 hl hd, whole]
    · exact .inr hu
    · exact .inl hl
    · rw [show u = restaged k t from hu]; exact above
    · exact hd
  · exact ⟨rfl, fun h => ⟨formAfter_of_no_forms (orderForms_read h takes t) n,
      formDone_of_no_forms (orderForms_read h takes t)⟩⟩
  · exact ⟨cardCut_power n c, cardCut_header n c, fun x takes m h => cardCut_tally_working h n,
      fun h => cardCut_tally_idle h n⟩

end Sys2Proof.Machine

namespace Sys2Proof.Machine

variable (s : State) (p : Pos)

/-! ## What a position holds after an operation on its line -/

@[simp] theorem unit_endOrder : (s.endOrder p).unit p = { s.unit p with line := { s.line p with order := none } } :=
  unit_modLine s p _

@[simp] theorem unit_contactAwake : (s.contactAwake p).unit p = { s.unit p with
    line := if (s.line p).contact = .waking then { s.line p with contact := .powered } else s.line p } :=
  unit_modLine s p _

@[simp] theorem unit_modCard (f : Card → Card) :
    (s.modCard p f).unit p = { s.unit p with reader := (s.unit p).reader.map (Seated.onCard f) } :=
  unit_modUnit s p _

@[simp] theorem unit_clearWork : (s.clearWork p).unit p = { s.unit p with work := none } := unit_modUnit s p _

/-- The order that `beginOrder` puts in flight. -/
def State.begunOrder (s : State) (p : Pos) (k : OrderKind) (g : Stage) (a : Attempt) (x : Purpose) : Order :=
  { kind := k, stage := g, retry := a.isRetry, begun := true, ended := false, elapsed := 0,
    timeout := a.timeoutMs k (s.posSettings p).lineClass, purpose := x }

@[simp] theorem unit_beginOrder (k : OrderKind) (g : Stage) (a : Attempt) (x : Purpose) :
    (s.beginOrder p k g a x).unit p =
      { s.unit p with line := { s.line p with order := some (s.begunOrder p k g a x), rest := none } } :=
  unit_modLine s p _

@[simp] theorem unit_contactOn : (s.contactOn p).unit p =
    { s.unit p with
      line := { s.line p with contact := .waking, rest := none }
      reader := (s.unit p).reader.map (Seated.onCard cardPowerUp) } := by
  unfold State.contactOn
  rw [unit_modUnit]
  rcases h : (s.unit p).reader with - | ⟨c⟩ | - <;> rfl

@[simp] theorem unit_beginWake (a : Attempt) (x : Purpose) : (s.beginWake p a x).unit p =
    { s.unit p with
      line := { s.line p with contact := .waking, rest := none, order := some (s.begunOrder p .wake 0 a x) }
      reader := (s.unit p).reader.map (Seated.onCard cardPowerUp) } := by
  unfold State.beginWake
  rw [unit_beginOrder]
  simp only [State.line, unit_contactOn]
  rfl

section
variable {p} {q : Pos} (h : q ≠ p)
include h

theorem unit_endOrder_ne : (s.endOrder p).unit q = s.unit q := unit_modLine_ne s h _
theorem unit_modCard_ne (f : Card → Card) : (s.modCard p f).unit q = s.unit q := unit_modUnit_ne s h _
theorem unit_beginOrder_ne (k : OrderKind) (g : Stage) (a : Attempt) (x : Purpose) :
    (s.beginOrder p k g a x).unit q = s.unit q := unit_modLine_ne s h _
theorem unit_beginWake_ne (a : Attempt) (x : Purpose) : (s.beginWake p a x).unit q = s.unit q :=
  (unit_beginOrder_ne _ h _ _ _ _).trans (unit_modUnit_ne s h _)
end

/-! ## Contact power taken off (R1, R23) -/

theorem contactOff_eq (c : Contact) :
    s.contactOff p c =
      { s.setUnit p { s.unit p with
          line := { s.line p with contact := c, rest := none }
          reader := (s.unit p).reader.map (Seated.onCard (cardCut (Config.cutPoint s.freeCount))) } with
        freeCount := (s.contactOff p c).freeCount } := by
  unfold State.contactOff
  dsimp only
  split
  · next k hk =>
    split <;> simp only [hk] <;> rfl
  · next hk =>
    have same : (s.unit p).reader.map (Seated.onCard (cardCut (Config.cutPoint s.freeCount))) = (s.unit p).reader := by
      rcases hr : (s.unit p).reader with - | ⟨k⟩ | -
      · rfl
      · exact absurd hr (hk k)
      · rfl
    rw [same]
    rfl

@[simp] theorem contactOff_retained (c : Contact) : (s.contactOff p c).retained = s.retained := by
  rw [contactOff_eq]; rfl

@[simp] theorem contactOff_arbiter (c : Contact) : (s.contactOff p c).arbiter = s.arbiter := by
  rw [contactOff_eq]; rfl

@[simp] theorem contactOff_link (c : Contact) : (s.contactOff p c).link = s.link := by
  rw [contactOff_eq]; rfl

@[simp] theorem contactOff_ctx (c : Contact) (q : Pos) : (s.contactOff p c).ctx q = s.ctx q := by
  rw [contactOff_eq]; rfl

@[simp] theorem unit_contactOff (c : Contact) :
    (s.contactOff p c).unit p =
      { s.unit p with
        line := { s.line p with contact := c, rest := none }
        reader := (s.unit p).reader.map (Seated.onCard (cardCut (Config.cutPoint s.freeCount))) } := by
  rw [contactOff_eq]
  exact unit_setUnit s p _

theorem unit_contactOff_ne {p q : Pos} (h : q ≠ p) (c : Contact) : (s.contactOff p c).unit q = s.unit q := by
  rw [contactOff_eq]
  exact unit_setUnit_ne s h _

/-! ## The same apart from one position -/

theorem sameApartFrom_refl : s.sameApartFrom p s := ⟨fun _ _ => ⟨rfl, rfl⟩, rfl⟩

theorem sameApartFrom_trans {s t u : State} {p : Pos} (h : s.sameApartFrom p t) (h' : t.sameApartFrom p u) :
    s.sameApartFrom p u := by
  obtain ⟨ha, he⟩ := h
  obtain ⟨ha', he'⟩ := h'
  refine ⟨fun q hq => ⟨(ha' q hq).1.trans (ha q hq).1, (ha' q hq).2.trans (ha q hq).2⟩, he'.trans ?_⟩
  have moved := congrArg (fun x : State => ({ x with
    units := u.units
    retained := { x.retained with ctxs := u.retained.ctxs }
    link := { x.link with outbound := u.link.outbound, flags := u.link.flags }
    freeCount := u.freeCount } : State)) he
  exact moved

theorem sameApartFrom_modUnit (f : Position → Position) : s.sameApartFrom p (s.modUnit p f) :=
  ⟨fun _ hq => ⟨unit_modUnit_ne s hq f, rfl⟩, rfl⟩

theorem sameApartFrom_modLine (f : LineUnit → LineUnit) : s.sameApartFrom p (s.modLine p f) :=
  sameApartFrom_modUnit s p _

theorem sameApartFrom_modCard (f : Card → Card) : s.sameApartFrom p (s.modCard p f) := sameApartFrom_modUnit s p _

theorem sameApartFrom_modCtx (f : Context → Context) : s.sameApartFrom p (s.modCtx p f) :=
  ⟨fun _ hq => ⟨rfl, ctx_modCtx_ne s hq f⟩, rfl⟩

theorem sameApartFrom_send (m : Message) : s.sameApartFrom p (s.send m) := ⟨fun _ _ => ⟨rfl, rfl⟩, rfl⟩

theorem sameApartFrom_contactOff (c : Contact) : s.sameApartFrom p (s.contactOff p c) := by
  refine ⟨fun q hq => ⟨unit_contactOff_ne s hq c, contactOff_ctx s p c q⟩, ?_⟩
  rw [contactOff_eq]
  rfl

/-! ## Raisings (R150) -/

@[simp] theorem unit_raise (f : PosFlag) :
    (s.raise p f).unit p = { s.unit p with flags := (s.unit p).flags ||| f.bit } := by
  rw [raise_eq]
  exact unit_setUnit s p _

theorem unit_raise_ne {p q : Pos} (h : q ≠ p) (f : PosFlag) : (s.raise p f).unit q = s.unit q := by
  rw [raise_eq]
  exact unit_setUnit_ne s h _

@[simp] theorem raise_retained (f : PosFlag) : (s.raise p f).retained = s.retained := by rw [raise_eq]
@[simp] theorem raise_arbiter (f : PosFlag) : (s.raise p f).arbiter = s.arbiter := by rw [raise_eq]
@[simp] theorem raise_linkFlags (f : PosFlag) : (s.raise p f).link.flags = s.link.flags := by rw [raise_eq]
@[simp] theorem raise_ctx (f : PosFlag) (q : Pos) : (s.raise p f).ctx q = s.ctx q := by rw [raise_eq]; rfl

/-- A raising queues no reply. -/
@[simp] theorem raise_replies (f : PosFlag) :
    (s.raise p f).link.outbound.filter Message.isReply = s.link.outbound.filter Message.isReply := by
  rw [raise_eq]
  unfold State.noticeOf
  split <;> simp [Message.isReply]

theorem sameApartFrom_raise (f : PosFlag) : s.sameApartFrom p (s.raise p f) := by
  refine ⟨fun q hq => ⟨unit_raise_ne s hq f, raise_ctx s p f q⟩, ?_⟩
  rw [raise_eq]

@[simp] theorem raisePart_unit (f : PartFlag) (q : Pos) : (s.raisePart f).unit q = s.unit q := by rw [raisePart_eq]; rfl
@[simp] theorem raisePart_retained (f : PartFlag) : (s.raisePart f).retained = s.retained := by rw [raisePart_eq]
@[simp] theorem raisePart_arbiter (f : PartFlag) : (s.raisePart f).arbiter = s.arbiter := by rw [raisePart_eq]
@[simp] theorem raisePart_linkFlags (f : PartFlag) : (s.raisePart f).link.flags = s.link.flags ||| f.bit := by
  rw [raisePart_eq]
@[simp] theorem raisePart_ctx (f : PartFlag) (q : Pos) : (s.raisePart f).ctx q = s.ctx q := by rw [raisePart_eq]; rfl
@[simp] theorem raisePart_replies (f : PartFlag) :
    (s.raisePart f).link.outbound.filter Message.isReply = s.link.outbound.filter Message.isReply := by
  rw [raisePart_eq]
  unfold State.partNoticeOf
  split <;> simp [Message.isReply]

/-! ## What does nothing after an answer or a timeout -/

theorem startRest_of_not {s : State} {p : Pos} (h : s.restRuns p = false) : s.startRest p = s := by
  simp [State.startRest, h]

theorem startRest_of_order {s : State} {p : Pos} (h : (s.line p).order ≠ none) : s.startRest p = s := by
  refine startRest_of_not ?_
  have : (s.line p).order.isNone = false := by simpa [Option.isSome_iff_ne_none] using h
  simp [State.restRuns, this]

theorem startRest_of_state {s : State} {p : Pos} (h : (s.line p).state ≠ .ready) (h' : (s.line p).state ≠ .inCall) :
    s.startRest p = s :=
  startRest_of_not (by simp [State.restRuns, h, h'])

theorem startRest_of_queue {s : State} {p : Pos} (h : (s.ctx p).queue ≠ []) : s.startRest p = s :=
  startRest_of_not (by simp [State.restRuns, h])

theorem restartSettle_of_none {s : State} (h : s.restart = .none) : s.restartSettle = s := by
  simp [State.restartSettle, h]

end Sys2Proof.Machine

namespace Sys2Proof.Machine

/-! ## Settlements of the charges of one position -/

/-- What settling charges of a position comes to, from `s` to `t`: outside the position nothing changes; its context is
`c` but for the warning, its working record is `w`, no flag of it is cleared, and `ms` are the replies queued. -/
structure Settles (p : Pos) (s t : State) (c : Context) (w : Option Work) (ms : List Message) : Prop where
  apart : s.sameApartFrom p t
  ctx : ∃ b, t.ctx p = { c with warned := b }
  unit : ∃ f, t.unit p = { s.unit p with work := w, flags := (s.unit p).flags ||| f }
  linkFlags : t.link.flags = s.link.flags
  replies : t.link.outbound.filter Message.isReply = s.link.outbound.filter Message.isReply ++ ms

theorem Settles.work {p : Pos} {s t : State} {c : Context} {w : Option Work} {ms : List Message}
    (h : Settles p s t c w ms) : (t.unit p).work = w := by
  obtain ⟨f, hf⟩ := h.unit
  rw [hf]

theorem settles_refl (p : Pos) (s : State) : Settles p s s (s.ctx p) (s.unit p).work [] where
  apart := sameApartFrom_refl s p
  ctx := ⟨_, rfl⟩
  unit := ⟨0#9, by simp⟩
  linkFlags := rfl
  replies := by simp

theorem Settles.trans {p : Pos} {s t u : State} {c c' : Context} {w w' : Option Work} {ms ms' : List Message}
    (h : Settles p s t c w ms) (h' : Settles p t u c' w' ms') : Settles p s u c' w' (ms ++ ms') where
  apart := sameApartFrom_trans h.apart h'.apart
  ctx := h'.ctx
  unit := by
    obtain ⟨f, hf⟩ := h.unit
    obtain ⟨g, hg⟩ := h'.unit
    exact ⟨f ||| g, by rw [hg, hf]; simp [BitVec.or_assoc]⟩
  linkFlags := h'.linkFlags.trans h.linkFlags
  replies := by rw [h'.replies, h.replies, List.append_assoc]

/-- The warning of a context is left open by `Settles`. -/
theorem Settles.of_warned {p : Pos} {s t : State} {c : Context} {w : Option Work} {ms : List Message} {b : Bool}
    (h : Settles p s t { c with warned := b } w ms) : Settles p s t c w ms :=
  { h with ctx := h.ctx.imp fun _ e => e }

theorem settles_modCtx (p : Pos) (s : State) (f : Context → Context) :
    Settles p s (s.modCtx p f) (f (s.ctx p)) (s.unit p).work [] where
  apart := sameApartFrom_modCtx s p f
  ctx := ⟨_, ctx_modCtx s p f⟩
  unit := ⟨0#9, by simp⟩
  linkFlags := rfl
  replies := by simp

theorem settles_clearWork (p : Pos) (s : State) : Settles p s (s.clearWork p) (s.ctx p) none [] where
  apart := sameApartFrom_modUnit s p _
  ctx := ⟨_, rfl⟩
  unit := ⟨0#9, by simp⟩
  linkFlags := rfl
  replies := by simp

theorem settles_lowCompare (p : Pos) (s : State) : Settles p s (s.lowCompare p) (s.ctx p) (s.unit p).work [] := by
  unfold State.lowCompare
  dsimp only
  split
  · exact {
      apart := sameApartFrom_trans (sameApartFrom_modCtx s p _) (sameApartFrom_raise _ p _)
      ctx := ⟨true, by simp⟩
      unit := ⟨PosFlag.low.bit, by simp⟩
      linkFlags := by simp
      replies := by simp }
  · exact settles_refl p s

/-- The CHARGE reply of a charge settled in a context that has come to be `c` (R67). -/
def chargeMessage (p : Pos) (o : ChargeOutcome) (failing : Option Location) (c : Context) (h : Charge) (covered : Nat) :
    Message :=
  .reply 0x31#8 h.tag (posByte p)
    (.charge { outcome := o, covered := covered, uncovered := h.pulses - covered, steps := h.steps,
               balance := c.balance, credit := c.credit, failing := failing })

@[simp] theorem replyCharge_ctx (s : State) (p : Pos) (h : Charge) (o : ChargeOutcome) (n : Nat)
    (failing : Option Location) (q : Pos) : (s.replyCharge p h o n failing).ctx q = s.ctx q := rfl
@[simp] theorem replyCharge_unit (s : State) (p : Pos) (h : Charge) (o : ChargeOutcome) (n : Nat)
    (failing : Option Location) (q : Pos) : (s.replyCharge p h o n failing).unit q = s.unit q := rfl

theorem settles_replyCharge (p : Pos) (s : State) (h : Charge) (o : ChargeOutcome) (n : Nat)
    (failing : Option Location) :
    Settles p s (s.replyCharge p h o n failing) (s.ctx p) (s.unit p).work
      [chargeMessage p o failing (s.ctx p) h n] where
  apart := sameApartFrom_send s p _
  ctx := ⟨_, rfl⟩
  unit := ⟨0#9, by simp⟩
  linkFlags := rfl
  replies := by simp [State.replyCharge, chargeMessage, Message.isReply]

variable {p : Pos} {s : State} {o : ChargeOutcome} {failing : Option Location}

/-- The head in work is cut: settled by R63. -/
theorem cutHead_in_work {h : Charge} {behind : List Charge} {w : Work} (hq : (s.ctx p).queue = h :: behind)
    (hw : (s.unit p).work = some w) :
    let c := (s.ctx p).settleHead (w.available h)
    Settles p s (s.cutHead p o failing) c none [chargeMessage p o failing c h (min h.pulses (w.available h))] := by
  intro c
  simp only [State.cutHead, hq, hw]
  have h1 := settles_modCtx p s fun x => x.settleHead (w.available h)
  have h2 := h1.trans (settles_clearWork p _)
  have h3 := h2.trans (settles_replyCharge p _ h o (min h.pulses (w.available h)) failing)
  have h4 := h3.trans (settles_lowCompare p _)
  simpa using h4

/-- The head that is not in work is cut: cancelled by R66. -/
theorem cutHead_not_in_work {h : Charge} {behind : List Charge} (hq : (s.ctx p).queue = h :: behind)
    (hw : (s.unit p).work = none) :
    let c := (s.ctx p).cancelHead
    Settles p s (s.cutHead p o failing) c none [chargeMessage p o failing c h 0] := by
  intro c
  simp only [State.cutHead, hq, hw]
  have h1 := settles_modCtx p s Context.cancelHead
  have h2 := h1.trans (settles_replyCharge p _ h o 0 failing)
  have h3 := h2.trans (settles_lowCompare p _)
  simpa [hw] using h3

/-- Pulses uncovered one charge after another are the total that holds their sum (R67). -/
theorem foldl_addTotal (q : List Charge) : ∀ n x : Nat,
    q.foldl (fun n y => addTotal n y.pulses) (addTotal n x) = addTotal n (x + (q.map (·.pulses)).sum) := by
  induction q with
  | nil => intro n x; rfl
  | cons y q ih =>
    intro n x
    have join : addTotal (addTotal n x) y.pulses = addTotal n (x + y.pulses) := by simp only [addTotal]; omega
    rw [List.foldl_cons, join, ih, List.map_cons, List.sum_cons, Nat.add_assoc]

/-- A context whose charges have been cancelled one after another (R66). -/
def Context.cancelAll (c : Context) : Context :=
  { c with queue := [], uncovered := c.queue.foldl (fun n x => addTotal n x.pulses) c.uncovered }

theorem cancelAll_of_nil {c : Context} (h : c.queue = []) : c.cancelAll = c := by
  cases c
  simp_all [Context.cancelAll]

/-- Every charge of a queue that has none in work is cancelled, in queue order. -/
theorem cutAll_not_in_work (q : List Charge) : ∀ s : State, (s.ctx p).queue = q → (s.unit p).work = none →
    Settles p s (State.cutAll q.length s p o failing) (s.ctx p).cancelAll none
      (q.map fun x => chargeMessage p o failing (s.ctx p) x 0) := by
  induction q with
  | nil =>
    intro s hq hw
    have h := settles_refl p s
    rw [cancelAll_of_nil hq]
    simpa [hw, State.cutAll] using h
  | cons x q ih =>
    intro s hq hw
    have first := cutHead_not_in_work (o := o) (failing := failing) hq hw
    obtain ⟨b, hb⟩ := first.ctx
    have cut : (s.ctx p).cancelHead =
        { s.ctx p with uncovered := addTotal (s.ctx p).uncovered x.pulses, queue := q } := by
      simp [Context.cancelHead, hq]
    rw [cut] at hb
    have rest := ih (s.cutHead p o failing) (by rw [hb]) first.work
    rw [hb] at rest
    have all : Context.cancelAll
        { s.ctx p with uncovered := addTotal (s.ctx p).uncovered x.pulses, queue := q, warned := b } =
        { (s.ctx p).cancelAll with warned := b } := by simp [Context.cancelAll, hq]
    rw [all] at rest
    simpa [cut, chargeMessage, State.cutAll] using (first.trans rest).of_warned

theorem cutAvailable_of_nil (hq : (s.ctx p).queue = []) : s.cutAvailable p = (s.ctx p).credit := by
  simp [State.cutAvailable, hq]

theorem cutCovered_of_nil (hq : (s.ctx p).queue = []) : s.cutCovered p = 0 := by
  simp [State.cutCovered, hq]

theorem cutAvailable_not_in_work (hw : (s.unit p).work = none) : s.cutAvailable p = (s.ctx p).credit := by
  simp [State.cutAvailable, hw]

theorem cutCovered_not_in_work (hw : (s.unit p).work = none) : s.cutCovered p = 0 := by
  simp [State.cutCovered, hw]

theorem cutAvailable_in_work {h : Charge} {behind : List Charge} {w : Work} (hq : (s.ctx p).queue = h :: behind)
    (hw : (s.unit p).work = some w) : s.cutAvailable p = w.available h := by
  simp [State.cutAvailable, hq, hw, Work.available]

theorem cutCovered_in_work {h : Charge} {behind : List Charge} {w : Work} (hq : (s.ctx p).queue = h :: behind)
    (hw : (s.unit p).work = some w) : s.cutCovered p = min h.pulses (w.available h) := by
  simp [State.cutCovered, cutAvailable_in_work hq hw, hq, hw]

/-- The context of a position whose charges have all been cut: the head settled by R63 where it is in work, every other
charge by R66 (R67). -/
def State.cutCtx (s : State) (p : Pos) : Context :=
  let c := s.ctx p
  { c with
    queue := []
    credit := s.cutAvailable p - s.cutCovered p
    covered := if c.queue ≠ [] ∧ (s.unit p).work.isSome = true then addTotal c.covered (s.cutCovered p) else c.covered
    uncovered := if c.queue = [] then c.uncovered
      else addTotal c.uncovered ((c.queue.map (·.pulses)).sum - s.cutCovered p) }

theorem cutCtx_of_nil (hq : (s.ctx p).queue = []) : s.cutCtx p = s.ctx p := by
  unfold State.cutCtx
  rw [cutAvailable_of_nil hq, cutCovered_of_nil hq]
  cases h : s.ctx p
  simp_all

/-- Every charge of a position is cut, in queue order (R88). -/
theorem cutAll_settles (s : State) (p : Pos) (o : ChargeOutcome) (failing : Option Location) :
    ∃ w, Settles p s (State.cutAll (s.ctx p).queue.length s p o failing) (s.cutCtx p) w (s.cutReplies p o failing) := by
  cases hq : (s.ctx p).queue with
  | nil =>
    have silent : s.cutReplies p o failing = [] := by simp [State.cutReplies, hq]
    rw [cutCtx_of_nil hq, silent]
    exact ⟨_, settles_refl p s⟩
  | cons h behind =>
    refine ⟨none, ?_⟩
    cases hw : (s.unit p).work with
    | none =>
      have cut := cutAll_not_in_work (o := o) (failing := failing) (h :: behind) s hq hw
      have all : (s.ctx p).cancelAll = s.cutCtx p := by
        simp [Context.cancelAll, State.cutCtx, cutAvailable_not_in_work hw, cutCovered_not_in_work hw, hq, hw,
          foldl_addTotal]
      rw [all] at cut
      simpa [State.cutReplies, cutAvailable_not_in_work hw, cutCovered_not_in_work hw, hq, chargeMessage] using cut
    | some w =>
      have first := cutHead_in_work (o := o) (failing := failing) hq hw
      obtain ⟨b, hb⟩ := first.ctx
      have settled : (s.ctx p).settleHead (w.available h) = { s.ctx p with
          credit := s.cutAvailable p - s.cutCovered p
          covered := addTotal (s.ctx p).covered (s.cutCovered p)
          uncovered := addTotal (s.ctx p).uncovered (h.pulses - s.cutCovered p)
          queue := behind } := by
        simp [Context.settleHead, cutAvailable_in_work hq hw, cutCovered_in_work hq hw, hq]
      rw [settled] at hb
      have rest := cutAll_not_in_work (o := o) (failing := failing) behind (s.cutHead p o failing) (by rw [hb])
        first.work
      rw [hb] at rest
      have fits : s.cutCovered p ≤ h.pulses := by simp [cutCovered_in_work hq hw]
      have all : Context.cancelAll { s.ctx p with
          credit := s.cutAvailable p - s.cutCovered p
          covered := addTotal (s.ctx p).covered (s.cutCovered p)
          uncovered := addTotal (s.ctx p).uncovered (h.pulses - s.cutCovered p)
          queue := behind, warned := b } = { s.cutCtx p with warned := b } := by
        simp [Context.cancelAll, State.cutCtx, hq, hw, foldl_addTotal, Nat.sub_add_comm fits]
      rw [all] at rest
      have both := (first.trans rest).of_warned
      rw [settled, ← cutCovered_in_work hq hw] at both
      simpa [State.cutReplies, hq, chargeMessage, State.cutAll] using both

end Sys2Proof.Machine

namespace Sys2Proof.Machine

/-! ## The parts of a close in retained memory (R88) -/

/-- The doubt entry of a BURN torn at a position (R111, R113). -/
def Retained.tearEntry (m : Retained) (p : Pos) (f : InFlight) : DoubtEntry :=
  { creation := nextNumber 0 m.creationCounter, id := (m.ctx p).id, position := p, callId := (m.ctx p).callId,
    stage := f.stage, before := f.before.digits, resolved := none }

/-- The doubt list once a position's in-flight-write field has been handed over (R93, R113). -/
def Retained.tearDoubts (m : Retained) (p : Pos) : List DoubtEntry :=
  match (m.ctx p).field with
  | none => m.doubts
  | some f => if f.kind = .burn ∧ m.doubts.length < 48 then m.doubts ++ [m.tearEntry p f] else m.doubts

/-- The creation counter then. -/
def Retained.tearCounter (m : Retained) (p : Pos) : Nat :=
  match (m.ctx p).field with
  | none => m.creationCounter
  | some f => if f.kind = .burn ∧ m.doubts.length < 48 then nextNumber 0 m.creationCounter else m.creationCounter

/-- The doubt mark of the call then. -/
def Retained.tearMark (m : Retained) (p : Pos) : DoubtMark :=
  match (m.ctx p).field with
  | none => (m.ctx p).mark
  | some f =>
    if f.kind ≠ .burn then (m.ctx p).mark else if m.doubts.length < 48 then .journalled else .unjournalled

theorem modCtx_retained_self {m : Retained} {p : Pos} {f : Context → Context} (h : f (m.ctx p) = m.ctx p) :
    m.modCtx p f = m := by
  unfold Retained.modCtx
  rw [h]
  simp [Retained.ctx]

/-- Step 1 of a close as one equation: the doubt list, its counter, and the position's context. -/
theorem closeTear_eq (m : Retained) (p : Pos) :
    m.closeTear p = ({ m with doubts := m.tearDoubts p, creationCounter := m.tearCounter p } : Retained).modCtx p
      fun c => { c with field := none, mark := m.tearMark p } := by
  unfold Retained.closeTear Retained.tearMark Retained.tearDoubts Retained.tearCounter
  cases hf : (m.ctx p).field with
  | none =>
    refine (modCtx_retained_self ?_).symm
    change ({ m.ctx p with field := none } : Context) = m.ctx p
    rw [← hf]
  | some f =>
    cases hk : f.kind with
    | restage => simp [hk]; rfl
    | burn =>
      unfold Retained.handTear
      by_cases hn : m.doubts.length < 48 <;> simp [hk, hn, Config.doubtEntries]
      rfl

@[simp] theorem closeTear_ctx (m : Retained) (p : Pos) :
    (m.closeTear p).ctx p = { m.ctx p with field := none, mark := m.tearMark p } := by
  rw [closeTear_eq]
  exact ctx_modCtx_retained _ p _

theorem closeTear_ctx_ne (m : Retained) {p q : Pos} (h : q ≠ p) : (m.closeTear p).ctx q = m.ctx q := by
  rw [closeTear_eq]
  exact ctx_modCtx_retained_ne _ h _

@[simp] theorem closeTear_doubts (m : Retained) (p : Pos) : (m.closeTear p).doubts = m.tearDoubts p := by
  rw [closeTear_eq]; rfl

@[simp] theorem closeTear_creationCounter (m : Retained) (p : Pos) :
    (m.closeTear p).creationCounter = m.tearCounter p := by
  rw [closeTear_eq]; rfl

@[simp] theorem closeTear_records (m : Retained) (p : Pos) : (m.closeTear p).records = m.records := by
  rw [closeTear_eq]; rfl

@[simp] theorem closeTear_seqCounter (m : Retained) (p : Pos) : (m.closeTear p).seqCounter = m.seqCounter := by
  rw [closeTear_eq]; rfl

section
variable (m : Retained) (p : Pos) (cause : EndCause) (failing : Option Location)

@[simp] theorem storeCall_ctx :
    (m.storeCall p cause failing).ctx p = { m.ctx p with state := .noCall, queue := [] } :=
  ctx_modCtx_retained _ p _

theorem storeCall_ctx_ne {p q : Pos} (h : q ≠ p) : (m.storeCall p cause failing).ctx q = m.ctx q :=
  ctx_modCtx_retained_ne _ h _

@[simp] theorem storeCall_doubts : (m.storeCall p cause failing).doubts = m.doubts := rfl
@[simp] theorem storeCall_creationCounter : (m.storeCall p cause failing).creationCounter = m.creationCounter := rfl
@[simp] theorem storeCall_records :
    (m.storeCall p cause failing).records = m.records ++ [.call (m.callRecord p cause failing)] := rfl

end

/-! ## The CLOSEs that wait (R85, R94) -/

theorem foldl_answerAt (p : Pos) (type : Byte) (body : ReplyBody) (tags : List Byte) : ∀ s : State,
    tags.foldl (fun s tag => s.answerAt p type tag body) s =
      { s with link := { s.link with
          outbound := s.link.outbound ++ tags.map fun tag => .reply type tag (posByte p) body } } := by
  induction tags with
  | nil => intro s; simp
  | cons x tags ih =>
    intro s
    rw [List.foldl_cons, ih]
    simp [State.answerAt, State.send, State.modLink]

theorem answerCloses_eq (s : State) (p : Pos) (r : CallRecord) :
    s.answerCloses p r =
      { s.modUnit p (fun u => { u with closes := [] }) with
        link := { s.link with outbound := s.link.outbound ++ s.closeReplies p r } } := by
  unfold State.answerCloses
  dsimp only
  rw [foldl_answerAt]
  rfl

section
variable (s : State) (p : Pos) (r : CallRecord)

@[simp] theorem answerCloses_unit : (s.answerCloses p r).unit p = { s.unit p with closes := [] } := by
  rw [answerCloses_eq]
  exact unit_modUnit s p fun u => { u with closes := [] }

theorem answerCloses_unit_ne {p q : Pos} (h : q ≠ p) : (s.answerCloses p r).unit q = s.unit q := by
  rw [answerCloses_eq]
  exact unit_modUnit_ne s h fun u => { u with closes := [] }

@[simp] theorem answerCloses_retained : (s.answerCloses p r).retained = s.retained := by rw [answerCloses_eq]; rfl
@[simp] theorem answerCloses_arbiter : (s.answerCloses p r).arbiter = s.arbiter := by rw [answerCloses_eq]; rfl
@[simp] theorem answerCloses_linkFlags : (s.answerCloses p r).link.flags = s.link.flags := by rw [answerCloses_eq]

@[simp] theorem answerCloses_replies :
    (s.answerCloses p r).link.outbound.filter Message.isReply =
      s.link.outbound.filter Message.isReply ++ s.closeReplies p r := by
  have all : (s.closeReplies p r).filter Message.isReply = s.closeReplies p r := by
    simp [State.closeReplies, Message.isReply]
  rw [answerCloses_eq, List.filter_append, all]

end

/-- A bit that is set stays set whatever is raised beside it. -/
theorem or_and_of_and_eq {n : Nat} {a b : BitVec n} (x : BitVec n) (h : a &&& b = b) : (x ||| a) &&& b = b := by
  ext i hi
  have bit := congrArg (fun y => y[i]) h
  simp at bit ⊢
  tauto

/-! ## The close of a call (R88) -/

/-- The record that the close of a position's call stores (R88, R128). -/
def State.closedRecord (s : State) (p : Pos) (cause : EndCause) (failing : Option Location) : CallRecord :=
  let c := s.cutCtx p
  { seq := s.retained.seqCounter, position := p, callId := c.callId, id := c.id, balanceAtOpen := c.balanceAtOpen,
    burned := c.burned, covered := c.covered, uncovered := c.uncovered, forfeited := c.credit, cause := cause,
    mark := s.retained.tearMark p, failing := failing }

/-- What the close of a position's open call comes to, from `s` to `t`. -/
structure CallClosed (p : Pos) (cause : EndCause) (failing : Option Location) (s t : State) : Prop where
  others : ∀ q, q ≠ p → t.unit q = s.unit q ∧ t.ctx q = s.ctx q
  unit : ∃ f, t.unit p = { s.unit p with work := none, closes := [], flags := (s.unit p).flags ||| f } ∧
    (cause.raisesClosed = true → f &&& PosFlag.closed.bit = PosFlag.closed.bit)
  ctx : ∃ b, t.ctx p =
    { s.cutCtx p with state := .noCall, field := none, mark := s.retained.tearMark p, warned := b }
  arbiter : t.arbiter = s.arbiter
  doubts : t.retained.doubts = s.retained.tearDoubts p
  creationCounter : t.retained.creationCounter = s.retained.tearCounter p
  records : t.retained.records = s.retained.records ++ [.call (s.closedRecord p cause failing)]
  linkFlags : t.link.flags = s.link.flags ||| PartFlag.recordsWaiting.bit
  replies : t.link.outbound.filter Message.isReply =
    s.link.outbound.filter Message.isReply ++ s.cutReplies p cause.outcome failing ++
      s.closeReplies p (s.closedRecord p cause failing)

/-- The tear changes of a position's context nothing that its charges are cut by. -/
theorem cutCtx_closeTear (s : State) (p : Pos) :
    (s.modRetained fun m => m.closeTear p).cutCtx p =
      { s.cutCtx p with field := none, mark := s.retained.tearMark p } := by
  have torn : (s.modRetained fun m => m.closeTear p).ctx p =
      { s.ctx p with field := none, mark := s.retained.tearMark p } := closeTear_ctx s.retained p
  simp [State.cutCtx, State.cutAvailable, State.cutCovered, torn]

theorem cutReplies_closeTear (s : State) (p : Pos) (o : ChargeOutcome) (failing : Option Location) :
    (s.modRetained fun m => m.closeTear p).cutReplies p o failing = s.cutReplies p o failing := by
  have torn : (s.modRetained fun m => m.closeTear p).ctx p =
      { s.ctx p with field := none, mark := s.retained.tearMark p } := closeTear_ctx s.retained p
  simp [State.cutReplies, State.cutAvailable, State.cutCovered, torn]

theorem closeCall_of_noCall {s : State} {p : Pos} (h : (s.ctx p).state = .noCall) (cause : EndCause)
    (failing : Option Location) : s.closeCall p cause failing = s := if_pos h

/-- Outside the position's own flags, what the raising of CLOSED at the end of a close leaves as it was. -/
theorem raiseClosed_frame (s : State) (p : Pos) (cause : EndCause) :
    let t := if cause.raisesClosed then s.raise p .closed else s
    (∀ q, q ≠ p → t.unit q = s.unit q) ∧ t.retained = s.retained ∧ t.arbiter = s.arbiter ∧
      t.link.flags = s.link.flags ∧
      t.link.outbound.filter Message.isReply = s.link.outbound.filter Message.isReply ∧
      ∃ f, t.unit p = { s.unit p with flags := (s.unit p).flags ||| f } ∧
        (cause.raisesClosed = true → f &&& PosFlag.closed.bit = PosFlag.closed.bit) := by
  dsimp only
  split
  · exact ⟨fun q hq => unit_raise_ne s hq _, raise_retained s p _, raise_arbiter s p _, raise_linkFlags s p _,
      raise_replies s p _, PosFlag.closed.bit, unit_raise s p _, fun _ => by decide⟩
  · next h => exact ⟨fun _ _ => rfl, rfl, rfl, rfl, rfl, 0#9, by simp, fun h' => absurd h' h⟩

theorem closeCall_closed {s : State} {p : Pos} (h : (s.ctx p).state ≠ .noCall) (cause : EndCause)
    (failing : Option Location) : CallClosed p cause failing s (s.closeCall p cause failing) := by
  unfold State.closeCall
  rw [if_neg h]
  extract_lets s1 r s2 s3
  obtain ⟨w, cut⟩ := cutAll_settles (s.modRetained fun m => m.closeTear p) p cause.outcome failing
  have torn : (s.modRetained fun m => m.closeTear p).ctx p =
      { s.ctx p with field := none, mark := s.retained.tearMark p } := closeTear_ctx s.retained p
  rw [cutCtx_closeTear, cutReplies_closeTear, torn] at cut
  change Settles p _ s1 _ _ _ at cut
  obtain ⟨b, hb⟩ := cut.ctx
  obtain ⟨f, hf⟩ := cut.unit
  have retained1 := congrArg State.retained cut.apart.2
  have record : r = s.closedRecord p cause failing := by
    have hb' : s1.retained.ctx p = _ := hb
    have seq : s1.retained.seqCounter = s.retained.seqCounter :=
      (congrArg Retained.seqCounter retained1).trans (closeTear_seqCounter s.retained p)
    simp only [r, Retained.callRecord, hb', seq]
    rfl
  obtain ⟨others3, retained3, arbiter3, flags3, replies3, g, hg, closed⟩ : _ ∧ _ := raiseClosed_frame s2 p cause
  have unit2 : s2.unit p = { s1.unit p with work := none } := (raisePart_unit _ _ p).trans (unit_clearWork _ p)
  have retained2 : s2.retained = s1.retained.storeCall p cause failing := raisePart_retained _ _
  have retained4 : (s3.answerCloses p r).retained = s1.retained.storeCall p cause failing := by
    rw [answerCloses_retained, show s3.retained = _ from retained3, retained2]
  exact {
    others := fun q hq => by
      constructor
      · calc (s3.answerCloses p r).unit q = s3.unit q := answerCloses_unit_ne s3 r hq
          _ = s2.unit q := others3 q hq
          _ = s1.unit q := (raisePart_unit _ _ q).trans (unit_modUnit_ne _ hq _)
          _ = s.unit q := (cut.apart.1 q hq).1
      · calc (s3.answerCloses p r).ctx q = (s1.retained.storeCall p cause failing).ctx q :=
              congrArg (Retained.ctx · q) retained4
          _ = s1.ctx q := storeCall_ctx_ne _ cause failing hq
          _ = s.ctx q := (cut.apart.1 q hq).2.trans (closeTear_ctx_ne s.retained hq)
    unit := by
      refine ⟨f ||| g, ?_, fun hc => or_and_of_and_eq f (closed hc)⟩
      rw [answerCloses_unit, show s3.unit p = _ from hg, unit2, hf]
      simp [BitVec.or_assoc]
    ctx := ⟨b, by
      change (s3.answerCloses p r).retained.ctx p = _
      rw [retained4, storeCall_ctx, show s1.retained.ctx p = _ from hb]
      rfl⟩
    arbiter := by
      calc (s3.answerCloses p r).arbiter = s2.arbiter := (answerCloses_arbiter s3 p r).trans arbiter3
        _ = s1.arbiter := raisePart_arbiter _ _
        _ = s.arbiter := by rw [cut.apart.2]; rfl
    doubts := by
      rw [retained4, storeCall_doubts]
      exact (congrArg Retained.doubts retained1).trans (closeTear_doubts s.retained p)
    creationCounter := by
      rw [retained4, storeCall_creationCounter]
      exact (congrArg Retained.creationCounter retained1).trans (closeTear_creationCounter s.retained p)
    records := by
      rw [retained4, storeCall_records, ← record]
      exact congrArg (· ++ [Record.call r])
        ((congrArg Retained.records retained1).trans (closeTear_records s.retained p))
    linkFlags := by
      rw [answerCloses_linkFlags, show s3.link.flags = _ from flags3,
        show s2.link.flags = _ from raisePart_linkFlags _ _]
      exact congrArg (· ||| PartFlag.recordsWaiting.bit) cut.linkFlags
    replies := by
      have waiting : s3.closeReplies p r = s.closeReplies p r := by
        simp only [State.closeReplies, show s3.unit p = _ from hg, unit2, hf]
        rfl
      rw [answerCloses_replies, waiting, ← record, show s3.link.outbound.filter _ = _ from replies3,
        show s2.link.outbound.filter _ = _ from raisePart_replies _ _]
      exact congrArg (· ++ s.closeReplies p r) cut.replies }

end Sys2Proof.Machine

namespace Sys2Proof.Machine

/-! ## Entry to FAULTED (R31, R91) -/

/-- The line unit's part of an entry to FAULTED, and its flag (R31): contact power off, the fault, the raising. -/
def State.faultEntry (s : State) (p : Pos) (c : FaultCause) (failing : Option Location) : State :=
  ((s.contactOff p .unpowered).modLine p (LineUnit.faulted c failing)).raise p c.flag

section
variable (s : State) (p : Pos) (c : FaultCause) (failing : Option Location)

@[simp] theorem faultEntry_unit :
    (s.faultEntry p c failing).unit p =
      { s.unit p with
        line := LineUnit.faulted c failing { s.line p with contact := .unpowered, rest := none }
        reader := (s.unit p).reader.map (Seated.onCard (cardCut (Config.cutPoint s.freeCount)))
        flags := (s.unit p).flags ||| c.flag.bit } := by
  simp [State.faultEntry, State.line]

@[simp] theorem faultEntry_ctx (q : Pos) : (s.faultEntry p c failing).ctx q = s.ctx q := by simp [State.faultEntry]
@[simp] theorem faultEntry_retained : (s.faultEntry p c failing).retained = s.retained := by simp [State.faultEntry]
@[simp] theorem faultEntry_linkFlags : (s.faultEntry p c failing).link.flags = s.link.flags := by
  simp [State.faultEntry]
@[simp] theorem faultEntry_replies :
    (s.faultEntry p c failing).link.outbound.filter Message.isReply = s.link.outbound.filter Message.isReply := by
  simp [State.faultEntry]

variable {s p c failing}

theorem enterFaulted_identifying (h : (s.line p).state = .identifying) :
    s.enterFaulted p c failing = (s.faultEntry p c failing).dropSequence p := by
  simp [State.enterFaulted, State.faultEntry, h]

theorem enterFaulted_inCall (h : (s.line p).state = .inCall) :
    s.enterFaulted p c failing = (s.faultEntry p c failing).closeCall p c.endCause failing := by
  simp [State.enterFaulted, State.faultEntry, h]

end

@[simp] theorem dropSequence_unit (s : State) (p : Pos) :
    (s.dropSequence p).unit p = { s.unit p with seq := none, terms := none } := by
  simp [State.dropSequence]

/-- The close of a call, or none where no call is open, leaves these of a position, and no call. -/
theorem closeCall_unit (s : State) (p : Pos) (cause : EndCause) (failing : Option Location) :
    let t := s.closeCall p cause failing
    (t.ctx p).state = .noCall ∧ ∃ w cl f, t.unit p =
      { s.unit p with work := w, closes := cl, flags := (s.unit p).flags ||| f } := by
  dsimp only
  by_cases h : (s.ctx p).state = .noCall
  · rw [closeCall_of_noCall h]
    exact ⟨h, (s.unit p).work, (s.unit p).closes, 0#9, by simp⟩
  · have closed := closeCall_closed h cause failing
    obtain ⟨b, hb⟩ := closed.ctx
    obtain ⟨f, hf, -⟩ := closed.unit
    exact ⟨by rw [hb], _, _, f, hf⟩

/-! ## A line failure (R28, R31) -/

/-- What a failed line leaves of its position (R31, R91). -/
structure LineFailed (p : Pos) (s t : State) : Prop where
  state : (t.line p).state = .faulted
  cause : (t.line p).cause = some .lineFault
  checkLatch : (t.line p).checkLatch = true
  contact : (t.line p).contact = .unpowered
  order : (t.line p).order = none
  flags : (t.unit p).flags &&& 0x100#9 = 0x100#9
  held : (t.unit p).held = (s.unit p).held
  noCall : (s.line p).state = .inCall → (t.ctx p).state = .noCall

theorem lineFailure_failed {s : State} {p : Pos} (h : (s.line p).state = .identifying ∨ (s.line p).state = .inCall) :
    LineFailed p s (s.lineFailure p) := by
  obtain ⟨line, held, f, flags⟩ :
      (s.lineFailure p).line p =
          LineUnit.faulted .lineFault none { s.line p with contact := .unpowered, rest := none } ∧
        ((s.lineFailure p).unit p).held = (s.unit p).held ∧
        ∃ f, ((s.lineFailure p).unit p).flags = (s.unit p).flags ||| 0x100#9 ||| f := by
    unfold State.lineFailure State.line
    rcases h with h | h
    · rw [enterFaulted_identifying h]
      exact ⟨by simp [State.line], by simp, 0#9, by simp [FaultCause.flag, PosFlag.bit]⟩
    · obtain ⟨-, w, cl, f, hf⟩ := closeCall_unit (s.faultEntry p .lineFault none) p FaultCause.lineFault.endCause none
      rw [enterFaulted_inCall h, hf]
      exact ⟨by simp [State.line], by simp, f, by simp [FaultCause.flag, PosFlag.bit]⟩
  exact {
    state := by rw [line]; rfl
    cause := by rw [line]; rfl
    checkLatch := by rw [line]; simp [LineUnit.faulted]
    contact := by rw [line]; rfl
    order := by rw [line]; rfl
    flags := by
      rw [flags, BitVec.or_assoc, BitVec.or_comm 0x100#9 f, ← BitVec.or_assoc]
      exact or_and_of_and_eq _ (by decide)
    held := held
    noCall := fun hc => by
      rw [State.lineFailure, enterFaulted_inCall hc]
      exact (closeCall_unit _ p _ none).1 }

/-- After a line failure nothing is left for the rest count or a RESTART to do. -/
theorem lineFailure_settled {s : State} {p : Pos} (h : (s.line p).state = .identifying ∨ (s.line p).state = .inCall)
    (hr : s.restart = .none) : ((s.lineFailure p).startRest p).restartSettle = s.lineFailure p := by
  have failed := lineFailure_failed h
  rw [startRest_of_state (by simp [failed.state]) (by simp [failed.state]),
    restartSettle_of_none ((kept_restart (kept_lineFailure s p)).2 hr)]

end Sys2Proof.Machine

namespace Sys2Proof.Machine

/-! ## Grants (R98 to R100) -/

@[simp] theorem countSend_line (r : Requester) (u : Position) : (u.countSend r).line = u.line := by
  cases r <;> rfl

/-- The holder that a grant makes of a request. -/
def WriteRequest.holder (r : WriteRequest) : Holder := { position := r.position, kind := r.kind, stage := r.stage }

/-- The in-flight-write field that a grant writes. -/
def WriteRequest.field (r : WriteRequest) (t : Tally) : InFlight := { kind := r.kind, stage := r.stage, before := t }

/-- A grant whose order is sent (R100). -/
def State.grantSent (s : State) (r : WriteRequest) (t : Tally) : State :=
  ((({ s with arbiter := { s.arbiter with held := s.arbiter.held ++ [r.holder] } } : State).modCtx r.position
    fun c => { c with field := some (r.field t) }).modUnit r.position (Position.countSend r.requester)).beginOrder
      r.position r.kind.order r.stage .first .write

theorem grantTo_sent {s : State} {r : WriteRequest} {t : Tally} (hc : (s.line r.position).contact = .powered)
    (ht : s.tallyBefore r = some t) : s.grantTo r = s.grantSent r t := by
  simp only [State.grantTo, hc, ht]
  rfl

theorem grantTo_given_up {s : State} {r : WriteRequest} (hc : (s.line r.position).contact ≠ .powered) :
    s.grantTo r = s.beginWake r.position .first .wakeRequest := by
  simp only [State.grantTo, if_pos hc]

section
variable (s : State) (r : WriteRequest) (t : Tally)

@[simp] theorem grantSent_arbiter :
    (s.grantSent r t).arbiter = { s.arbiter with held := s.arbiter.held ++ [r.holder] } := rfl

@[simp] theorem grantSent_ctx :
    (s.grantSent r t).ctx r.position = { s.ctx r.position with field := some (r.field t) } :=
  ctx_modCtx _ r.position _

@[simp] theorem grantSent_line :
    (s.grantSent r t).line r.position = { s.line r.position with
      order := some (s.begunOrder r.position r.kind.order r.stage .first .write), rest := none } := by
  simp only [State.grantSent, State.line, unit_beginOrder, unit_modUnit, countSend_line]
  rfl

end

theorem grantAll_full {s : State} (h : 4 ≤ s.arbiter.held.length) : s.grantAll = s := by
  have full : s.arbiter.canGrant = false := by
    simp [Arbiter.canGrant, Config.channels, show ¬ s.arbiter.held.length < 4 by omega]
  unfold State.grantAll
  cases hw : s.arbiter.waiting with
  | nil => rfl
  | cons r rest => simp [State.grantLoop, hw, full]

/-- With one request waiting, a free channel goes to it. -/
theorem grantAll_one {s : State} {r : WriteRequest} (hg : s.arbiter.granting = true)
    (h : s.arbiter.held.length < 4) (hw : s.arbiter.waiting = [r]) :
    s.grantAll = ({ s with arbiter := { s.arbiter with waiting := [] } } : State).grantTo r := by
  have free : s.arbiter.canGrant = true := by simp [Arbiter.canGrant, Config.channels, hg, h]
  simp [State.grantAll, hw, State.grantLoop, free]

/-- A position that may ask, and does not ask or hold yet, joins the waiting list (R98). -/
theorem requestWrite_joins {s : State} {p : Pos} {r : WriteRequest} (hr : s.wanted p = some r)
    (hm : s.mayBegin p = true) (ho : (s.line p).order = none) (hw : s.waits p = false) (hh : s.holds p = false)
    (hc : (s.line p).contact = .powered) : s.requestWrite p = (s.joinWaiting r).grantAll := by
  simp [State.requestWrite, hr, hm, ho, hw, hh, hc]

theorem not_waits {s : State} {p : Pos} (h : ∀ w ∈ s.arbiter.waiting, w.position ≠ p) : s.waits p = false := by
  simpa [State.waits] using h

theorem not_holds {s : State} {p : Pos} (h : ∀ x ∈ s.arbiter.held, x.position ≠ p) : s.holds p = false := by
  simpa [State.holds] using h

theorem mayBegin_iff (s : State) (p : Pos) : s.mayBegin p = true ↔ (s.unit p).wait = none ∧ s.restart = .none := by
  simp [State.mayBegin]

/-! ## Answers (R26) -/

theorem doAnswerFrame_answer {s : State} {p : Pos} {bs : List Byte} (h : s.cardAnswers p = some bs) :
    s.doAnswerFrame p .answer = (((s.modCard p cardFinish).takeAnswer p bs).startRest p).restartSettle := by
  simp [State.doAnswerFrame, State.arrives, h]

theorem doAnswerFrame_stray (s : State) (p : Pos) (bs : List Byte) :
    s.doAnswerFrame p (.stray bs) = ((s.takeAnswer p bs).startRest p).restartSettle := rfl

theorem doAnswerFrame_altered (s : State) (p : Pos) (bs : List Byte) :
    s.doAnswerFrame p (.altered bs) = (((s.modCard p cardFinish).takeAnswer p bs).startRest p).restartSettle := rfl

section
variable {s : State} {p : Pos} {o : Order} (ho : (s.line p).order = some o) (ht : o.purpose ≠ .test)
  {bs content : List Byte}
include ho ht

theorem takeAnswer_answered {a : Answer} (hb : readLineFrame bs = .good o.kind.code content)
    (ha : readAnswer o.kind content = some a) : s.takeAnswer p bs = s.answered p o a := by
  simp [State.takeAnswer, ho, ht, hb, ha]

theorem takeAnswer_malformed (hb : readLineFrame bs = .good o.kind.code content)
    (ha : readAnswer o.kind content = none) : s.takeAnswer p bs = s.attemptFailed p o := by
  simp [State.takeAnswer, ho, ht, hb, ha]

theorem takeAnswer_bad (hb : readLineFrame bs = .bad) : s.takeAnswer p bs = s.attemptFailed p o := by
  simp [State.takeAnswer, ho, ht, hb]

theorem takeAnswer_noFrame (hb : readLineFrame bs = .noFrame) : s.takeAnswer p bs = s := by
  simp [State.takeAnswer, ho, ht, hb]

theorem takeAnswer_unmatched {kind : Byte} (hb : readLineFrame bs = .good kind content) (hk : kind ≠ o.kind.code) :
    s.takeAnswer p bs = s := by
  simp [State.takeAnswer, ho, ht, hb, hk]

/-- The answer frame of a WAKE is read as its code (R170). -/
theorem takeAnswer_code (hk : o.kind = .wake) (code : Byte) :
    s.takeAnswer p (lineFrame 0x01#8 [0#8, code]) = s.answered p o (.code code) := by
  have read : readAnswer o.kind [0#8, code] = some (.code code) := by rw [hk]; rfl
  refine takeAnswer_answered ho ht ?_ read
  rw [hk]
  exact readLineFrame_lineFrame _ _ (by simp)

end

/-! ## The answer of a card to a WAKE (R3, R37) -/

/-- A position once the seated card has answered the WAKE in flight: no order, and contacts that were WAKING are
POWERED. -/
def State.woken (s : State) (p : Pos) : State := ((s.modCard p cardFinish).endOrder p).contactAwake p

theorem cardAnswers_wake {s : State} {p : Pos} {c : Card} {b : Bool} {n : Nat}
    (hr : (s.unit p).reader = some (.card c)) (hc : c.power = .working .wake b n) (hn : n ≤ 20) :
    s.cardAnswers p = some (lineFrame 0x01#8 [0#8, 0x5C#8]) := by
  have time : n ≤ cardAnswerMs .wake := hn
  simp only [State.cardAnswers, hr, cardAnswer, hc, if_pos time]
  rfl

theorem cardFinish_wake {c : Card} {b : Bool} {n : Nat} (hc : c.power = .working .wake b n) :
    cardFinish c = { c with power := .awake } := by
  simp [cardFinish, hc, formDone, orderForms]

theorem woken_unit {s : State} {p : Pos} {c : Card} {b : Bool} {n : Nat} (hr : (s.unit p).reader = some (.card c))
    (hc : c.power = .working .wake b n) (hw : (s.line p).contact = .waking) :
    (s.woken p).unit p = { s.unit p with
      line := { s.line p with order := none, contact := .powered }
      reader := some (.card { c with power := .awake }) } := by
  have hw' : (s.unit p).line.contact = .waking := hw
  simp [State.woken, State.line, hw', hr, Seated.onCard, cardFinish_wake hc]

theorem sameApartFrom_woken (s : State) (p : Pos) : s.sameApartFrom p (s.woken p) :=
  sameApartFrom_trans (sameApartFrom_trans (sameApartFrom_modCard s p _) (sameApartFrom_modLine _ p _))
    (sameApartFrom_modLine _ p _)

end Sys2Proof.Machine

namespace Sys2Proof.Machine

/-! ## What the code of a WAKE answer leads to (R25, R37, R83) -/

section
variable {s : State} {p : Pos} {o : Order}

theorem answered_firstWake (h : o.purpose = .firstWake) :
    s.answered p o (.code 0x5C#8) = ((s.endOrder p).contactAwake p).firstWoken p := by
  simp [State.answered, h, Config.answerCode]

theorem answered_firstWake_other {code : Byte} (h : o.purpose = .firstWake) (hc : code ≠ 0x5C#8) :
    s.answered p o (.code code) = (s.endOrder p).reject p .unreadable := by
  simp [State.answered, h, Config.answerCode, hc]

theorem answered_wakeRead {r : ReadFor} {a : Attempt} (h : o.purpose = .wakeRead r a) :
    s.answered p o (.code 0x5C#8) = ((s.endOrder p).contactAwake p).wokenForRead p r a := by
  simp [State.answered, h, Config.answerCode]

theorem answered_wakeRequest (h : o.purpose = .wakeRequest) :
    s.answered p o (.code 0x5C#8) = ((s.endOrder p).contactAwake p).wokenForRequest p := by
  simp [State.answered, h, Config.answerCode]

theorem answered_wake_other {code : Byte} (h : o.purpose = .wakeRequest ∨ ∃ r b, o.purpose = .wakeRead r b)
    (hc : code ≠ 0x5C#8) : s.answered p o (.code code) = (s.endOrder p).lineFailure p := by
  obtain h | ⟨r, b, h⟩ := h <;> simp [State.answered, h, Config.answerCode, hc]

/-- The code of a card that answers a WAKE is worked on the position as `woken` leaves it. -/
theorem doAnswerFrame_wake {c : Card} {b : Bool} {n : Nat} (ho : (s.line p).order = some o) (hk : o.kind = .wake)
    (ht : o.purpose ≠ .test) (hr : (s.unit p).reader = some (.card c)) (hc : c.power = .working .wake b n)
    (hn : n ≤ 20) :
    s.doAnswerFrame p .answer =
      (((s.modCard p cardFinish).answered p o (.code 0x5C#8)).startRest p).restartSettle := by
  have order : ((s.modCard p cardFinish).line p).order = some o := by simpa [State.line] using ho
  rw [doAnswerFrame_answer (cardAnswers_wake hr hc hn), takeAnswer_code order ht hk]

/-- A code that is not the seated card's. -/
theorem doAnswerFrame_code (ho : (s.line p).order = some o) (hk : o.kind = .wake) (ht : o.purpose ≠ .test)
    (code : Byte) :
    s.doAnswerFrame p (.stray (lineFrame 0x01#8 [0#8, code])) =
      ((s.answered p o (.code code)).startRest p).restartSettle := by
  rw [doAnswerFrame_stray, takeAnswer_code ho ht hk]

end

/-- Nothing follows an answer that has brought a new order, but that order. -/
theorem settled_of_order {s : State} {p : Pos} (ho : (s.line p).order ≠ none) (hr : s.restart = .none) :
    (s.startRest p).restartSettle = s := by
  rw [startRest_of_order ho, restartSettle_of_none hr]

theorem woken_mayBegin (s : State) (p : Pos) : (s.woken p).mayBegin p = s.mayBegin p := by
  simp only [State.mayBegin, State.woken, unit_contactAwake, unit_endOrder, unit_modCard]
  rfl

/-! ## Step 1 of an identification (R36, R37) -/

theorem sendRead_powered {s : State} {p : Pos} (hc : (s.line p).contact = .powered) (r : ReadFor) (a : Attempt) :
    s.sendRead p r a = s.beginOrder p (s.readKind p r) 0 a (.read r) := if_pos hc

theorem sendRead_not_powered {s : State} {p : Pos} (hc : (s.line p).contact ≠ .powered) (r : ReadFor) (a : Attempt) :
    s.sendRead p r a = s.beginWake p .first (.wakeRead r a) := if_neg hc

/-- The sequence record at step 2. -/
def Position.stepTwo (u : Position) : Position := { u with seq := u.seq.map fun q => { q with step := 2 } }

theorem firstWoken_reads {s : State} {p : Pos} {q : Sequence} (hm : s.mayBegin p = true)
    (hc : (s.line p).contact = .powered) (hq : (s.unit p).seq = some q) :
    s.firstWoken p = (s.modUnit p Position.stepTwo).beginOrder p .readHead 0 .first (.read .sequence) := by
  have may : (s.modUnit p Position.stepTwo).mayBegin p = true := by
    rw [mayBegin_iff] at hm ⊢
    simpa [Position.stepTwo] using hm
  have contact : ((s.modUnit p Position.stepTwo).line p).contact = .powered := by
    simpa [Position.stepTwo, State.line] using hc
  have head : (s.modUnit p Position.stepTwo).readKind p .sequence = .readHead := by
    simp [State.readKind, Position.stepTwo, hq]
  change (s.modUnit p Position.stepTwo).nextRead p = _
  rw [State.nextRead, if_pos may, sendRead_powered contact, head]

theorem reject_unit (s : State) (p : Pos) (c : Cause) :
    (s.reject p c).unit p = { (Position.rejected c { s.unit p with
      line := { s.line p with contact := .unpowered, rest := none }
      reader := (s.unit p).reader.map (Seated.onCard (cardCut (Config.cutPoint s.freeCount))) }) with
        flags := (s.unit p).flags ||| 0x008#9 } := by
  simp [State.reject, Position.rejected, PosFlag.bit]

theorem sameApartFrom_reject (s : State) (p : Pos) (c : Cause) : s.sameApartFrom p (s.reject p c) :=
  sameApartFrom_trans (sameApartFrom_trans (sameApartFrom_contactOff s p _) (sameApartFrom_modUnit _ p _))
    (sameApartFrom_raise _ p _)

section
variable {s : State} {p : Pos} {o : Order}

/-- A card's 0x5C to the WAKE of step 1: READ HEAD is sent. -/
theorem firstWake_card {q : Sequence} {c : Card} {b : Bool} {n : Nat} (ho : (s.line p).order = some o)
    (hk : o.kind = .wake) (hp : o.purpose = .firstWake) (hw : (s.line p).contact = .waking)
    (hq : (s.unit p).seq = some q) (hm : s.mayBegin p = true) (hr : (s.unit p).reader = some (.card c))
    (hc : c.power = .working .wake b n) (hn : n ≤ 20) :
    s.doAnswerFrame p .answer =
      ((s.woken p).modUnit p Position.stepTwo).beginOrder p .readHead 0 .first (.read .sequence) := by
  have unit := woken_unit hr hc hw
  have restart := ((mayBegin_iff s p).1 hm).2
  rw [doAnswerFrame_wake ho hk (by simp [hp]) hr hc hn, answered_firstWake hp]
  change (((s.woken p).firstWoken p).startRest p).restartSettle = _
  rw [firstWoken_reads (s := s.woken p) (q := q) (by rw [woken_mayBegin]; exact hm) (by rw [State.line, unit])
    (by rw [unit]; exact hq)]
  exact settled_of_order (by simp [State.line]) restart

/-- A card's 0x5C to a WAKE in front of a read: the read is sent. -/
theorem wakeRead_card {r : ReadFor} {a : Attempt} {c : Card} {b : Bool} {n : Nat} (ho : (s.line p).order = some o)
    (hk : o.kind = .wake) (hp : o.purpose = .wakeRead r a) (hw : (s.line p).contact = .waking)
    (hs : s.restart = .none) (ha : r ≠ .sequence ∨ a ≠ .first ∨ (s.unit p).wait = none)
    (hr : (s.unit p).reader = some (.card c)) (hc : c.power = .working .wake b n) (hn : n ≤ 20) :
    s.doAnswerFrame p .answer = (s.woken p).beginOrder p (s.readKind p r) 0 a (.read r) := by
  have unit := woken_unit hr hc hw
  have goes : ¬ (r = .sequence ∧ a = .first ∧ (s.woken p).mayBegin p = false) := by
    rintro ⟨h1, h2, h3⟩
    obtain h | h | h := ha
    · exact h h1
    · exact h h2
    · rw [woken_mayBegin, (mayBegin_iff s p).2 ⟨h, hs⟩] at h3
      cases h3
  have kind : (s.woken p).readKind p r = s.readKind p r := by simp only [State.readKind, unit]
  rw [doAnswerFrame_wake ho hk (by simp [hp]) hr hc hn, answered_wakeRead hp]
  change (((s.woken p).wokenForRead p r a).startRest p).restartSettle = _
  rw [State.wokenForRead, if_neg goes, sendRead_powered (by rw [State.line, unit]), kind]
  exact settled_of_order (by simp [State.line]) hs

theorem readKind_cases (s : State) (p : Pos) (r : ReadFor) :
    s.readKind p r = .readHead ∨ s.readKind p r = .readTally := by
  unfold State.readKind
  split
  · split <;> simp
  · simp

theorem readKind_eq_readHead {s : State} {p : Pos} {r : ReadFor} :
    s.readKind p r = .readHead ↔ r = .sequence ∧ (s.unit p).seq.map (·.step) = some 2 := by
  unfold State.readKind
  cases r <;> cases (s.unit p).seq <;> simp

theorem readTimeout {k : OrderKind} (h : k = .readHead ∨ k = .readTally) (c : LineClass) :
    answerTimeoutMs k c = if c = .short then 10 else 20 := by
  rcases h with rfl | rfl <;> cases c <;> rfl

end

/-! ## A write channel asked for (R98, R100) -/

section
variable {s : State} {r : WriteRequest}

/-- A request that finds no channel free waits. -/
theorem joinWaiting_full (h : 4 ≤ s.arbiter.held.length) : (s.joinWaiting r).grantAll = s.joinWaiting r :=
  grantAll_full h

/-- A position whose rest count has stopped (R24). -/
def State.restStopped (s : State) (p : Pos) : State := s.modLine p fun l => { l with rest := none }

@[simp] theorem restStopped_line (s : State) (p : Pos) : (s.restStopped p).line p = { s.line p with rest := none } :=
  line_modLine s p _

/-- A request that finds a channel free and no other request is granted at once. -/
theorem joinWaiting_granted {u : Tally} (hg : s.arbiter.granting = true) (h : s.arbiter.held.length < 4)
    (hw : s.arbiter.waiting = []) (hc : (s.line r.position).contact = .powered) (ht : s.tallyBefore r = some u) :
    (s.joinWaiting r).grantAll = (s.restStopped r.position).grantSent r u := by
  have alone : ({ s.joinWaiting r with arbiter := { (s.joinWaiting r).arbiter with waiting := [] } } : State) =
      s.restStopped r.position := by
    rw [← hw]
    rfl
  have before : (s.restStopped r.position).tallyBefore r = some u := by
    rw [← ht]
    simp only [State.tallyBefore, State.restStopped, unit_modLine, modLine_ctx]
  have waits : (s.joinWaiting r).arbiter.waiting = [r] := congrArg (· ++ [r]) hw
  rw [grantAll_one (s := s.joinWaiting r) hg h waits, alone, grantTo_sent (by simpa using hc) before]

/-- What a position has once it asks for a channel, from `s` to `t` (R98, R100): its request waits, or it is granted. -/
def State.asked (s : State) (r : WriteRequest) (u : Tally) (t : State) : Prop :=
  let p := r.position
  (4 ≤ s.arbiter.held.length → (t.line p).contact = .powered ∧ (t.line p).order = none ∧ t.ctx p = s.ctx p ∧
    t.arbiter = { s.arbiter with waiting := s.arbiter.waiting ++ [r] }) ∧
  (s.arbiter.granting = true → s.arbiter.held.length < 4 → s.arbiter.waiting = [] →
    (t.line p).contact = .powered ∧ (t.line p).order = some (s.begunOrder p r.kind.order r.stage .first .write) ∧
      t.ctx p = { s.ctx p with field := some (r.field u) } ∧
      t.arbiter = { s.arbiter with held := s.arbiter.held ++ [r.holder] })

/-- Asking for a channel, where the rest count does not run, comes to one of the two. -/
theorem requestWrite_asked {u : Tally} (hr : s.wanted r.position = some r) (hm : s.mayBegin r.position = true)
    (ho : (s.line r.position).order = none) (hw : ∀ w ∈ s.arbiter.waiting, w.position ≠ r.position)
    (hh : ∀ x ∈ s.arbiter.held, x.position ≠ r.position) (hc : (s.line r.position).contact = .powered)
    (ht : s.tallyBefore r = some u)
    (hq : (s.line r.position).state = .identifying ∨ (s.ctx r.position).queue ≠ []) :
    s.asked r u ((s.requestWrite r.position).startRest r.position).restartSettle := by
  have restart := ((mayBegin_iff s r.position).1 hm).2
  rw [requestWrite_joins hr hm ho (not_waits hw) (not_holds hh) hc]
  constructor
  · intro full
    have still : (s.joinWaiting r).startRest r.position = s.joinWaiting r := by
      obtain h | h := hq
      · have state : ((s.joinWaiting r).line r.position).state = .identifying := by
          rw [State.joinWaiting, line_modLine]; exact h
        exact startRest_of_state (by simp [state]) (by simp [state])
      · exact startRest_of_queue h
    rw [joinWaiting_full full, still, restartSettle_of_none (s := s.joinWaiting r) restart]
    simp only [State.joinWaiting, line_modLine]
    exact ⟨hc, ho, rfl, rfl⟩
  · intro granting free empty
    rw [joinWaiting_granted granting free empty hc ht,
      settled_of_order (s := (s.restStopped r.position).grantSent r u) (by simp) restart,
      grantSent_line, grantSent_ctx, grantSent_arbiter, restStopped_line]
    exact ⟨hc, rfl, rfl, rfl⟩

end

end Sys2Proof.Machine

namespace Sys2Proof.Machine

/-! ## The write that waited behind a WAKE -/

section
variable {s : State} {p : Pos}

theorem wanted_inCall {w : Work} {st : Step} (hs : (s.line p).state = .inCall) (hw : (s.unit p).work = some w)
    (ht : w.step = some st) : s.wanted p =
      some { position := p, kind := st.awaited, stage := st.stage, requester := .chargeProcessor } := by
  have hs' : (s.unit p).line.state = .inCall := hs
  simp [State.wanted, hs', hw, ht]

theorem wanted_identifying {q : Sequence} {u : Tally} (hs : (s.line p).state = .identifying)
    (hq : (s.unit p).seq = some q) (hu : q.tally = some u) (hl : u.latch ≠ 0) : s.wanted p =
      some { position := p, kind := .restage, stage := u.latch, requester := .identificationUnit } := by
  have hs' : (s.unit p).line.state = .identifying := hs
  simp [State.wanted, hs', hq, hu, hl]

theorem wokenForRequest_inCall {h : Charge} {behind : List Charge} {w : Work} {st : Step}
    (hs : (s.line p).state = .inCall) (hm : s.mayBegin p = true) (hc : (s.ctx p).state = .openCall)
    (hq : (s.ctx p).queue = h :: behind) (hw : (s.unit p).work = some w) (ht : w.step = some st) :
    s.wokenForRequest p = s.requestWrite p := by
  simp [State.wokenForRequest, hs, State.continueHead, hm, hc, hq, hw, ht]

theorem wokenForRequest_identifying (hs : (s.line p).state = .identifying) :
    s.wokenForRequest p = s.requestWrite p := by
  simp [State.wokenForRequest, hs]

/-- A card's 0x5C to a WAKE in front of a write request, where the position has a write to ask for: it asks. -/
theorem wakeRequest_card {o : Order} {r : WriteRequest} {u : Tally} {c : Card} {b : Bool} {n : Nat}
    (ho : (s.line r.position).order = some o) (hk : o.kind = .wake) (hp : o.purpose = .wakeRequest)
    (hc : (s.line r.position).contact = .waking) (hs : s.restart = .none) (hw : (s.unit r.position).wait = none)
    (hh : ∀ x ∈ s.arbiter.held, x.position ≠ r.position) (hq : ∀ x ∈ s.arbiter.waiting, x.position ≠ r.position)
    (hr : (s.unit r.position).reader = some (.card c)) (hcard : c.power = .working .wake b n) (hn : n ≤ 20)
    (hasks : (s.woken r.position).wokenForRequest r.position = (s.woken r.position).requestWrite r.position)
    (hwant : (s.woken r.position).wanted r.position = some r) (hu : (s.woken r.position).tallyBefore r = some u)
    (hrest : (s.line r.position).state = .identifying ∨ (s.ctx r.position).queue ≠ []) :
    s.asked r u (s.doAnswerFrame r.position .answer) := by
  have unit := woken_unit hr hcard hc
  have may : (s.woken r.position).mayBegin r.position = true := by
    rw [woken_mayBegin]; exact (mayBegin_iff s _).2 ⟨hw, hs⟩
  have line : (s.woken r.position).line r.position =
      { s.line r.position with order := none, contact := .powered } := by rw [State.line, unit]
  have asked := requestWrite_asked (s := s.woken r.position) hwant may (by rw [line]) hq hh (by rw [line]) hu
    (by rw [line]; exact hrest)
  rw [doAnswerFrame_wake ho hk (by simp [hp]) hr hcard hn, answered_wakeRequest hp]
  change s.asked r u ((((s.woken r.position).wokenForRequest r.position).startRest r.position).restartSettle)
  rw [hasks]
  exact asked

end

/-- Settles O48: the card's code is worked on the position as `woken` leaves it, by the WAKE's purpose; any other code
ends the sequence or fails the line. -/
theorem wakeAnswerReadsHeader : Obligations.WakeAnswerReadsHeader := by
  unfold Obligations.WakeAnswerReadsHeader
  refine ⟨fun s p o q ho hk hp hst hw hq hm => ⟨fun c b n hr hc hn => ?_, fun code hcode => ?_⟩,
    fun s p o ho hk hw hs => ⟨fun c b n hr hc hn => ⟨fun r a hp ha => ?_, fun hp hwait hheld hwaits => ?_⟩,
      fun code hcode hp hst => ?_⟩⟩
  · have unit := woken_unit hr hc hw
    refine ⟨_, (exec_answerFrame p .answer s).trans (congrArg _ (firstWake_card ho hk hp hw hq hm hr hc hn)), ?_⟩
    refine ⟨?_, rfl, ?_⟩
    · exact sameApartFrom_trans (sameApartFrom_trans (sameApartFrom_woken s p) (sameApartFrom_modUnit _ p _))
        (sameApartFrom_modLine _ p _)
    · have state : (s.unit p).line.state = .identifying := hst
      refine ⟨?_, ?_, ?_, ?_, ⟨_, congrArg LineUnit.order (line_modLine _ p _), rfl, rfl, rfl⟩, rfl⟩
      all_goals simp [State.line, Position.stepTwo, unit, state, hq]
  · have reject := sameApartFrom_trans (sameApartFrom_modLine s p fun l => { l with order := none })
      (sameApartFrom_reject (s.endOrder p) p .unreadable)
    have unit := reject_unit (s.endOrder p) p .unreadable
    have run : s.doAnswerFrame p (.stray (lineFrame 0x01#8 [0#8, code])) = (s.endOrder p).reject p .unreadable := by
      have state : (((s.endOrder p).reject p .unreadable).line p).state = .rejected := by
        rw [State.line, unit]; rfl
      have restart : ((s.endOrder p).reject p .unreadable).restart = .none := by
        rw [congrArg State.restart reject.2]
        exact ((mayBegin_iff s p).1 hm).2
      rw [doAnswerFrame_code ho hk (by simp [hp]), answered_firstWake_other hp hcode,
        startRest_of_state (by simp [state]) (by simp [state]), restartSettle_of_none restart]
    refine ⟨_, (exec_answerFrame p _ s).trans (congrArg _ run), reject, ?_⟩
    rw [State.line, unit]
    simp [Position.rejected]
  · have unit := woken_unit hr hc hw
    have ht : o.purpose ≠ .test := by simp [hp]
    refine ⟨_, s.begunOrder p (s.readKind p r) 0 a (.read r),
      (exec_answerFrame p .answer s).trans (congrArg _ (wakeRead_card ho hk hp hw hs ha hr hc hn)),
      sameApartFrom_trans (sameApartFrom_woken s p) (sameApartFrom_modLine _ p _), rfl, rfl, ?_, ?_, ?_,
      congrArg LineUnit.order (line_modLine _ p _), rfl, rfl, ?_, ?_, ?_, readKind_cases s p r, readKind_eq_readHead⟩
    · simp [State.line, unit]
    · simp [State.line, unit]
    · simp [unit]
    · cases a <;> simp [State.begunOrder]
    · rintro ms rfl; rfl
    · rintro rfl; exact readTimeout (readKind_cases s p r) _
  · intro asks
    have unit := woken_unit hr hc hw
    have line : (s.woken p).line p = { s.line p with order := none, contact := .powered } := by rw [State.line, unit]
    have may : (s.woken p).mayBegin p = true := by rw [woken_mayBegin]; exact (mayBegin_iff s p).2 ⟨hwait, hs⟩
    have found {k : WriteKind} {g : Stage} {who : Requester} {u : Tally}
        (h : s.asked { position := p, kind := k, stage := g, requester := who } u (s.doAnswerFrame p .answer)) :
        asks k g who u := by
      refine ⟨fun full => ⟨_, exec_answerFrame p .answer s, h.1 full⟩, fun hg free empty => ?_⟩
      obtain ⟨contact, order, ctx, arbiter⟩ := h.2 hg free empty
      exact ⟨_, _, exec_answerFrame p .answer s, contact, order, rfl, rfl, rfl, rfl, rfl, ctx, arbiter⟩
    refine ⟨fun h behind w st i hst hctx hq hwork hstep hi => found ?_, fun q u hst hq hu hl => found ?_⟩
    · refine wakeRequest_card (r := ⟨p, st.awaited, st.stage, .chargeProcessor⟩) ho hk hp hw hs hwait hheld hwaits hr
        hc hn ?_ ?_ ?_ (.inr (by simp [hq]))
      · exact wokenForRequest_inCall (by rw [line]; exact hst) may hctx hq (by rw [unit]; exact hwork) hstep
      · exact wanted_inCall (by rw [line]; exact hst) (by rw [unit]; exact hwork) hstep
      · exact (congrArg (Option.map Image.tally) hi : (s.ctx p).image.map (·.tally) = some i.tally)
    · refine wakeRequest_card (r := ⟨p, .restage, u.latch, .identificationUnit⟩) ho hk hp hw hs hwait hheld hwaits hr
        hc hn ?_ ?_ ?_ (.inl hst)
      · exact wokenForRequest_identifying (by rw [line]; exact hst)
      · exact wanted_identifying (by rw [line]; exact hst) (by rw [unit]; exact hq) hu hl
      · simp [State.tallyBefore, unit, hq, hu]
  · have state : ((s.endOrder p).line p).state = .identifying ∨ ((s.endOrder p).line p).state = .inCall := by
      simpa [State.endOrder] using hst
    have run : s.doAnswerFrame p (.stray (lineFrame 0x01#8 [0#8, code])) = (s.endOrder p).lineFailure p := by
      have ht : o.purpose ≠ .test := by
        obtain h | ⟨r, b, h⟩ := hp <;> simp [h]
      rw [doAnswerFrame_code ho hk ht, answered_wake_other hp hcode, lineFailure_settled state hs]
    have failed := lineFailure_failed state
    refine ⟨_, (exec_answerFrame p _ s).trans (congrArg _ run), failed.state, failed.cause, failed.checkLatch,
      failed.contact, failed.order, failed.flags, ?_, fun h => failed.noCall (by simpa [State.endOrder] using h)⟩
    rw [failed.held, unit_endOrder]

end Sys2Proof.Machine

namespace Sys2Proof.Machine

/-! ## What a release leaves of the other positions (R99, R101) -/

section
variable (s : State) (r : WriteRequest)

@[simp] theorem grantTo_waiting : (s.grantTo r).arbiter.waiting = s.arbiter.waiting := by
  unfold State.grantTo
  dsimp only
  split
  · rfl
  · split <;> rfl

theorem grantTo_held : (s.grantTo r).arbiter.held = s.arbiter.held ∨
    (s.grantTo r).arbiter.held = s.arbiter.held ++ [r.holder] := by
  unfold State.grantTo
  dsimp only
  split
  · exact .inl rfl
  · split
    · exact .inl rfl
    · exact .inr rfl

variable {s r}

theorem grantTo_unit_ne {q : Pos} (h : q ≠ r.position) : (s.grantTo r).unit q = s.unit q := by
  unfold State.grantTo
  dsimp only
  split
  · exact unit_beginWake_ne s h _ _
  · split
    · rfl
    · exact (unit_beginOrder_ne _ h _ _ _ _).trans (unit_modUnit_ne _ h _)

theorem grantTo_ctx_ne {q : Pos} (h : q ≠ r.position) : (s.grantTo r).ctx q = s.ctx q := by
  unfold State.grantTo
  dsimp only
  split
  · rfl
  · split
    · rfl
    · exact ctx_modCtx_ne _ h _

end

/-- What grants to other positions leave of position `q`: what it holds, its context, and that it holds no channel. -/
structure NotGranted (q : Pos) (s t : State) : Prop where
  unit : t.unit q = s.unit q
  ctx : t.ctx q = s.ctx q
  held : (∀ x ∈ s.arbiter.held, x.position ≠ q) → ∀ x ∈ t.arbiter.held, x.position ≠ q

theorem grantLoop_notGranted {q : Pos} (n : Nat) : ∀ s : State, (∀ r ∈ s.arbiter.waiting, r.position ≠ q) →
    NotGranted q s (s.grantLoop n) := by
  induction n with
  | zero => exact fun s _ => ⟨rfl, rfl, id⟩
  | succ n ih =>
    intro s hs
    unfold State.grantLoop
    split
    · exact ⟨rfl, rfl, id⟩
    · next r rest hw =>
      split
      · have hr : r.position ≠ q := hs r (by simp [hw])
        have first := ih (({ s with arbiter := { s.arbiter with waiting := rest } } : State).grantTo r) (by
          rw [grantTo_waiting]
          exact fun x hx => hs x (by rw [hw]; exact List.mem_cons_of_mem r hx))
        refine ⟨first.unit.trans (grantTo_unit_ne hr.symm), first.ctx.trans (grantTo_ctx_ne hr.symm), fun hheld => ?_⟩
        refine first.held fun x hx => ?_
        obtain h | h := grantTo_held ({ s with arbiter := { s.arbiter with waiting := rest } } : State) r
        · rw [h] at hx
          exact hheld x hx
        · rw [h, List.mem_append, List.mem_singleton] at hx
          obtain hx | rfl := hx
          · exact hheld x hx
          · exact hr
      · exact ⟨rfl, rfl, id⟩

/-- A position that holds a channel waits for none (R98). -/
theorem lawful_not_waits {a : Arbiter} {p : Pos} (h : a.lawful) (hp : ∃ x ∈ a.held, x.position = p) :
    ∀ r ∈ a.waiting, r.position ≠ p := by
  obtain ⟨x, hx, hxp⟩ := hp
  rintro r hr rfl
  have apart := (List.nodup_append.1 h.2).2.2
  exact apart _ (List.mem_map_of_mem hx) _ (List.mem_map_of_mem hr) hxp

/-- A channel given back leaves its position as it was, and without a channel. -/
theorem release_notGranted {s : State} {p : Pos} (h : s.arbiter.lawful) :
    (s.release p).unit p = s.unit p ∧ (s.release p).ctx p = s.ctx p ∧
      ∀ x ∈ (s.release p).arbiter.held, x.position ≠ p := by
  unfold State.release
  split
  · next hp =>
    have holds : ∃ x ∈ s.arbiter.held, x.position = p := by simpa [State.holds] using hp
    have rest := grantLoop_notGranted (q := p) s.arbiter.waiting.length
      { s with arbiter := { s.arbiter with held := s.arbiter.held.filter fun h => h.position ≠ p } }
      (lawful_not_waits (a := s.arbiter) h holds)
    exact ⟨rest.unit, rest.ctx, rest.held (by simp)⟩
  · next hp => exact ⟨rfl, rfl, by simpa [State.holds] using hp⟩

/-- The arbiter once a position has given its channel back and the one request that waited has left the list. -/
def Arbiter.passedOn (a : Arbiter) (p : Pos) : Arbiter :=
  { a with held := a.held.filter fun x => x.position ≠ p, waiting := [] }

/-- A channel given back goes to the one request that waits (R99, R101). -/
theorem release_one {s : State} {p : Pos} {r : WriteRequest} (h : s.arbiter.lawful) (hg : s.arbiter.granting = true)
    (hp : ∃ x ∈ s.arbiter.held, x.position = p) (hw : s.arbiter.waiting = [r]) :
    s.release p = ({ s with arbiter := s.arbiter.passedOn p } : State).grantTo r := by
  have holds : s.holds p = true := by simpa [State.holds] using hp
  have free : (s.arbiter.held.filter fun x => x.position ≠ p).length < 4 := by
    obtain ⟨x, hx, hxp⟩ := hp
    refine lt_of_lt_of_le (List.length_filter_lt_length_iff_exists.2 ⟨x, hx, by simp [hxp]⟩) h.1
  rw [State.release, if_pos holds]
  exact grantAll_one hg free hw

end Sys2Proof.Machine

namespace Sys2Proof.Machine

/-! ## An order that failed (R26 to R29) -/

/-- The position when the answer timeout is over: a card that works the order is through with it (R15). -/
def State.timedOut (s : State) (p : Pos) (o : Order) : State := s.modCard p (cardOrderOver o.kind)

section
variable (s : State) (p : Pos) (o : Order)

@[simp] theorem timedOut_unit : (s.timedOut p o).unit p =
    { s.unit p with reader := (s.unit p).reader.map (Seated.onCard (cardOrderOver o.kind)) } := unit_modCard s p _

theorem timedOut_unit_ne {p q : Pos} (h : q ≠ p) : (s.timedOut p o).unit q = s.unit q := unit_modCard_ne s h _

@[simp] theorem timedOut_line : (s.timedOut p o).line p = s.line p := by simp [State.line]

variable {s p o}

theorem doAnswerTimeout_eq (ho : (s.line p).order = some o) (he : o.ended = true) (ht : o.purpose ≠ .test) :
    s.doAnswerTimeout p = (((s.timedOut p o).attemptFailed p o).startRest p).restartSettle := by
  simp [State.doAnswerTimeout, ho, he, ht, State.timedOut]

/-- A card that works no order of this kind is left as it is. -/
theorem cardOrderOver_other {k : OrderKind} {c : Card} (h : ∀ x b n, c.power = .working x b n → cardOrderKind x ≠ k) :
    cardOrderOver k c = c := by
  unfold cardOrderOver
  split
  · next x b n hp => exact if_neg (h x b n hp)
  · rfl

/-- A card that works at most an order of this kind is through with what it works. -/
theorem cardOrderOver_same {k : OrderKind} {c : Card} (h : ∀ x b n, c.power = .working x b n → cardOrderKind x = k) :
    cardOrderOver k c = cardFinish c := by
  unfold cardOrderOver
  split
  · next x b n hp => exact if_pos (h x b n hp)
  · next hp =>
    unfold cardFinish
    split
    · next x b n hw => exact absurd hw (hp x b n)
    · rfl

theorem map_onCard_congr {x : Option Seated} {f g : Card → Card} (h : ∀ c, x = some (.card c) → f c = g c) :
    x.map (Seated.onCard f) = x.map (Seated.onCard g) := by
  rcases x with - | ⟨c⟩ | -
  · rfl
  · simp [Seated.onCard, h c rfl]
  · rfl

theorem map_onCard_self {x : Option Seated} {f : Card → Card} (h : ∀ c, x = some (.card c) → f c = c) :
    x.map (Seated.onCard f) = x := by
  rcases x with - | ⟨c⟩ | -
  · rfl
  · simp [Seated.onCard, h c rfl]
  · rfl

theorem timedOut_of_other (h : ∀ c x b n, (s.unit p).reader = some (.card c) → c.power = .working x b n →
    cardOrderKind x ≠ o.kind) : s.timedOut p o = s := by
  have reader : (s.unit p).reader.map (Seated.onCard (cardOrderOver o.kind)) = (s.unit p).reader :=
    map_onCard_self fun c hc => cardOrderOver_other fun x b n hp => h c x b n hc hp
  calc s.timedOut p o = s.setUnit p { s.unit p with reader := (s.unit p).reader } :=
        congrArg (fun x => s.setUnit p { s.unit p with reader := x }) reader
    _ = s := congrArg (fun v => { s with units := v }) (setUnit_self s p)

theorem timedOut_of_same (h : ∀ c x b n, (s.unit p).reader = some (.card c) → c.power = .working x b n →
    cardOrderKind x = o.kind) : s.timedOut p o = s.modCard p cardFinish :=
  congrArg (fun x => s.setUnit p { s.unit p with reader := x })
    (map_onCard_congr fun c hc => cardOrderOver_same fun x b n hp => h c x b n hc hp)

/-! ## The attempt, by the order's purpose -/

theorem attemptFailed_read {k : ReadFor} (hp : o.purpose = .read k) (hr : o.retry = false) :
    s.attemptFailed p o = s.sendRead p k (.retry o.timeout) := by
  simp [State.attemptFailed, hp, hr]

theorem attemptFailed_wake (hp : o.purpose = .firstWake ∨ o.purpose = .wakeRequest ∨ ∃ k a, o.purpose = .wakeRead k a)
    (hr : o.retry = false) : s.attemptFailed p o = s.beginWake p (.retry o.timeout) o.purpose := by
  obtain hp | hp | ⟨k, a, hp⟩ := hp <;> simp [State.attemptFailed, hp, hr]

theorem attemptFailed_retry (hp : (∃ k, o.purpose = .read k) ∨ o.purpose = .firstWake ∨ o.purpose = .wakeRequest ∨
    ∃ k a, o.purpose = .wakeRead k a) (hr : o.retry = true) : s.attemptFailed p o = s.lineFailure p := by
  obtain ⟨k, hp⟩ | hp | hp | ⟨k, a, hp⟩ := hp <;> simp [State.attemptFailed, hp, hr]

theorem attemptFailed_write (hp : o.purpose = .write) :
    s.attemptFailed p o = ((s.endOrder p).release p).sendRead p .verify .first := by
  simp [State.attemptFailed, hp]

end

/-! ## A call closed by its line's failure (R28, R91, R93) -/

section
variable {s t : State} {p : Pos}

/-- How charges are cut is read off retained memory and the working record. -/
theorem cutCtx_congr (hr : t.retained = s.retained) (hw : (t.unit p).work = (s.unit p).work) :
    t.cutCtx p = s.cutCtx p := by
  have hc : t.ctx p = s.ctx p := congrArg (Retained.ctx · p) hr
  simp only [State.cutCtx, State.cutAvailable, State.cutCovered, hc, hw]

theorem cutReplies_congr (hr : t.retained = s.retained) (hw : (t.unit p).work = (s.unit p).work) (o : ChargeOutcome)
    (failing : Option Location) : t.cutReplies p o failing = s.cutReplies p o failing := by
  have hc : t.ctx p = s.ctx p := congrArg (Retained.ctx · p) hr
  simp only [State.cutReplies, State.cutAvailable, State.cutCovered, hc, hw]

theorem closedRecord_congr (hr : t.retained = s.retained) (hw : (t.unit p).work = (s.unit p).work) (cause : EndCause)
    (failing : Option Location) : t.closedRecord p cause failing = s.closedRecord p cause failing := by
  simp only [State.closedRecord, cutCtx_congr hr hw, hr]

/-- The record of a close has the figures of its charges all cut (R67, R71). -/
theorem cutFigures_closedRecord (s : State) (p : Pos) (cause : EndCause) (failing : Option Location) :
    s.cutFigures p (s.closedRecord p cause failing) := by
  refine ⟨rfl, fun hq => ?_, fun hq => if_neg hq, fun hq hw => if_pos ⟨hq, hw⟩, fun _ hw => if_neg ?_⟩
  · simp only [State.closedRecord, cutCtx_of_nil hq]
    exact ⟨trivial, trivial⟩
  · simp [hw]

/-- The failure of a line in a call closes the call LINE_FAULT, from `s` to `t`: `CallClosed` read from before the entry
to FAULTED. -/
structure LineClosed (p : Pos) (s t : State) : Prop where
  unit : (t.unit p).work = none ∧ (t.unit p).closes = []
  flags : (t.unit p).flags &&& 0x140#9 = 0x140#9
  ctx : (t.ctx p).state = .noCall ∧ (t.ctx p).field = none ∧ (t.ctx p).queue = []
  doubts : t.retained.doubts = s.retained.tearDoubts p
  creationCounter : t.retained.creationCounter = s.retained.tearCounter p
  records : t.retained.records = s.retained.records ++ [.call (s.closedRecord p .lineFault none)]
  linkFlags : t.link.flags = s.link.flags ||| 0x01#5
  replies : t.link.outbound.filter Message.isReply =
    s.link.outbound.filter Message.isReply ++ s.cutReplies p .fault none ++
      s.closeReplies p (s.closedRecord p .lineFault none)

theorem lineFailure_closed (hs : (s.line p).state = .inCall) (hn : (s.ctx p).state ≠ .noCall) :
    LineClosed p s (s.lineFailure p) := by
  have entered : ((s.faultEntry p .lineFault none).ctx p).state ≠ .noCall := by rw [faultEntry_ctx]; exact hn
  have closed := closeCall_closed entered .lineFault none
  have run : s.lineFailure p = (s.faultEntry p .lineFault none).closeCall p .lineFault none := enterFaulted_inCall hs
  rw [← run] at closed
  have retained := faultEntry_retained s p .lineFault none
  have work : ((s.faultEntry p .lineFault none).unit p).work = (s.unit p).work := by rw [faultEntry_unit]
  have record := closedRecord_congr retained work .lineFault none
  obtain ⟨f, hf, raised⟩ := closed.unit
  obtain ⟨b, hb⟩ := closed.ctx
  exact {
    unit := by rw [hf]; exact ⟨rfl, rfl⟩
    flags := by
      have line : ((s.lineFailure p).unit p).flags &&& 0x100#9 = 0x100#9 := (lineFailure_failed (.inr hs)).flags
      have call : ((s.lineFailure p).unit p).flags &&& 0x040#9 = 0x040#9 := by
        rw [hf]
        exact or_and_of_and_eq _ (raised rfl)
      have both : ((s.lineFailure p).unit p).flags &&& (0x100#9 ||| 0x040#9) = 0x100#9 ||| 0x040#9 := by
        rw [BitVec.and_or_distrib_left, line, call]
      exact both
    ctx := by rw [hb]; exact ⟨rfl, rfl, rfl⟩
    doubts := by rw [closed.doubts, retained]
    creationCounter := by rw [closed.creationCounter, retained]
    records := by rw [closed.records, retained, record]
    linkFlags := by rw [closed.linkFlags, faultEntry_linkFlags]; rfl
    replies := by
      have waiting (r : CallRecord) : (s.faultEntry p .lineFault none).closeReplies p r = s.closeReplies p r := by
        simp only [State.closeReplies, faultEntry_unit]
      rw [closed.replies, faultEntry_replies, record, waiting, cutReplies_congr retained work]
      rfl }

end

end Sys2Proof.Machine

namespace Sys2Proof.Machine

/-! ## Malformed answers (R26, R170) -/

/-- The contents that an answer to an order of a kind may have, after the kind byte (R170). -/
def answerFits (k : OrderKind) (content : List Byte) : Prop :=
  match k with
  | .wake => ∃ code, content = [0#8, code]
  | .readHead => content.length = 11 ∧ content.head? = some 0#8
  | .readTally => content.length = 6 ∧ content.head? = some 0#8 ∧ (∀ d ∈ content.take 5, d.toNat < 8) ∧
      ∀ l ∈ content.drop 5, l.toNat < 4
  | .burn => ∃ k : Byte, content = [k] ∧ k.toNat < 5
  | .restage => content = [0#8] ∨ content = [1#8] ∨ content = [5#8]
  | _ => False

theorem refusalOf_code {b : Byte} {r : CardRefusal} (h : refusalOf b = some r) : b = r.code := by
  unfold refusalOf at h
  apply BitVec.eq_of_toNat_eq
  split at h <;> cases h <;> assumption

theorem digitOf_lt {b : Byte} {d : Digit} (h : digitOf b = some d) : b.toNat < 8 := by
  unfold digitOf at h
  split at h
  · assumption
  · cases h

theorem stageOf_lt {b : Byte} {k : Stage} (h : stageOf b = some k) : b.toNat < 4 := by
  unfold stageOf at h
  split at h
  · assumption
  · cases h

theorem tallyOf_fits {a b c d l : Byte} {t : Tally} (h : tallyOf a b c d l = some t) :
    answerFits .readTally [0#8, a, b, c, d, l] := by
  unfold tallyOf at h
  split at h
  · next ha hb hc hd hl =>
    simp [answerFits, digitOf_lt ha, digitOf_lt hb, digitOf_lt hc, digitOf_lt hd, stageOf_lt hl]
  · cases h

theorem refusalFits_fits {k : OrderKind} {r : CardRefusal} (h : refusalFits k r = true) : answerFits k [r.code] := by
  unfold refusalFits at h
  split at h
  · cases h
  · next hr => cases r <;> simp_all [answerFits, CardRefusal.code]
  · simp [answerFits, CardRefusal.code]
  · simp [answerFits, CardRefusal.code]
  · cases h

/-- With status 0 an answer is read from the contents of its kind alone. -/
theorem readAnswer_ok_fits {k : OrderKind} {rest : List Byte} {a : Answer}
    (h : readAnswer k (0#8 :: rest) = some a) : answerFits k (0#8 :: rest) := by
  cases k with
  | wake =>
    rcases rest with _ | ⟨b, _ | _⟩
    case cons.nil => exact ⟨b, rfl⟩
    all_goals cases h
  | readHead =>
    rcases rest with _ | ⟨_, _ | ⟨_, _ | ⟨_, _ | ⟨_, _ | ⟨_, _ | ⟨_, _ | ⟨_, _ | ⟨_, _ | ⟨_, _ | ⟨_, _ | _⟩⟩⟩⟩⟩⟩⟩⟩⟩⟩
    case cons.cons.cons.cons.cons.cons.cons.cons.cons.cons.nil => exact ⟨rfl, rfl⟩
    all_goals cases h
  | readTally =>
    rcases rest with _ | ⟨a, _ | ⟨b, _ | ⟨c, _ | ⟨d, _ | ⟨l, _ | _⟩⟩⟩⟩⟩
    case cons.cons.cons.cons.cons.nil =>
      obtain ⟨t, ht, -⟩ := Option.map_eq_some_iff.1 (show (tallyOf a b c d l).map Answer.tally = some _ from h)
      exact tallyOf_fits ht
    all_goals cases h
  | burn =>
    rcases rest with _ | _
    · exact ⟨0#8, rfl, by decide⟩
    · cases h
  | restage =>
    rcases rest with _ | _
    · exact .inl rfl
    · cases h
  | echo => cases h
  | loopback => cases h

/-- An answer is read from no other content. -/
theorem readAnswer_fits {k : OrderKind} {content : List Byte} {a : Answer} (h : readAnswer k content = some a) :
    answerFits k content := by
  rcases content with _ | ⟨status, rest⟩
  · cases h
  · by_cases h0 : status = 0#8
    · subst h0
      exact readAnswer_ok_fits h
    · replace h : (if status = 0#8 then _ else _) = some a := h
      rw [if_neg h0] at h
      split at h
      · next r hr =>
        split at h
        · next hf =>
          rw [refusalOf_code hr]
          exact refusalFits_fits hf
        · cases h
      · cases h

theorem readAnswer_malformed {k : OrderKind} {content : List Byte} (h : ¬ answerFits k content) :
    readAnswer k content = none := by
  cases ha : readAnswer k content with
  | none => rfl
  | some a => exact absurd (readAnswer_fits ha) h

/-- The bytes are a bad answer frame to an order, or hold a malformed answer to it (R26, log 18). -/
def spoiltAnswer (k : OrderKind) (bs : List Byte) : Prop :=
  readLineFrame bs = .bad ∨ ∃ content, readLineFrame bs = .good k.code content ∧ ¬ answerFits k content

section
variable {s : State} {p : Pos} {o : Order} (ho : (s.line p).order = some o) (ht : o.purpose ≠ .test) {bs : List Byte}
include ho ht

theorem takeAnswer_spoilt (h : spoiltAnswer o.kind bs) : s.takeAnswer p bs = s.attemptFailed p o := by
  obtain h | ⟨content, h, hf⟩ := h
  · exact takeAnswer_bad ho ht h
  · exact takeAnswer_malformed ho ht h (readAnswer_malformed hf)

/-- Bytes that are no frame, and a good frame of another kind, leave the order waiting. -/
theorem takeAnswer_passed (h : readLineFrame bs = .noFrame ∨
    ∃ kind content, readLineFrame bs = .good kind content ∧ kind ≠ o.kind.code) : s.takeAnswer p bs = s := by
  obtain h | ⟨kind, content, h, hk⟩ := h
  · exact takeAnswer_noFrame ho ht h
  · exact takeAnswer_unmatched ho ht h hk

end

/-! ## A write that failed (R29, R101) -/

section
variable {s : State} {p : Pos} {o : Order}

/-- A position whose order is over has given its channel back. -/
def State.writeOver (s : State) (p : Pos) (o : Order) : State := ((s.timedOut p o).endOrder p).release p

theorem writeOver_notGranted (h : s.arbiter.lawful) :
    (s.writeOver p o).unit p = ((s.timedOut p o).endOrder p).unit p ∧ (s.writeOver p o).ctx p = s.ctx p ∧
      ∀ x ∈ (s.writeOver p o).arbiter.held, x.position ≠ p :=
  release_notGranted (s := (s.timedOut p o).endOrder p) h

theorem readKind_verify (s : State) (p : Pos) : s.readKind p .verify = .readTally := rfl

/-- A verify read, or the WAKE in front of it, is begun at a position, from `s` to `t`, and no other position, no
retained memory and no channel changes. -/
structure VerifyBegun (p : Pos) (s t : State) : Prop where
  arbiter : t.arbiter = s.arbiter
  retained : t.retained = s.retained
  others : ∀ q, q ≠ p → t.unit q = s.unit q
  read : (s.line p).contact = .powered →
    (t.line p).order = some (s.begunOrder p .readTally 0 .first (.read .verify))
  wake : (s.line p).contact ≠ .powered →
    (t.line p).order = some (s.begunOrder p .wake 0 .first (.wakeRead .verify .first)) ∧ (t.line p).contact = .waking

theorem sendVerify_begun (s : State) (p : Pos) : VerifyBegun p s (s.sendRead p .verify .first) := by
  by_cases hc : (s.line p).contact = .powered
  · rw [sendRead_powered hc, readKind_verify]
    exact ⟨rfl, rfl, fun q hq => unit_beginOrder_ne s hq _ _ _ _, fun _ => by simp [State.line],
      fun h => absurd hc h⟩
  · rw [sendRead_not_powered hc]
    exact ⟨rfl, rfl, fun q hq => unit_beginWake_ne s hq _ _, fun h => absurd h hc, fun _ => by simp [State.line]⟩

theorem writeOver_contact (h : s.arbiter.lawful) : ((s.writeOver p o).line p).contact = (s.line p).contact := by
  rw [State.line, (writeOver_notGranted h).1, unit_endOrder, timedOut_line]

theorem answerTimeout_write (ho : (s.line p).order = some o) (he : o.ended = true) (hs : s.restart = .none)
    (hp : o.purpose = .write) : VerifyBegun p (s.writeOver p o) (s.doAnswerTimeout p) := by
  have begun := sendVerify_begun (s.writeOver p o) p
  have order : (((s.writeOver p o).sendRead p .verify .first).line p).order ≠ none := by
    by_cases hc : ((s.writeOver p o).line p).contact = .powered
    · simp [begun.read hc]
    · simp [(begun.wake hc).1]
  have restart : ((s.writeOver p o).sendRead p .verify .first).restart = .none :=
    (kept_restart (by simp [State.writeOver, State.timedOut])).2 hs
  rw [doAnswerTimeout_eq ho he (by simp [hp]), attemptFailed_write hp]
  exact (settled_of_order order restart).symm ▸ begun

end

end Sys2Proof.Machine

namespace Sys2Proof.Machine

section
variable {s : State} {p : Pos} {o : Order}

/-- A read that failed its first attempt is sent again, or a WAKE before it (R25, R28). -/
theorem answerTimeout_read {k : ReadFor} (ho : (s.line p).order = some o) (he : o.ended = true) (hs : s.restart = .none)
    (hp : o.purpose = .read k) (hr : o.retry = false) :
    ((s.line p).contact = .powered → s.doAnswerTimeout p =
      (s.timedOut p o).beginOrder p ((s.timedOut p o).readKind p k) 0 (.retry o.timeout) (.read k)) ∧
    ((s.line p).contact ≠ .powered → s.doAnswerTimeout p =
      (s.timedOut p o).beginWake p .first (.wakeRead k (.retry o.timeout))) := by
  rw [doAnswerTimeout_eq ho he (by simp [hp]), attemptFailed_read hp hr]
  constructor <;> intro hc
  · rw [sendRead_powered (by rwa [timedOut_line])]
    exact settled_of_order (by simp [State.line]) hs
  · rw [sendRead_not_powered (by rwa [timedOut_line])]
    exact settled_of_order (by simp [State.line]) hs

/-- A WAKE that failed its first attempt is sent again (R28). -/
theorem answerTimeout_wake (ho : (s.line p).order = some o) (he : o.ended = true) (hs : s.restart = .none)
    (hp : o.purpose = .firstWake ∨ o.purpose = .wakeRequest ∨ ∃ k a, o.purpose = .wakeRead k a) (hr : o.retry = false) :
    s.doAnswerTimeout p = (s.timedOut p o).beginWake p (.retry o.timeout) o.purpose := by
  have ht : o.purpose ≠ .test := by obtain h | h | ⟨k, a, h⟩ := hp <;> simp [h]
  rw [doAnswerTimeout_eq ho he ht, attemptFailed_wake hp hr]
  exact settled_of_order (by simp [State.line]) hs

/-- A read or a WAKE that failed its retry fails the line (R28). -/
theorem answerTimeout_retry (ho : (s.line p).order = some o) (he : o.ended = true) (hs : s.restart = .none)
    (hp : (∃ k, o.purpose = .read k) ∨ o.purpose = .firstWake ∨ o.purpose = .wakeRequest ∨
      ∃ k a, o.purpose = .wakeRead k a) (hr : o.retry = true)
    (hst : (s.line p).state = .identifying ∨ (s.line p).state = .inCall) :
    s.doAnswerTimeout p = (s.timedOut p o).lineFailure p := by
  have ht : o.purpose ≠ .test := by obtain ⟨k, h⟩ | h | h | ⟨k, a, h⟩ := hp <;> simp [h]
  rw [doAnswerTimeout_eq ho he ht, attemptFailed_retry hp hr]
  exact lineFailure_settled (by rwa [timedOut_line]) hs

/-- The timeout of a verify read's retry, or of its WAKE's, in a call: the line fails, and the call is closed. -/
theorem answerTimeout_verify (ho : (s.line p).order = some o) (he : o.ended = true) (hs : s.restart = .none)
    (hp : o.purpose = .read .verify ∨ ∃ a, o.purpose = .wakeRead .verify a) (hr : o.retry = true)
    (hst : (s.line p).state = .inCall) (hn : (s.ctx p).state ≠ .noCall) : LineClosed p s (s.doAnswerTimeout p) := by
  have purpose : (∃ k, o.purpose = .read k) ∨ o.purpose = .firstWake ∨ o.purpose = .wakeRequest ∨
      ∃ k a, o.purpose = .wakeRead k a :=
    hp.elim (fun h => .inl ⟨_, h⟩) fun ⟨a, h⟩ => .inr (.inr (.inr ⟨_, a, h⟩))
  have closed := lineFailure_closed (s := s.timedOut p o) (p := p) (by rwa [timedOut_line]) hn
  have retained : (s.timedOut p o).retained = s.retained := rfl
  have work : ((s.timedOut p o).unit p).work = (s.unit p).work := by rw [timedOut_unit]
  have record := closedRecord_congr retained work .lineFault none
  have waiting (r : CallRecord) : (s.timedOut p o).closeReplies p r = s.closeReplies p r := by
    simp only [State.closeReplies, timedOut_unit]
  rw [answerTimeout_retry ho he hs purpose hr (.inr hst)]
  exact { closed with
    records := by rw [closed.records, record]; rfl
    replies := by rw [closed.replies, record, cutReplies_congr retained work, waiting]; rfl }

/-- An answer that is spoilt fails the order as its timeout does: the card's own answer, or bytes that are not its. -/
theorem spoiltAnswer_fails (ho : (s.line p).order = some o) (he : o.ended = true) (ht : o.purpose ≠ .test)
    {bs : List Byte} (hb : spoiltAnswer o.kind bs) :
    (s.timedOut p o = s.modCard p cardFinish → s.doAnswerFrame p (.altered bs) = s.doAnswerTimeout p) ∧
    (s.timedOut p o = s → s.doAnswerFrame p (.stray bs) = s.doAnswerTimeout p) := by
  rw [doAnswerTimeout_eq ho he ht]
  constructor <;> intro hcard
  · have order : ((s.modCard p cardFinish).line p).order = some o := by simpa [State.line] using ho
    rw [doAnswerFrame_altered, takeAnswer_spoilt order ht hb, hcard]
  · rw [doAnswerFrame_stray, takeAnswer_spoilt ho ht hb, hcard]

/-- The state in which a write that is over leaves the one request that waits (R99 to R101). -/
theorem writeOver_passesOn {r : WriteRequest} (h : s.arbiter.lawful) (hg : s.arbiter.granting = true)
    (hh : ∃ x ∈ s.arbiter.held, x.position = p) (hw : s.arbiter.waiting = [r]) (hr : r.position ≠ p) :
    ∃ u : State, s.writeOver p o = u.grantTo r ∧ u.unit r.position = s.unit r.position ∧
      u.retained = s.retained ∧ u.arbiter = s.arbiter.passedOn p := by
  refine ⟨_, release_one (s := (s.timedOut p o).endOrder p) h hg hh hw, ?_, rfl, rfl⟩
  exact (unit_endOrder_ne _ hr).trans (timedOut_unit_ne s o hr)

/-- What another position's timeout leaves at the position to which a channel is passed on: its order, its context, and
the arbiter, as its grant leaves them. -/
theorem answerTimeout_passesOn {r : WriteRequest} (ho : (s.line p).order = some o) (he : o.ended = true)
    (hs : s.restart = .none) (hp : o.purpose = .write) (h : s.arbiter.lawful) (hg : s.arbiter.granting = true)
    (hh : ∃ x ∈ s.arbiter.held, x.position = p) (hw : s.arbiter.waiting = [r]) (hr : r.position ≠ p) :
    ∃ v : State, v.unit r.position = s.unit r.position ∧ v.retained = s.retained ∧ v.arbiter = s.arbiter.passedOn p ∧
      (s.doAnswerTimeout p).line r.position = (v.grantTo r).line r.position ∧
      (s.doAnswerTimeout p).ctx r.position = (v.grantTo r).ctx r.position ∧
      (s.doAnswerTimeout p).arbiter = (v.grantTo r).arbiter := by
  have begun := answerTimeout_write ho he hs hp
  obtain ⟨v, passed, unit, retained, arbiter⟩ := writeOver_passesOn (o := o) h hg hh hw hr
  rw [passed] at begun
  exact ⟨v, unit, retained, arbiter, congrArg Position.line (begun.others _ hr),
    congrArg (Retained.ctx · r.position) begun.retained, begun.arbiter⟩

/-- Both halves of a position are the same, so a grant finds the same tally before its write. -/
theorem tallyBefore_congr {t : State} {r : WriteRequest} (hu : t.unit r.position = s.unit r.position)
    (hr : t.retained = s.retained) : t.tallyBefore r = s.tallyBefore r := by
  have ctx : t.ctx r.position = s.ctx r.position := congrArg (Retained.ctx · r.position) hr
  simp only [State.tallyBefore, hu, ctx]

end

/-- Settles O52: each clause by what the timeout comes to for the order's purpose; the spoilt answers by the timeout
itself. -/
theorem answerTimeoutRetriesOrFaults : Obligations.AnswerTimeoutRetriesOrFaults := by
  unfold Obligations.AnswerTimeoutRetriesOrFaults
  intro s p o ho he hs hl kindOf worksOnly
  have kind (x : CardOrder) : kindOf x = cardOrderKind x := by cases x <;> rfl
  have runs {t : State} (h : s.doAnswerTimeout p = t) : exec (.answerTimeout p) s = .next t := by
    rw [exec_answerTimeout, h]
  have other (h : worksOnly fun x => kindOf x ≠ o.kind) : s.timedOut p o = s :=
    timedOut_of_other fun c x b n hr hc => kind x ▸ h c x b n hr hc
  have same (h : worksOnly fun x => kindOf x = o.kind) : s.timedOut p o = s.modCard p cardFinish :=
    timedOut_of_same fun c x b n hr hc => kind x ▸ h c x b n hr hc
  refine ⟨fun k hp hr hc => ?_, fun k hp hr hc => ?_, fun hp hr => ?_, fun hp hr hst => ?_, fun f hp hr hst hn hf => ?_,
    fun hp => ?_, fun r u hp hg hh hw hr hcall hseq => ?_, fun bs ht => ?_⟩
  · refine ⟨_, s.begunOrder p ((s.timedOut p o).readKind p k) 0 (.retry o.timeout) (.read k),
      runs ((answerTimeout_read ho he hs hp hr).1 hc), congrArg LineUnit.order (line_modLine _ p _), rfl, rfl,
      rfl, rfl, readKind_cases _ p k, rfl, ?_, rfl, rfl, rfl, fun h => ?_⟩
    · simp [State.line]
    · rw [unit_beginOrder, other h]
  · refine ⟨_, s.begunOrder p .wake 0 .first (.wakeRead k (.retry o.timeout)),
      runs ((answerTimeout_read ho he hs hp hr).2 hc),
      congrArg (fun u => u.line.order) (unit_beginWake _ p _ _), rfl, rfl, rfl, rfl, rfl, rfl, ?_, ?_, rfl, rfl, rfl⟩
    · simp [State.line]
    · simp [State.line]
  · refine ⟨_, s.begunOrder p .wake 0 (.retry o.timeout) o.purpose, runs (answerTimeout_wake ho he hs hp hr),
      congrArg (fun u => u.line.order) (unit_beginWake _ p _ _), rfl, rfl, rfl, rfl, rfl, rfl, ?_, ?_, rfl, rfl, rfl⟩
    · simp [State.line]
    · simp [State.line]
  · have failed := lineFailure_failed (s := s.timedOut p o) (p := p) (by rwa [timedOut_line])
    refine ⟨_, runs (answerTimeout_retry ho he hs hp hr hst), failed.state, failed.cause, failed.checkLatch,
      failed.contact, failed.order, failed.flags, ?_, fun h => failed.noCall (by rwa [timedOut_line])⟩
    rw [failed.held, timedOut_unit]
  · have closed := answerTimeout_verify ho he hs hp hr hst hn
    have field : (s.retained.ctx p).field = some f := hf
    refine ⟨_, s.closedRecord p .lineFault none, runs rfl, closed.ctx.1, closed.ctx.2.1, closed.ctx.2.2, closed.unit.1,
      closed.unit.2, closed.flags, closed.linkFlags, ?_, ?_, closed.records, rfl, rfl, rfl, rfl, rfl, rfl, rfl, rfl, ?_,
      cutFigures_closedRecord s p _ _, closed.replies⟩
    · rw [closed.doubts, Retained.tearDoubts, field]; rfl
    · rw [closed.creationCounter, Retained.tearCounter, field]; rfl
    · by_cases hk : f.kind = .burn
      · simp [State.closedRecord, Retained.tearMark, field, hk]
      · simp [State.closedRecord, Retained.tearMark, field, hk]; rfl
  · have begun := answerTimeout_write ho he hs hp
    have contact := writeOver_contact (p := p) (o := o) hl
    obtain ⟨-, ctx, held⟩ := writeOver_notGranted (p := p) (o := o) hl
    have field : ((s.doAnswerTimeout p).ctx p).field = (s.ctx p).field := by
      rw [← ctx]; exact congrArg (fun m => (Retained.ctx m p).field) begun.retained
    by_cases hc : (s.line p).contact = .powered
    · exact ⟨_, _, runs rfl, begun.read (contact.trans hc), rfl, fun _ => ⟨rfl, rfl⟩, fun h => absurd hc h,
        begun.arbiter ▸ held, field⟩
    · obtain ⟨order, waking⟩ := begun.wake (contact ▸ hc)
      exact ⟨_, _, runs rfl, order, rfl, fun h => absurd h hc, fun _ => ⟨rfl, rfl, waking⟩, begun.arbiter ▸ held,
        field⟩
  · obtain ⟨v, unit, retained, arbiter, line, ctx, granted⟩ := answerTimeout_passesOn ho he hs hp hl hg hh hw hr
    have contact : (v.line r.position).contact = (s.line r.position).contact :=
      congrArg (fun u => u.line.contact) unit
    by_cases hc : (s.line r.position).contact = .powered
    · have before : s.tallyBefore r = some u := by
        cases hq : r.requester with
        | chargeProcessor => simpa only [State.tallyBefore, hq] using hcall hq
        | identificationUnit => simpa only [State.tallyBefore, hq] using hseq hq
      rw [grantTo_sent (contact.trans hc) ((tallyBefore_congr unit retained).trans before)] at line ctx granted
      rw [grantSent_line] at line
      rw [grantSent_ctx] at ctx
      rw [grantSent_arbiter, arbiter] at granted
      exact ⟨_, _, runs rfl, congrArg LineUnit.order line, rfl, rfl, congrArg Arbiter.waiting granted,
        fun _ => ⟨rfl, rfl, rfl, congrArg Arbiter.held granted, congrArg Context.field ctx⟩, fun h => absurd hc h⟩
    · rw [grantTo_given_up (contact ▸ hc)] at line ctx granted
      have wake := line.trans (congrArg Position.line (unit_beginWake v r.position _ _))
      have held : (s.doAnswerTimeout p).arbiter = s.arbiter.passedOn p := granted.trans arbiter
      exact ⟨_, _, runs rfl, congrArg LineUnit.order wake, rfl, rfl, congrArg Arbiter.waiting held,
        fun h => absurd h hc, fun _ => ⟨rfl, rfl, congrArg LineUnit.contact wake, congrArg Arbiter.held held,
          ctx.trans (congrArg (Retained.ctx · r.position) retained)⟩⟩
  · intro fits
    have fitsIff (content : List Byte) : fits content ↔ answerFits o.kind content := by
      cases hk : o.kind <;> simp only [fits, hk, answerFits]
    constructor
    · intro hb
      have spoilt : spoiltAnswer o.kind bs :=
        hb.imp_right fun ⟨content, h, hf⟩ => ⟨content, h, mt (fitsIff content).2 hf⟩
      have fails := spoiltAnswer_fails ho he ht spoilt
      simp only [exec_answerFrame, exec_answerTimeout]
      exact ⟨fun h => congrArg _ (fails.1 (same h)), fun h => congrArg _ (fails.2 (other h))⟩
    · intro hb
      rw [exec_answerFrame, doAnswerFrame_stray, takeAnswer_passed ho ht hb, settled_of_order (by simp [ho]) hs]

end Sys2Proof.Machine

namespace Sys2Proof.Machine

/-! ## The requests of a running part, counted (R139, R140, R144) -/

/-- Requests that wait at one position for their replies, once start-up is complete. -/
def State.owed (s : State) (p : Pos) : Nat :=
  (s.ctx p).queue.length + (s.unit p).closes.length + optCount (s.unit p).wait

/-- The requests held in a part that is running (`State.requestsHeld`). -/
def State.load (s : State) : Nat :=
  s.link.received.length + (positions.map s.owed).sum + optCount s.save + optCount s.test + s.link.repliesOut

theorem requestsHeld_of_running {s : State} (h : s.running = true) : s.requestsHeld = s.load := by
  have owed : s.owedAt = s.owed := funext fun p => by simp [State.owedAt, State.owed, h]
  simp only [State.requestsHeld, State.load, owed]

/-- The part is running, and its requests are accounted for while `k` more are in hand: taken from where they waited, and
not yet answered or put where they wait next. -/
structure Accounted (k : Nat) (s : State) : Prop where
  running : s.running = true
  link : s.linkLawful
  notices : s.noticesOnce
  room : s.load + k ≤ s.link.outstanding

/-- Sums over the positions of functions that agree outside one position differ by what they are there. -/
theorem sum_positions_of_agree {f g : Pos → Nat} {p : Pos} (h : ∀ q, q ≠ p → f q = g q) :
    (positions.map f).sum + g p = (positions.map g).sum + f p := by
  have others : ∑ q ∈ Finset.univ.erase p, f q = ∑ q ∈ Finset.univ.erase p, g q :=
    Finset.sum_congr rfl fun q hq => h q (Finset.ne_of_mem_erase hq)
  have hf := Finset.add_sum_erase Finset.univ f (Finset.mem_univ p)
  have hg := Finset.add_sum_erase Finset.univ g (Finset.mem_univ p)
  rw [Fin.sum_univ_def] at hf hg
  change f p + _ = (positions.map f).sum at hf
  change g p + _ = (positions.map g).sum at hg
  omega

/-- The hold line after a reply has been sent (R140). -/
theorem holdAfter_iff (s : State) (n : Nat) :
    s.holdAfter n = true ↔ 16 ≤ n ∨ s.restart ≠ .none ∨ s.starting.isSome = true := by
  unfold State.holdAfter
  rw [Bool.or_eq_true, Bool.or_eq_true, decide_eq_true_iff, decide_eq_true_iff, or_assoc]
  rfl

/-- A resolved entry's record, stored or not, changes no context. -/
theorem offer_ctxs (m : Retained) (e : DoubtEntry) : (m.offer e).1.ctxs = m.ctxs := by
  unfold Retained.offer
  split
  · rfl
  · split <;> rfl

theorem resolve_ctxs (m : Retained) (i : Identity) (t : Tally) (p : Pos) : (m.resolve i t p).1.ctxs = m.ctxs := by
  unfold Retained.resolve
  split
  · rfl
  · exact offer_ctxs _ _

theorem offerHeld_ctxs (es : List DoubtEntry) : ∀ m : Retained, (m.offerHeld es).1.ctxs = m.ctxs := by
  induction es with
  | nil => exact fun m => rfl
  | cons e es ih => exact fun m => (ih _).trans (offer_ctxs m e)

namespace Accounted
variable {k : Nat} {s : State}

/-- Fewer requests in hand. -/
theorem fewer {j : Nat} (h : Accounted k s) (hj : j ≤ k := by omega) : Accounted j s :=
  { h with room := by have := h.room; omega }

/-- What waits at one position is exchanged with what is in hand. -/
theorem exchange {j : Nat} {t : State} {p : Pos} (h : Accounted k s) (hrun : t.running = s.running)
    (hlink : t.link = s.link) (hrestart : t.restart = s.restart) (hstart : t.starting = s.starting)
    (hsave : t.save = s.save) (htest : t.test = s.test) (others : ∀ q, q ≠ p → t.owed q = s.owed q)
    (here : t.owed p + j ≤ s.owed p + k) : Accounted j t where
  running := hrun.trans h.running
  link := by simpa [State.linkLawful, hlink, hrestart, hstart] using h.link
  notices := by simpa [State.noticesOnce, hlink] using h.notices
  room := by
    have sum := sum_positions_of_agree others
    have room := h.room
    simp only [State.load, hlink, hsave, htest] at room ⊢
    omega

theorem setUnit {p : Pos} {u : Position} (h : Accounted k s) (hc : u.closes = (s.unit p).closes)
    (hw : u.wait = (s.unit p).wait) : Accounted k (s.setUnit p u) :=
  h.exchange rfl rfl rfl rfl rfl rfl (p := p)
    (fun q hq => by simp [State.owed, unit_setUnit_ne s hq]) (by simp [State.owed, hc, hw])

theorem modUnit {p : Pos} {f : Position → Position} (h : Accounted k s)
    (hf : ∀ u, (f u).closes = u.closes ∧ (f u).wait = u.wait := by exact fun u => ⟨rfl, rfl⟩) :
    Accounted k (s.modUnit p f) :=
  h.setUnit (hf _).1 (hf _).2

theorem modLine {p : Pos} {f : LineUnit → LineUnit} (h : Accounted k s) : Accounted k (s.modLine p f) := h.modUnit

theorem modCard {p : Pos} {f : Card → Card} (h : Accounted k s) : Accounted k (s.modCard p f) := h.modUnit

/-- A context is changed; where its queue gets shorter, charges come to hand. -/
theorem modCtx_short {j : Nat} {p : Pos} {f : Context → Context} (h : Accounted k s)
    (hf : (f (s.ctx p)).queue.length + j ≤ (s.ctx p).queue.length + k) : Accounted j (s.modCtx p f) :=
  h.exchange rfl rfl rfl rfl rfl rfl (p := p)
    (fun q hq => by simp [State.owed, ctx_modCtx_ne s hq])
    (by simp only [State.owed, ctx_modCtx, modCtx_unit]; omega)

theorem modCtx {p : Pos} {f : Context → Context} (h : Accounted k s)
    (hf : ∀ c, (f c).queue = c.queue := by exact fun c => rfl) : Accounted k (s.modCtx p f) :=
  h.modCtx_short (by rw [hf])

theorem retained {m : Retained} (h : Accounted k s) (hm : m.ctxs = s.retained.ctxs := by rfl) :
    Accounted k { s with retained := m } := by
  have owed : State.owed { s with retained := m } = s.owed :=
    funext fun q => by simp only [State.owed, State.ctx, Retained.ctx, hm]; rfl
  exact ⟨h.running, h.link, h.notices, by have := h.room; simpa only [State.load, owed] using this⟩

theorem arbiter {a : Arbiter} (h : Accounted k s) : Accounted k { s with arbiter := a } :=
  ⟨h.running, h.link, h.notices, h.room⟩

theorem freeCount {n : Nat} (h : Accounted k s) : Accounted k { s with freeCount := n } :=
  ⟨h.running, h.link, h.notices, h.room⟩

theorem cardsOut {cs : List Card} (h : Accounted k s) : Accounted k { s with cardsOut := cs } :=
  ⟨h.running, h.link, h.notices, h.room⟩

theorem working {x : Settings} (h : Accounted k s) : Accounted k { s with working := x } :=
  ⟨h.running, h.link, h.notices, h.room⟩

/-! ### The outbound queue -/

theorem reply {type tag pos : Byte} {b : ReplyBody} (h : Accounted (k + 1) s) :
    Accounted k (s.send (.reply type tag pos b)) where
  running := h.running
  link := h.link
  notices := by simpa [State.noticesOnce, Message.isNotice, Message.isReply] using h.notices
  room := by
    have owed : State.owed (s.send (.reply type tag pos b)) = s.owed := rfl
    have room := h.room
    simp only [State.load, Link.repliesOut, owed, send_outbound, send_link_received, send_save, send_test,
      send_link_transmitting, send_link_outstanding, List.filter_append, List.length_append] at room ⊢
    simp only [Message.isReply, List.filter_cons, List.filter_nil, if_true, List.length_singleton]
    omega

/-- A notice that is not in the queue joins it. -/
theorem notice {m : Message} (h : Accounted k s) (hm : m.isNotice = true) (hn : m ∉ s.link.outbound) :
    Accounted k (s.send m) where
  running := h.running
  link := h.link
  notices := by
    have nodup := h.notices
    simp only [State.noticesOnce, send_outbound, List.filter_append, List.filter_cons, List.filter_nil, hm,
      if_true] at nodup ⊢
    exact List.nodup_append.2 ⟨nodup, List.nodup_singleton m, fun x hx y hy => by
      rintro rfl
      rw [List.mem_singleton] at hy
      exact hn (hy ▸ List.mem_of_mem_filter hx)⟩
  room := by
    have owed : State.owed (s.send m) = s.owed := rfl
    have silent : Message.isReply m = false := by simpa [Message.isNotice] using hm
    have room := h.room
    simpa [State.load, Link.repliesOut, owed, silent] using room

theorem answer {r : Request} {b : ReplyBody} (h : Accounted (k + 1) s) : Accounted k (s.answer r b) := h.reply

theorem answerAt {p : Pos} {x y : Byte} {b : ReplyBody} (h : Accounted (k + 1) s) : Accounted k (s.answerAt p x y b) :=
  h.reply

theorem queueNotice {p : Pos} (h : Accounted k s) : Accounted k (s.queueNotice p) := by
  unfold State.queueNotice
  split
  · next hn => exact h.notice rfl hn.2
  · exact h

theorem queuePartNotice (h : Accounted k s) : Accounted k s.queuePartNotice := by
  unfold State.queuePartNotice
  split
  · next hn => exact h.notice rfl hn
  · exact h

theorem linkFlags {f : Link → BitVec 5} (h : Accounted k s) :
    Accounted k (s.modLink fun l => { l with flags := f l }) :=
  ⟨h.running, h.link, h.notices, h.room⟩

theorem raise {p : Pos} {f : PosFlag} (h : Accounted k s) : Accounted k (s.raise p f) := by
  unfold State.raise
  split
  · exact h
  · exact h.modUnit.queueNotice

theorem raisePart {f : PartFlag} (h : Accounted k s) : Accounted k (s.raisePart f) := by
  unfold State.raisePart
  split
  · exact h
  · exact h.linkFlags.queuePartNotice

theorem raisePartIf {b : Bool} {f : PartFlag} (h : Accounted k s) : Accounted k (s.raisePartIf b f) := by
  unfold State.raisePartIf
  split
  · exact h.raisePart
  · exact h

theorem acknowledge {p : Pos} {m v : BitVec 9} (h : Accounted k s) : Accounted k (s.acknowledge p m v) := by
  unfold State.acknowledge
  dsimp only
  split
  · exact h.modUnit.queueNotice
  · exact h.modUnit

theorem acknowledgePart {m v : BitVec 5} (h : Accounted k s) : Accounted k (s.acknowledgePart m v) := by
  unfold State.acknowledgePart
  dsimp only
  split
  · exact h.linkFlags.queuePartNotice
  · exact h.linkFlags

/-! ### Lines and orders -/

theorem contactOff {p : Pos} {c : Contact} (h : Accounted k s) : Accounted k (s.contactOff p c) := by
  rw [contactOff_eq]
  exact freeCount (s := s.setUnit p _) (h.setUnit rfl rfl)

theorem contactOn {p : Pos} (h : Accounted k s) : Accounted k (s.contactOn p) := h.modUnit
theorem contactAwake {p : Pos} (h : Accounted k s) : Accounted k (s.contactAwake p) := h.modLine
theorem beginOrder {p : Pos} {o : OrderKind} {g : Stage} {a : Attempt} {x : Purpose} (h : Accounted k s) :
    Accounted k (s.beginOrder p o g a x) := h.modLine
theorem beginWake {p : Pos} {a : Attempt} {x : Purpose} (h : Accounted k s) : Accounted k (s.beginWake p a x) :=
  h.contactOn.beginOrder
theorem endOrder {p : Pos} (h : Accounted k s) : Accounted k (s.endOrder p) := h.modLine
theorem clearField {p : Pos} (h : Accounted k s) : Accounted k (s.clearField p) := h.modCtx
theorem clearWork {p : Pos} (h : Accounted k s) : Accounted k (s.clearWork p) := h.modUnit
theorem withdraw {p : Pos} (h : Accounted k s) : Accounted k (s.withdraw p) := h.arbiter
theorem joinWaiting {r : WriteRequest} (h : Accounted k s) : Accounted k (s.joinWaiting r) := by
  unfold State.joinWaiting
  exact h.arbiter.modLine

theorem sendRead {p : Pos} {r : ReadFor} {a : Attempt} (h : Accounted k s) : Accounted k (s.sendRead p r a) := by
  unfold State.sendRead
  split
  · exact h.beginOrder
  · exact h.beginWake

theorem nextRead {p : Pos} (h : Accounted k s) : Accounted k (s.nextRead p) := by
  unfold State.nextRead
  split
  · exact h.sendRead
  · exact h

/-! ### Write channels -/

theorem countSend {p : Pos} {r : Requester} (h : Accounted k s) : Accounted k (s.modUnit p (Position.countSend r)) :=
  h.modUnit fun u => by cases r <;> exact ⟨rfl, rfl⟩

theorem grantTo {r : WriteRequest} (h : Accounted k s) : Accounted k (s.grantTo r) := by
  unfold State.grantTo
  dsimp only
  split
  · exact h.beginWake
  · split
    · exact h
    · exact h.arbiter.modCtx.countSend.beginOrder

theorem grantLoop (n : Nat) : ∀ {s : State}, Accounted k s → Accounted k (s.grantLoop n) := by
  induction n with
  | zero => exact fun h => h
  | succ n ih =>
    intro s h
    unfold State.grantLoop
    split
    · exact h
    · split
      · exact ih h.arbiter.grantTo
      · exact h

theorem grantAll (h : Accounted k s) : Accounted k s.grantAll := grantLoop _ h

theorem requestWrite {p : Pos} (h : Accounted k s) : Accounted k (s.requestWrite p) := by
  unfold State.requestWrite
  split
  · exact h
  · split
    · exact h
    · split
      · exact h.beginWake
      · exact h.joinWaiting.grantAll

theorem release {p : Pos} (h : Accounted k s) : Accounted k (s.release p) := by
  unfold State.release
  split
  · exact h.arbiter.grantAll
  · exact h

theorem dropUnsent {p : Pos} (h : Accounted k s) : Accounted k (s.dropUnsent p) := by
  unfold State.dropUnsent
  split
  · exact h.endOrder.clearField.release
  · exact h

/-! ### Calls and charges (R63, R66, R85, R88) -/

theorem lowCompare {p : Pos} (h : Accounted k s) : Accounted k (s.lowCompare p) := by
  unfold State.lowCompare
  dsimp only
  split
  · exact h.modCtx.raise
  · exact h

theorem replyCharge {p : Pos} {x : Charge} {o : ChargeOutcome} {n : Nat} {l : Option Location}
    (h : Accounted (k + 1) s) : Accounted k (s.replyCharge p x o n l) := h.answerAt

theorem startRest {p : Pos} (h : Accounted k s) : Accounted k (s.startRest p) := by
  unfold State.startRest
  split
  · exact h.modLine
  · exact h

/-- The head leaves the queue: its charge is in hand. -/
theorem settleHead {p : Pos} {x : Charge} {behind : List Charge} {a : Nat} (h : Accounted k s)
    (hq : (s.ctx p).queue = x :: behind) : Accounted (k + 1) (s.modCtx p fun c => c.settleHead a) :=
  h.modCtx_short (by simp [Context.settleHead, hq]; omega)

theorem cancelHead {p : Pos} {x : Charge} {behind : List Charge} (h : Accounted k s)
    (hq : (s.ctx p).queue = x :: behind) : Accounted (k + 1) (s.modCtx p Context.cancelHead) :=
  h.modCtx_short (by simp [Context.cancelHead, hq]; omega)

theorem cancelSecond {p : Pos} {x y : Charge} {behind : List Charge} (h : Accounted k s)
    (hq : (s.ctx p).queue = x :: y :: behind) : Accounted (k + 1) (s.modCtx p Context.cancelSecond) :=
  h.modCtx_short (by simp [Context.cancelSecond, hq]; omega)

theorem settleOwn {p : Pos} (h : Accounted k s) : Accounted k (s.settleOwn p) := by
  unfold State.settleOwn
  split
  · next hq _ =>
    dsimp only
    split
    · exact (h.settleHead hq).clearWork.lowCompare.replyCharge
    · exact (h.settleHead hq).clearWork.lowCompare.raise.replyCharge
  · exact h

theorem cutHead {p : Pos} {o : ChargeOutcome} {l : Option Location} (h : Accounted k s) :
    Accounted k (s.cutHead p o l) := by
  unfold State.cutHead
  split
  · exact h
  · next hq =>
    split
    · exact (h.settleHead hq).clearWork.replyCharge.lowCompare
    · exact (h.cancelHead hq).replyCharge.lowCompare

theorem cutAll {p : Pos} {o : ChargeOutcome} {l : Option Location} (n : Nat) :
    ∀ {s : State}, Accounted k s → Accounted k (State.cutAll n s p o l) := by
  induction n with
  | zero => exact fun h => h
  | succ n ih => exact fun h => ih h.cutHead

theorem cutBehind {p : Pos} (n : Nat) : ∀ {s : State}, Accounted k s → Accounted k (State.cutBehind n s p) := by
  induction n with
  | zero => exact fun h => h
  | succ n ih =>
    intro s h
    unfold State.cutBehind
    split
    · next hq => exact ih (h.cancelSecond hq).replyCharge.lowCompare
    · exact h

theorem answerTags {p : Pos} {x : Byte} {b : ReplyBody} (tags : List Byte) : ∀ {s : State},
    Accounted (k + tags.length) s → Accounted k (tags.foldl (fun s tag => s.answerAt p x tag b) s) := by
  induction tags with
  | nil => exact fun h => h
  | cons tag tags ih => exact fun h => ih (answerAt h)

theorem answerCloses {p : Pos} {r : CallRecord} (h : Accounted k s) : Accounted k (s.answerCloses p r) :=
  answerTags _ (h.exchange rfl rfl rfl rfl rfl rfl (p := p)
    (fun q hq => by simp [State.owed, unit_modUnit_ne s hq]) (by simp [State.owed]; omega))

theorem closeTear {p : Pos} (h : Accounted k s) : Accounted k (s.modRetained fun m => m.closeTear p) :=
  h.exchange rfl rfl rfl rfl rfl rfl (p := p)
    (fun q hq => by simp only [State.owed, State.ctx, modRetained_retained, closeTear_ctx_ne _ hq]; rfl)
    (by simp only [State.owed, State.ctx, modRetained_retained, closeTear_ctx]; exact Nat.le_refl _)

theorem storeCall {p : Pos} {e : EndCause} {l : Option Location} (h : Accounted k s) :
    Accounted k (s.modRetained fun m => m.storeCall p e l) :=
  h.exchange rfl rfl rfl rfl rfl rfl (p := p)
    (fun q hq => by simp only [State.owed, State.ctx, modRetained_retained, storeCall_ctx_ne _ e l hq]; rfl)
    (by simp [State.owed, State.ctx])

theorem closeCall {p : Pos} {e : EndCause} {l : Option Location} (h : Accounted k s) :
    Accounted k (s.closeCall p e l) := by
  unfold State.closeCall
  split
  · exact h
  · dsimp only
    split
    · exact (cutAll _ h.closeTear).storeCall.clearWork.raisePart.raise.answerCloses
    · exact (cutAll _ h.closeTear).storeCall.clearWork.raisePart.answerCloses

theorem completeRequested {p : Pos} (h : Accounted k s) : Accounted k (s.completeRequested p) :=
  h.closeCall.modLine.startRest

theorem completeIfDue {p : Pos} (h : Accounted k s) : Accounted k (s.completeIfDue p) := by
  unfold State.completeIfDue
  split
  · exact h.completeRequested
  · exact h

theorem beginStep {p : Pos} (h : Accounted k s) : Accounted k (s.beginStep p) := by
  unfold State.beginStep
  split
  · exact h
  · exact h.modUnit.requestWrite

theorem workQueue {p : Pos} (n : Nat) : ∀ {s : State}, Accounted k s → Accounted k (State.workQueue n s p) := by
  induction n with
  | zero => exact fun h => h
  | succ n ih =>
    intro s h
    unfold State.workQueue
    split
    · exact h
    · split
      · dsimp only
        split
        · exact h.modUnit.beginStep
        · split
          · exact ih h.modUnit.settleOwn
          · exact h.modUnit
      · exact h

theorem continueHead {p : Pos} (h : Accounted k s) : Accounted k (s.continueHead p) := by
  unfold State.continueHead
  split
  · exact h
  · split
    · split
      · exact h.requestWrite
      · split
        · exact h.beginStep
        · exact workQueue _ h.settleOwn
      · split
        · exact h.requestWrite
        · exact h.cutHead
      · exact h.cutHead
      · exact h
    · exact h

/-! ### Faults and identification -/

theorem dropSequence {p : Pos} (h : Accounted k s) : Accounted k (s.dropSequence p) := h.modUnit.clearField

theorem enterFaulted {p : Pos} {c : FaultCause} {l : Option Location} (h : Accounted k s) :
    Accounted k (s.enterFaulted p c l) := by
  unfold State.enterFaulted
  dsimp only
  split
  · exact h
  · split
    · exact h.contactOff.modLine.raise.dropSequence
    · exact h.contactOff.modLine.raise.closeCall
    · exact h.contactOff.modLine.raise

theorem lineFailure {p : Pos} (h : Accounted k s) : Accounted k (s.lineFailure p) := h.enterFaulted

theorem attemptFailed {p : Pos} {o : Order} (h : Accounted k s) : Accounted k (s.attemptFailed p o) := by
  unfold State.attemptFailed
  split
  · exact h.endOrder.release.sendRead
  · split
    · exact h.lineFailure
    · exact h.beginWake
  · split
    · exact h.lineFailure
    · exact h.sendRead
  · split
    · exact h.lineFailure
    · exact h.beginWake
  · split
    · exact h.lineFailure
    · exact h.beginWake
  · exact h

theorem beginIdentification {p : Pos} (h : Accounted k s) : Accounted k (s.beginIdentification p) := by
  unfold State.beginIdentification
  dsimp only
  split
  · exact h.contactOff.modUnit.beginWake
  · exact h.contactOff.modUnit

theorem insert {p : Pos} (h : Accounted k s) : Accounted k (s.insert p) := h.beginIdentification.raise

theorem reject {p : Pos} {c : Cause} (h : Accounted k s) : Accounted k (s.reject p c) := h.contactOff.modUnit.raise

theorem checkCard {p : Pos} {x : Header} (h : Accounted k s) : Accounted k (s.checkCard p x) := by
  unfold State.checkCard
  split
  · exact h.reject
  · split
    · exact h.reject
    · exact h.modUnit.nextRead

theorem headerAnswered {p : Pos} {x : Header} (h : Accounted k s) : Accounted k (s.headerAnswered p x) := by
  unfold State.headerAnswered
  split
  · exact h.modUnit.checkCard
  · split
    · exact h.reject
    · exact h.modUnit.nextRead

theorem storeImage {p : Pos} {x : Header} {t : Tally} (h : Accounted k s) : Accounted k (s.storeImage p x t) :=
  h.modCtx.modUnit.raise.startRest

theorem checkConsumption {p : Pos} {x : Header} {t : Tally} (h : Accounted k s) :
    Accounted k (s.checkConsumption p x t) := by
  unfold State.checkConsumption
  split
  · exact h.reject
  · split
    · exact h.reject
    · exact h.storeImage

theorem finishSequence {p : Pos} (h : Accounted k s) : Accounted k (s.finishSequence p) := by
  unfold State.finishSequence
  split
  · exact h.checkConsumption
  · exact h

/-! ### Doubts and answers -/

theorem resolveDoubt {p : Pos} {i : Identity} {t : Tally} (h : Accounted k s) : Accounted k (s.resolveDoubt p i t) := by
  unfold State.resolveDoubt
  dsimp only
  split
  · exact (h.retained (resolve_ctxs _ i t p)).raisePart
  · exact h.retained (resolve_ctxs _ i t p)

theorem tallyAnswered {p : Pos} {t : Tally} (h : Accounted k s) : Accounted k (s.tallyAnswered p t) := by
  unfold State.tallyAnswered
  dsimp only
  split <;> split
  · exact h.modUnit.resolveDoubt.finishSequence
  · exact h.modUnit.finishSequence
  · exact h.modUnit.resolveDoubt.modUnit.requestWrite
  · exact h.modUnit.modUnit.requestWrite

theorem callJudged {p : Pos} {f : InFlight} {t : Tally} (h : Accounted k s) : Accounted k (s.callJudged p f t) := by
  unfold State.callJudged
  split
  · refine (h.modCtx_short (f := Context.confirm f t) ?_).modUnit.continueHead
    cases hk : f.kind with
    | burn => cases hq : (s.ctx p).queue <;> simp [Context.confirm, Context.countStep, Context.readImage, hk, hq]
    | restage => simp [Context.confirm, Context.readImage, hk]
  · split
    · exact h.clearField.continueHead
    · exact h.clearField.enterFaulted
  · exact h.modCtx.enterFaulted

theorem latchJudged {p : Pos} {f : InFlight} {t : Tally} (h : Accounted k s) : Accounted k (s.latchJudged p f t) := by
  unfold State.latchJudged
  dsimp only
  split
  · split
    · exact h.clearField.modLine.modUnit.finishSequence
    · exact h.clearField.modLine.modUnit
  · split
    · exact h.clearField.modLine.requestWrite
    · exact h.clearField.modLine.enterFaulted
  · exact h.clearField.modLine.enterFaulted

theorem verified {p : Pos} {t : Tally} (h : Accounted k s) : Accounted k (s.verified p t) := by
  unfold State.verified
  split
  · exact h
  · split
    · exact h.callJudged
    · exact h.latchJudged

theorem writeRefused {p : Pos} (h : Accounted k s) : Accounted k (s.writeRefused p) :=
  h.endOrder.clearField.release.sendRead

theorem refusalRead {p : Pos} {t : Tally} (h : Accounted k s) : Accounted k (s.refusalRead p t) := by
  unfold State.refusalRead
  dsimp only
  split
  · exact h.modCtx.enterFaulted
  · exact h.modLine.enterFaulted

theorem wokenForRead {p : Pos} {r : ReadFor} {a : Attempt} (h : Accounted k s) : Accounted k (s.wokenForRead p r a) := by
  unfold State.wokenForRead
  split
  · exact h
  · exact h.sendRead

theorem wokenForRequest {p : Pos} (h : Accounted k s) : Accounted k (s.wokenForRequest p) := by
  unfold State.wokenForRequest
  split
  · exact h.continueHead
  · exact h.requestWrite

theorem firstWoken {p : Pos} (h : Accounted k s) : Accounted k (s.firstWoken p) := h.modUnit.nextRead

theorem answered {p : Pos} {o : Order} {a : Answer} (h : Accounted k s) : Accounted k (s.answered p o a) := by
  unfold State.answered
  dsimp only
  split
  · split
    · exact h.endOrder.contactAwake.firstWoken
    · exact h.endOrder.reject
  · split
    · exact h.endOrder.contactAwake.wokenForRead
    · exact h.endOrder.lineFailure
  · split
    · exact h.endOrder.contactAwake.wokenForRequest
    · exact h.endOrder.lineFailure
  · exact h.endOrder.release.sendRead
  · exact h.writeRefused
  · exact h.endOrder.headerAnswered
  · exact h.endOrder.tallyAnswered
  · exact h.endOrder.verified
  · exact h.endOrder.refusalRead
  · exact h

/-! ### The self-test -/

theorem leaveTest {p : Pos} (h : Accounted k s) : Accounted k (s.leaveTest p) := by
  unfold State.leaveTest
  dsimp only
  split
  · exact h.modUnit.insert
  · exact h.modUnit

/-- The running test is exchanged with what is in hand. -/
theorem test {j : Nat} {x : Option TestRun} (h : Accounted k s)
    (hx : optCount x + j ≤ optCount s.test + k := by omega) :
    Accounted j { s with test := x } where
  running := h.running
  link := h.link
  notices := h.notices
  room := by
    have owed : State.owed { s with test := x } = s.owed := rfl
    have room := h.room
    simp only [State.load, owed] at room ⊢
    omega

/-- The SAVE being written is exchanged with what is in hand. -/
theorem save {j : Nat} {x : Option SaveRun} (h : Accounted k s) (hx : optCount x + j ≤ optCount s.save + k) :
    Accounted j { s with save := x } where
  running := h.running
  link := h.link
  notices := h.notices
  room := by
    have owed : State.owed { s with save := x } = s.owed := rfl
    have room := h.room
    simp only [State.load, owed] at room ⊢
    omega

theorem finishTest (h : Accounted k s) : Accounted k s.finishTest := by
  unfold State.finishTest
  split
  · exact h
  · next ht =>
    split
    · exact (h.test (j := k + 1) (by simp [optCount, ht])).reply
    · exact h

theorem fixCode {p : Pos} {c : Byte} (h : Accounted k s) : Accounted k (s.fixCode p c) := by
  unfold State.fixCode
  exact (h.test (by cases s.test <;> exact Nat.le_refl _)).leaveTest.finishTest

theorem beginTestFrame {p : Pos} {o : OrderKind} {a : Attempt} {x : Option Quad} (h : Accounted k s) :
    Accounted k (s.beginTestFrame p o a x) := by
  unfold State.beginTestFrame
  dsimp only
  split
  · exact h.modUnit.beginOrder.freeCount.modLine
  · exact h.modUnit.beginOrder.freeCount

theorem echoFailed {p : Pos} {o : Order} {c : Byte} (h : Accounted k s) : Accounted k (s.echoFailed p o c) := by
  unfold State.echoFailed
  split
  · exact h.fixCode
  · exact h.endOrder.beginTestFrame

theorem doLoopbackReturn {p : Pos} {bs : List Byte} (h : Accounted k s) : Accounted k (s.doLoopbackReturn p bs) := by
  unfold State.doLoopbackReturn
  split
  · split
    · exact h.endOrder.beginTestFrame
    · exact h.fixCode
  · exact h

theorem doLoopbackTimeout {p : Pos} (h : Accounted k s) : Accounted k (s.doLoopbackTimeout p) := by
  unfold State.doLoopbackTimeout
  split
  · exact h.fixCode
  · exact h

theorem doEchoAnswer {p : Pos} {bs : List Byte} (h : Accounted k s) : Accounted k (s.doEchoAnswer p bs) := by
  unfold State.doEchoAnswer
  split
  · split
    · exact h
    · exact h.fixCode
    · exact h.echoFailed
  · exact h

theorem doEchoTimeout {p : Pos} (h : Accounted k s) : Accounted k (s.doEchoTimeout p) := by
  unfold State.doEchoTimeout
  split
  · split
    · exact h.echoFailed
    · exact h
  · exact h

theorem enterTest {p : Pos} (h : Accounted k s) : Accounted k (s.enterTest p) := h.modUnit.beginTestFrame

theorem foldl {α : Type} {f : State → α → State} (hf : ∀ {s a}, Accounted k s → Accounted k (f s a)) (l : List α) :
    ∀ {s : State}, Accounted k s → Accounted k (l.foldl f s) := by
  induction l with
  | nil => exact fun h => h
  | cons a l ih => exact fun h => ih (hf h)

theorem abortTest (h : Accounted k s) : Accounted k s.abortTest :=
  (foldl leaveTest _ h).test (by simp [optCount])

end Accounted
end Sys2Proof.Machine

namespace Sys2Proof.Machine
namespace Accounted
variable {k : Nat} {s : State}

/-! ### Requests of a position -/

/-- An owner takes the oldest request it was given: the request is in hand. -/
theorem takeFront {o : Owner} {r : Request} (h : Accounted k s) (hr : s.front o = some r) :
    Accounted (k + 1) (s.takeFront o) where
  running := h.running
  link := h.link
  notices := h.notices
  room := by
    have owed : State.owed (s.takeFront o) = s.owed := rfl
    have taken : (s.link.received.eraseP fun x => x.owner = o).length = s.link.received.length - 1 :=
      List.length_eraseP_of_mem (List.mem_of_find?_eq_some hr) (List.find?_some (p := fun x : Request => x.owner = o) hr)
    have given : 0 < s.link.received.length := List.length_pos_of_mem (List.mem_of_find?_eq_some hr)
    have room : s.load + k ≤ s.link.outstanding := h.room
    have link : (s.takeFront o).link.repliesOut = s.link.repliesOut := rfl
    simp only [State.load, owed, link, takeFront_received, taken, takeFront_save, takeFront_test,
      takeFront_link_outstanding] at room ⊢
    omega

theorem abandonOrder {p : Pos} (h : Accounted k s) : Accounted k (s.abandonOrder p) := by
  unfold State.abandonOrder
  split
  · exact h
  · exact h.endOrder

theorem stopWork {p : Pos} (h : Accounted k s) : Accounted k (s.stopWork p) := h.withdraw.dropUnsent.abandonOrder

theorem goOff {p : Pos} (h : Accounted k s) : Accounted k (s.goOff p) := h.stopWork.contactOff.modUnit.clearField

/-- What waits at a position is exchanged with what is in hand. -/
theorem setWait {j : Nat} {p : Pos} {x : Option LineWait} (h : Accounted k s)
    (hx : optCount x + j ≤ optCount (s.unit p).wait + k) : Accounted j (s.modUnit p fun u => { u with wait := x }) :=
  h.exchange rfl rfl rfl rfl rfl rfl (p := p)
    (fun q hq => by simp [State.owed, unit_modUnit_ne s hq])
    (by simp only [State.owed, unit_modUnit, modUnit_ctx]; omega)

/-- A request taken waits at the position. -/
theorem waits {p : Pos} {x : LineWait} (h : Accounted (k + 1) s) :
    Accounted k (s.modUnit p fun u => { u with wait := some x }) :=
  h.setWait (by simp [optCount]; omega)

/-- What waited at a position is in hand. -/
theorem clearWait {p : Pos} {x : LineWait} (h : Accounted k s) (hx : (s.unit p).wait = some x) :
    Accounted (k + 1) (s.clearWait p) :=
  h.setWait (by simp [optCount, hx])

theorem takeReset {p : Pos} {r : Request} (h : Accounted (k + 1) s) : Accounted k (s.takeReset p r) := by
  unfold State.takeReset
  split
  · exact h.answer
  · exact h.completeIfDue.stopWork.waits

theorem doResetPosition {p : Pos} (h : Accounted 0 s) : Accounted 0 (s.doResetPosition p) := by
  unfold State.doResetPosition
  split
  · next hr _ =>
    split
    · exact (h.takeFront hr).takeReset
    · exact h
  · exact h

theorem resetEffect {p : Pos} (h : Accounted k s) : Accounted k (s.resetEffect p) := by
  unfold State.resetEffect
  split
  · exact h
  · exact h
  · exact h.modLine
  · exact h.beginIdentification
  · exact h.beginIdentification
  · exact h.beginIdentification
  · exact h.beginIdentification
  · exact h.closeCall.beginIdentification

theorem resetAct {p : Pos} {x : LineWait} (h : Accounted k s) (hx : (s.unit p).wait = some x) :
    Accounted (k + 1) (s.resetAct p) := (h.clearWait hx).resetEffect

theorem doResetPositionAct {p : Pos} (h : Accounted 0 s) : Accounted 0 (s.doResetPositionAct p) := by
  unfold State.doResetPositionAct
  split
  · next hw =>
    split
    · exact (h.resetAct hw).answerAt
    · exact h
  · exact h

theorem writeSettings {p : Pos} {x : PosSettings} (h : Accounted k s) : Accounted k (s.writeSettings p x) := h.working

theorem comeIntoService {p : Pos} (h : Accounted k s) : Accounted k (s.comeIntoService p) := by
  unfold State.comeIntoService
  split
  · exact h.insert
  · exact h.modLine

theorem configured {p : Pos} {r : Request} {x : PosSettings} (h : Accounted (k + 1) s) :
    Accounted k (s.configured p r x) := by
  unfold State.configured
  dsimp only
  split
  · exact h.writeSettings.comeIntoService.answer
  · exact h.writeSettings.answer
  · exact h.writeSettings.answer
  · split
    · exact h.writeSettings.stopWork.waits
    · exact h.writeSettings.goOff.answer

theorem takeConfigure {p : Pos} {r : Request} {i n c : Byte} (h : Accounted (k + 1) s) :
    Accounted k (s.takeConfigure p r i n c) := by
  unfold State.takeConfigure
  split
  · exact h.answer
  · dsimp only
    split
    · exact h.completeIfDue.answer
    · exact h.completeIfDue.configured

theorem doConfigure {p : Pos} (h : Accounted 0 s) : Accounted 0 (s.doConfigure p) := by
  unfold State.doConfigure
  split
  · next hr _ =>
    split
    · exact (h.takeFront hr).takeConfigure
    · exact h
  · exact h

theorem configureAct {p : Pos} {x : LineWait} (h : Accounted k s) (hx : (s.unit p).wait = some x) :
    Accounted (k + 1) (s.configureAct p) := by
  unfold State.configureAct
  split
  · exact h.clearWait hx
  · exact (h.clearWait hx).goOff

theorem doConfigureAct {p : Pos} (h : Accounted 0 s) : Accounted 0 (s.doConfigureAct p) := by
  unfold State.doConfigureAct
  split
  · next hw =>
    split
    · exact (h.configureAct hw).answerAt
    · exact h
  · exact h

/-! ### RESTART -/

theorem restartReady {p : Pos} (h : Accounted k s) : Accounted k (s.restartReady p) := by
  unfold State.restartReady
  split
  · dsimp only
    split
    · exact h.modLine.contactOff
    · exact h.modLine.startRest
  · exact h

theorem restartCloseAt {p : Pos} (h : Accounted k s) : Accounted k (s.restartCloseAt p) := by
  unfold State.restartCloseAt
  split
  · exact h.completeRequested
  · exact h.closeCall.restartReady

theorem restartSettle (h : Accounted k s) : Accounted k s.restartSettle := by
  unfold State.restartSettle
  split
  · next hs =>
    refine foldl restartCloseAt _ (s := { s with restart := .closed, freeCount := s.freeCount + 1 }) ?_
    exact ⟨h.running, by simpa [State.linkLawful, hs.1] using h.link, h.notices, h.room⟩
  · exact h

theorem stopArbiter (h : Accounted k s) : Accounted k s.stopArbiter :=
  foldl dropUnsent _ h.arbiter

/-- A RESTART becomes pending, and the hold line is asserted (R153). -/
theorem settling (h : Accounted k s) :
    Accounted k { s.modLink (fun l => { l with hold := true }) with restart := .settling } where
  running := h.running
  link := by simpa [State.linkLawful] using h.link.1
  notices := h.notices
  room := h.room

theorem takeRestart {r : Request} (h : Accounted (k + 1) s) : Accounted k (s.takeRestart r) :=
  h.answer.settling.stopArbiter.abortTest.restartSettle

theorem doRestart (h : Accounted 0 s) : Accounted 0 s.doRestart := by
  unfold State.doRestart
  split
  · next hr =>
    split
    · exact (h.takeFront hr).takeRestart
    · exact h
  · exact h

/-! ### Presence and orders -/

theorem blinkEnd {p : Pos} (h : Accounted k s) : Accounted k (s.blinkEnd p) := by
  unfold State.blinkEnd
  dsimp only
  split
  · exact h.contactOff
  · exact h

theorem doLoopCurrentChange {p : Pos} {x : LoopChange} (h : Accounted k s) :
    Accounted k (s.doLoopCurrentChange p x) := by
  unfold State.doLoopCurrentChange
  split
  · dsimp only
    split
    · exact h.modUnit.cardsOut.modLine
    · exact h.modUnit.cardsOut
  · split
    · exact h
    · dsimp only
      split
      · exact h.modUnit.cardsOut.blinkEnd.modLine
      · exact h.modUnit.cardsOut
  · exact h

theorem doInsertion {p : Pos} (h : Accounted k s) : Accounted k (s.doInsertion p) := by
  unfold State.doInsertion
  dsimp only
  split
  · split
    · exact h.modLine.insert
    · exact h.modLine
  · exact h

theorem teardown {p : Pos} (h : Accounted k s) : Accounted k (s.teardown p) := by
  unfold State.teardown
  dsimp only
  split
  · exact h.dropUnsent.contactOff.modUnit.raise.withdraw.release.closeCall
  · exact h.dropUnsent.contactOff.modUnit.raise.withdraw.release.clearField

theorem removed {p : Pos} (h : Accounted k s) : Accounted k (s.removed p) := by
  unfold State.removed
  dsimp only
  split
  · exact h.modLine.teardown
  · exact h.modLine

/-- What acts before a removal has its reply still in hand after it. -/
theorem dueFirst {p : Pos} (h : Accounted k s) : Accounted (k + optCount (s.dueFirst p).2) (s.dueFirst p).1 := by
  unfold State.dueFirst
  dsimp only
  split
  · next hw =>
    split
    · exact h.completeIfDue.resetAct hw
    · exact h.completeIfDue
  · next hw =>
    split
    · exact h.completeIfDue.configureAct hw
    · exact h.completeIfDue
  · exact h.completeIfDue

theorem replyIf {p : Pos} {r : Option (Byte × Byte)} (h : Accounted (k + optCount r) s) :
    Accounted k (s.replyIf p r) := by
  unfold State.replyIf
  split
  · exact h.answerAt
  · exact h

theorem doRemoval {p : Pos} (h : Accounted k s) : Accounted k (s.doRemoval p) := by
  unfold State.doRemoval
  dsimp only
  split
  · exact h.dueFirst.removed.replyIf.restartSettle
  · exact h

theorem doRestCountExpiry {p : Pos} (h : Accounted k s) : Accounted k (s.doRestCountExpiry p) := by
  unfold State.doRestCountExpiry
  split
  · split
    · exact h
    · exact h.contactOff
  · exact h

theorem doOrderFrameEnd {p : Pos} {x : Passage} {b : Bool} (h : Accounted k s) :
    Accounted k (s.doOrderFrameEnd p x b) := by
  unfold State.doOrderFrameEnd
  split
  · exact h
  · split
    · exact h
    · dsimp only
      split
      · exact h.modLine
      · exact h.modLine.modCard

theorem takeAnswer {p : Pos} {bs : List Byte} (h : Accounted k s) : Accounted k (s.takeAnswer p bs) := by
  unfold State.takeAnswer
  split
  · exact h
  · split
    · exact h
    · split
      · exact h
      · exact h.attemptFailed
      · split
        · exact h
        · split
          · exact h.answered
          · exact h.attemptFailed

theorem arrives {p : Pos} {a : Arrival} {x : List Byte × State} (h : Accounted k s) (hx : s.arrives p a = some x) :
    Accounted k x.2 := by
  cases a with
  | answer =>
    obtain ⟨bs, -, rfl⟩ := Option.map_eq_some_iff.1 hx
    exact h.modCard
  | altered bs => cases hx; exact h.modCard
  | stray bs => cases hx; exact h

theorem doAnswerFrame {p : Pos} {a : Arrival} (h : Accounted k s) : Accounted k (s.doAnswerFrame p a) := by
  unfold State.doAnswerFrame
  split
  · exact h
  · next hx => exact (h.arrives hx).takeAnswer.startRest.restartSettle

theorem doAnswerTimeout {p : Pos} (h : Accounted k s) : Accounted k (s.doAnswerTimeout p) := by
  unfold State.doAnswerTimeout
  split
  · exact h
  · split
    · exact h
    · exact h.modCard.attemptFailed.startRest.restartSettle

/-! ### Requests of the call table -/

theorem opened {p : Pos} {i : Image} {x : Terms} {n : Nat} (h : Accounted k s) :
    Accounted k (s.modRetained fun m => m.openCall p i x n) :=
  h.exchange rfl rfl rfl rfl rfl rfl (p := p)
    (fun q hq => by
      simp only [State.owed, State.ctx, modRetained_retained, Retained.openCall, ctx_modCtx_retained_ne _ hq]; rfl)
    (by simp [State.owed, State.ctx, Retained.openCall, Context.opened])

theorem openAccepted {p : Pos} {r : Request} {i : Image} {x : Terms} {n : Nat} (h : Accounted (k + 1) s) :
    Accounted k (s.openAccepted p r i x n) := h.opened.modLine.lowCompare.answer

theorem takeOpen {p : Pos} {r : Request} {n : Nat} (h : Accounted (k + 1) s) : Accounted k (s.takeOpen p r n) := by
  unfold State.takeOpen
  split
  · exact h.answer
  · split
    · exact h.reject.answer
    · split
      · exact h.answer
      · exact h.openAccepted

theorem doOpen (h : Accounted 0 s) : Accounted 0 s.doOpen := by
  unfold State.doOpen
  split
  · exact h
  · next hr =>
    split
    · exact (h.takeFront hr).completeIfDue.takeOpen
    · exact h

theorem joinQueue {p : Pos} {x : Charge} (h : Accounted (k + 1) s) : Accounted k (s.joinQueue p x) :=
  (h.modCtx_short (j := k) (by simp; omega)).modLine

theorem takeCharge {p : Pos} {r : Request} {n : Nat} (h : Accounted (k + 1) s) : Accounted k (s.takeCharge p r n) := by
  unfold State.takeCharge
  split
  · exact h.answer
  · split
    · exact h.answer
    · exact (workQueue _ h.joinQueue).startRest

theorem doCharge (h : Accounted 0 s) : Accounted 0 s.doCharge := by
  unfold State.doCharge
  split
  · exact h
  · next hr =>
    split
    · exact (h.takeFront hr).takeCharge
    · exact h

theorem closeHead {p : Pos} (h : Accounted k s) : Accounted k (s.closeHead p) := by
  unfold State.closeHead
  split
  · exact h.completeRequested
  · split
    · exact h
    · exact h.withdraw.dropUnsent.cutHead.startRest

/-- A CLOSE taken is held at its position. -/
theorem holdClose {p : Pos} {tag : Byte} (h : Accounted (k + 1) s) :
    Accounted k (s.modUnit p fun u => { u with closes := u.closes ++ [tag] }) :=
  h.exchange rfl rfl rfl rfl rfl rfl (p := p)
    (fun q hq => by simp [State.owed, unit_modUnit_ne s hq])
    (by simp only [State.owed, unit_modUnit, modUnit_ctx, List.length_append, List.length_singleton]; omega)

theorem takeClose {p : Pos} {r : Request} (h : Accounted (k + 1) s) : Accounted k (s.takeClose p r) := by
  unfold State.takeClose
  split
  · exact h.answer
  · dsimp only
    split
    · exact h.holdClose
    · exact (cutBehind _ h.holdClose.modCtx).closeHead

theorem doClose (h : Accounted 0 s) : Accounted 0 s.doClose := by
  unfold State.doClose
  split
  · exact h
  · next hr =>
    split
    · exact (h.takeFront hr).takeClose
    · exact h

/-! ### The self-test, the tables and the lists -/

theorem startTest {r : Request} {m : Quad} (h : Accounted (k + 1) s) (ht : s.test = none) :
    Accounted k (s.startTest r m) :=
  (foldl enterTest _ (h.test (by simp [optCount, ht]; omega))).finishTest

theorem doSelfTest (h : Accounted 0 s) : Accounted 0 s.doSelfTest := by
  unfold State.doSelfTest
  split
  · exact h
  · next hr =>
    dsimp only
    split
    · split
      · exact (h.takeFront hr).answer
      · next free =>
        split
        · exact (h.takeFront hr).fewer
        · exact (h.takeFront hr).startTest (by simpa using fun x => free (.inr x))
    · exact h

theorem guarded {r : Request} {f : State → State} (h : Accounted (k + 1) s)
    (hf : s.guardRefusal = none → Accounted k (f s)) : Accounted k (s.guarded r f) := by
  unfold State.guarded
  split
  · exact h.answer
  · next pass => exact hf pass

theorem writeSeries {i : Fin 16} {e : Option SeriesFields} (h : Accounted k s) : Accounted k (s.writeSeries i e) :=
  h.working

theorem writeBlocks {bs : List Range} (h : Accounted k s) : Accounted k (s.writeBlocks bs) := h.working

theorem blocksChanged {r : Request} {bs : Option (List Range)} (h : Accounted (k + 1) s) :
    Accounted k (s.blocksChanged r bs) := by
  unfold State.blocksChanged
  split
  · exact h.answer
  · exact h.writeBlocks.answer

theorem doSeriesLoad (h : Accounted 0 s) : Accounted 0 s.doSeriesLoad := by
  unfold State.doSeriesLoad
  split
  · exact h
  · next hr =>
    split
    · refine (h.takeFront hr).guarded fun _ => ?_
      split
      · exact (h.takeFront hr).answer
      · split
        · exact (h.takeFront hr).answer
        · exact (h.takeFront hr).writeSeries.answer
    · exact h

theorem doSeriesRead (h : Accounted 0 s) : Accounted 0 s.doSeriesRead := by
  unfold State.doSeriesRead
  split
  · exact h
  · next hr =>
    split
    · dsimp only
      split <;> exact (h.takeFront hr).answer
    · exact h

theorem doBlockAdd (h : Accounted 0 s) : Accounted 0 s.doBlockAdd := by
  unfold State.doBlockAdd
  split
  · exact h
  · next hr =>
    split
    · refine (h.takeFront hr).guarded fun _ => ?_
      split
      · exact (h.takeFront hr).answer
      · exact (h.takeFront hr).blocksChanged
    · exact h

theorem doBlockRemove (h : Accounted 0 s) : Accounted 0 s.doBlockRemove := by
  unfold State.doBlockRemove
  split
  · exact h
  · next hr =>
    split
    · refine (h.takeFront hr).guarded fun _ => ?_
      split
      · exact (h.takeFront hr).answer
      · exact (h.takeFront hr).blocksChanged
    · exact h

theorem doBlockClear (h : Accounted 0 s) : Accounted 0 s.doBlockClear := by
  unfold State.doBlockClear
  split
  · exact h
  · next hr =>
    split
    · exact (h.takeFront hr).guarded fun _ => (h.takeFront hr).blocksChanged
    · exact h

theorem doBlockRead (h : Accounted 0 s) : Accounted 0 s.doBlockRead := by
  unfold State.doBlockRead
  split
  · exact h
  · next hr =>
    split
    · exact (h.takeFront hr).answer
    · exact h

theorem takenRecords {n : Nat} (h : Accounted k s) : Accounted k { s with retained := (s.retained.takeRecords n).2.1 } :=
  h.retained (offerHeld_ctxs _ _)

theorem doTakeRecords (h : Accounted 0 s) : Accounted 0 s.doTakeRecords := by
  unfold State.doTakeRecords
  split
  · exact h
  · next hr =>
    split
    · dsimp only
      split
      · exact (h.takeFront hr).takenRecords.raisePart.answer
      · exact (h.takeFront hr).takenRecords.answer
    · exact h

theorem doDoubtRead (h : Accounted 0 s) : Accounted 0 s.doDoubtRead := by
  unfold State.doDoubtRead
  split
  · exact h
  · next hr =>
    split
    · exact (h.takeFront hr).answer
    · exact h

theorem doDoubtDiscard (h : Accounted 0 s) : Accounted 0 s.doDoubtDiscard := by
  unfold State.doDoubtDiscard
  split
  · exact h
  · next hr =>
    split
    · dsimp only
      split
      · exact answer (retained (h.takeFront hr))
      · split <;> exact (h.takeFront hr).answer
    · exact h

/-! ### The store and the key -/

theorem setMode {m : Mode} (h : Accounted k s) : Accounted k (s.setMode m) := by
  unfold State.setMode
  split <;> exact ⟨h.running, h.link, h.notices, h.room⟩

theorem doProtect (h : Accounted 0 s) : Accounted 0 s.doProtect := by
  unfold State.doProtect
  split
  · exact h
  · next hr =>
    split
    · split
      · exact (h.takeFront hr).answer
      · unfold State.takeProtect
        split
        · exact (h.takeFront hr).answer
        · exact (h.takeFront hr).setMode.answer
    · exact h

theorem beginSave {r : Request} {idle : Nat} {rate : Rate} (h : Accounted (k + 1) s) :
    Accounted k (s.beginSave r idle rate) := by
  unfold State.beginSave
  have written : Accounted (k + 1) { s with working := { s.working with idle := idle, rate := rate } } := h.working
  exact written.save (by simp [optCount]; omega)

theorem doSave (h : Accounted 0 s) : Accounted 0 s.doSave := by
  unfold State.doSave
  split
  · exact h
  · next hr =>
    split
    · refine (h.takeFront hr).guarded fun _ => ?_
      split
      · exact (h.takeFront hr).answer
      · split
        · exact (h.takeFront hr).answer
        · exact (h.takeFront hr).beginSave
    · exact h

theorem doSaveWriteComplete (h : Accounted 0 s) : Accounted 0 s.doSaveWriteComplete := by
  unfold State.doSaveWriteComplete
  split
  · exact h
  · next x hx =>
    have done : Accounted 1 { s with save := none } := h.save (by simp [optCount, hx])
    exact reply ⟨done.running, done.link, done.notices, done.room⟩

theorem key {x : Key} (h : Accounted k s) : Accounted k { s with key := x } :=
  ⟨h.running, h.link, h.notices, h.room⟩

theorem doKeyInputChange {closed : Bool} (h : Accounted k s) : Accounted k (s.doKeyInputChange closed) := by
  unfold State.doKeyInputChange
  split
  · exact h
  · exact h.key

theorem keyChanged (h : Accounted k s) : Accounted k s.keyChanged := by
  have started : s.starting = none := ((running_iff s).1 h.running).2
  simp only [State.keyChanged, started]
  exact h.raisePart

theorem doKeyDebounceExpiry (h : Accounted k s) : Accounted k s.doKeyDebounceExpiry := by
  unfold State.doKeyDebounceExpiry
  split
  · dsimp only
    split
    · exact h.key.keyChanged
    · exact h.key
  · exact h

/-! ### The link port -/

/-- The framer and the gap count are no requests. -/
theorem framer {f : Framer} {n : Nat} (h : Accounted k s) :
    Accounted k (s.modLink fun l => { l with framer := f, gap := n }) :=
  ⟨h.running, h.link, h.notices, h.room⟩

/-- A request that is counted is in hand; the hold line is released before it, so that fewer than 16 are outstanding. -/
theorem countRequest (h : Accounted k s) (hh : s.link.hold = false) :
    Accounted (k + 1) (s.modLink Link.countRequest) where
  running := h.running
  link := by
    obtain ⟨bound, line⟩ := h.link
    rw [hh] at line
    have free : ¬ (s.link.outstanding = 16 ∨ s.restart ≠ .none ∨ s.starting.isSome = true) := fun x => by
      simp at line
      exact absurd x (by simpa using line)
    push Not at free
    obtain ⟨notFull, restart, starting⟩ := free
    refine ⟨?_, ?_⟩
    · simp [Link.countRequest]; omega
    · simp [Link.countRequest, Config.outstandingLimit, hh, restart, starting]
  notices := h.notices
  room := by
    have room := h.room
    have owed : State.owed (s.modLink Link.countRequest) = s.owed := rfl
    have replies : (s.modLink Link.countRequest).link.repliesOut = s.link.repliesOut := rfl
    simp only [State.load, owed, replies] at room ⊢
    simp only [modLink_link, Link.countRequest, modLink_save, modLink_test]
    omega

/-- A request that goes to its owner waits in the list of requests received. -/
theorem receive {r : Request} (h : Accounted (k + 1) s) :
    Accounted k (s.modLink fun l => { l with received := l.received ++ [r] }) where
  running := h.running
  link := h.link
  notices := h.notices
  room := by
    have room := h.room
    have owed : State.owed (s.modLink fun l => { l with received := l.received ++ [r] }) = s.owed := rfl
    simp only [State.load, owed] at room ⊢
    simp only [modLink_link, Link.repliesOut, List.length_append, List.length_singleton, modLink_save,
      modLink_test] at room ⊢
    omega

theorem dispatch {type tag pos : Byte} {payload : List Byte} (h : Accounted (k + 1) s) :
    Accounted k (s.dispatch type tag pos payload) := by
  unfold State.dispatch
  split
  · exact h.reply
  · split
    · exact h.reply
    · split
      · exact h.reply
      · split
        · exact h.reply
        · exact h.receive

theorem frameComplete {f : LinkFrame} (h : Accounted k s) : Accounted k (s.frameComplete f) := by
  unfold State.frameComplete
  split
  · split
    · exact h
    · split
      · unfold State.holdDiscard
        split
        · exact h.raisePart
        · exact h
      · next hold => exact (h.countRequest (by simpa using hold)).dispatch
  · exact h

theorem bytesArrive {bs : List Byte} (h : Accounted k s) : Accounted k (s.bytesArrive bs) :=
  foldl frameComplete _ h.framer

theorem doFrameReceived {bs : List Byte} (h : Accounted k s) : Accounted k (s.doFrameReceived bs) := by
  unfold State.doFrameReceived
  split
  · exact h.bytesArrive
  · exact h

theorem doFrameGapTimeout {bs : List Byte} (h : Accounted k s) : Accounted k (s.doFrameGapTimeout bs) := by
  unfold State.doFrameGapTimeout
  split
  · exact h.bytesArrive.framer
  · exact h

theorem doLengthByteOutOfRange {b : Byte} (h : Accounted k s) : Accounted k (s.doLengthByteOutOfRange b) := by
  unfold State.doLengthByteOutOfRange
  split
  · exact h.framer
  · exact h

theorem doStatus (h : Accounted 0 s) : Accounted 0 s.doStatus := by
  unfold State.doStatus
  split
  · exact h
  · next hr =>
    split
    · exact (h.takeFront hr).answer
    · exact h

theorem doQuery (h : Accounted 0 s) : Accounted 0 s.doQuery := by
  unfold State.doQuery
  split
  · exact h
  · next hr =>
    split
    · exact (h.takeFront hr).answer
    · exact h

theorem takeAcknowledge {r : Request} {m v : Half} (h : Accounted (k + 1) s) :
    Accounted k (s.takeAcknowledge r m v) := by
  unfold State.takeAcknowledge
  split
  · exact h.acknowledge.answer
  · exact h.acknowledgePart.answer

theorem doAcknowledge (h : Accounted 0 s) : Accounted 0 s.doAcknowledge := by
  unfold State.doAcknowledge
  split
  · exact h
  · next hr =>
    split
    · exact (h.takeFront hr).takeAcknowledge
    · exact h

theorem doMessageTransmitStart (h : Accounted k s) : Accounted k s.doMessageTransmitStart := by
  unfold State.doMessageTransmitStart
  split
  · next m rest hidle hout =>
    refine ⟨h.running, h.link, ?_, ?_⟩
    · have nodup := h.notices
      simp only [State.noticesOnce, hout, modLink_link] at nodup ⊢
      exact nodup.sublist ((List.sublist_cons_self m rest).filter _)
    · have room := h.room
      have owed : ∀ f, State.owed (s.modLink f) = s.owed := fun _ => rfl
      simp only [State.load, owed, modLink_link, modLink_save, modLink_test, Link.repliesOut, hidle, hout,
        List.filter_cons] at room ⊢
      cases hm : Message.isReply m <;> simp [hm] at room ⊢ <;> omega
  · exact h

theorem doMessageSent (h : Accounted k s) : Accounted k s.doMessageSent := by
  unfold State.doMessageSent
  split
  · exact h
  · next t ht =>
    have bound := h.link.1
    have room := h.room
    have owed : ∀ f, State.owed (s.modLink f) = s.owed := fun _ => rfl
    refine ⟨h.running, ?_, h.notices, ?_⟩
    · simp only [State.linkLawful, modLink_link, holdAfter_iff, modLink_restart, modLink_starting]
      have few : (if t.isReply then s.link.outstanding - 1 else s.link.outstanding) ≤ 16 := by split <;> omega
      exact ⟨few, or_congr_left ⟨fun full => Nat.le_antisymm few full, fun full => full.ge⟩⟩
    · simp only [State.load, owed, modLink_link, modLink_save, modLink_test, Link.repliesOut, ht] at room ⊢
      cases hm : t.isReply <;> simp [hm] at room ⊢ <;> omega

theorem tick (h : Accounted k s) : Accounted k s.tick := by
  have on : s.powered = true := ((running_iff s).1 h.running).1
  have owed : s.tick.owed = s.owed := funext fun p => by
    simp only [State.owed, tick_unit on]
    rw [tick_on on]
    rfl
  have counts := link_tick_eq s.link
  refine ⟨?_, ?_, ?_, ?_⟩
  · rw [tick_on on]; exact h.running
  · rw [tick_on on]; simpa [State.linkLawful, counts] using h.link
  · rw [tick_on on]; simpa [State.noticesOnce, counts] using h.notices
  · have room := h.room
    simp only [State.load, owed] at room ⊢
    rw [tick_on on]
    simpa [counts, Link.repliesOut] using room

end Accounted
end Sys2Proof.Machine

namespace Sys2Proof.Machine

/-! ## A part that is not running (R16, R160, R161) -/

/-- The part is not running: nothing is outstanding or held anywhere in it, no RESTART is pending, and every line carries
no order and is OFF or EMPTY. -/
structure Dormant (s : State) : Prop where
  running : s.running = false
  outstanding : s.link.outstanding = 0
  hold : s.link.hold = s.starting.isSome
  restart : s.restart = .none
  lines : ∀ p, (s.line p).order = none ∧ ((s.line p).state = .off ∨ (s.line p).state = .empty)
  owed : ∀ p, (s.unit p).closes = [] ∧ (s.unit p).wait = none
  received : s.link.received = []
  save : s.save = none
  test : s.test = none
  notices : s.noticesOnce
  replies : s.link.repliesOut = 0

namespace Dormant
variable {s : State}

theorem front (h : Dormant s) (o : Owner) : s.front o = none := by simp [State.front, h.received]

theorem modUnit {p : Pos} {f : Position → Position} (h : Dormant s)
    (hf : ∀ u, (f u).line.order = u.line.order ∧ (f u).line.state = u.line.state ∧ (f u).closes = u.closes ∧
      (f u).wait = u.wait := by exact fun u => ⟨rfl, rfl, rfl, rfl⟩) : Dormant (s.modUnit p f) := by
  have kept (q : Pos) : ((s.modUnit p f).line q).order = (s.line q).order ∧
      ((s.modUnit p f).line q).state = (s.line q).state ∧ ((s.modUnit p f).unit q).closes = (s.unit q).closes ∧
      ((s.modUnit p f).unit q).wait = (s.unit q).wait := by
    by_cases hq : q = p
    · subst hq
      simpa only [State.line, unit_modUnit] using hf (s.unit q)
    · simp [State.line, unit_modUnit_ne s hq]
  exact { h with
    lines := fun q => by obtain ⟨ho, hs, -, -⟩ := kept q; rw [ho, hs]; exact h.lines q
    owed := fun q => by obtain ⟨-, -, hc, hw⟩ := kept q; rw [hc, hw]; exact h.owed q }

theorem modLine {p : Pos} {f : LineUnit → LineUnit} (h : Dormant s)
    (hf : ∀ l, (f l).order = l.order ∧ (f l).state = l.state := by exact fun l => ⟨rfl, rfl⟩) :
    Dormant (s.modLine p f) :=
  h.modUnit fun u => ⟨(hf u.line).1, (hf u.line).2, rfl, rfl⟩

theorem cardsOut {cs : List Card} (h : Dormant s) : Dormant { s with cardsOut := cs } := { h with }
theorem freeCount {n : Nat} (h : Dormant s) : Dormant { s with freeCount := n } := { h with }
theorem key {x : Key} (h : Dormant s) : Dormant { s with key := x } := { h with }
theorem retained {m : Retained} (h : Dormant s) : Dormant { s with retained := m } := { h with }

theorem contactOff {p : Pos} {c : Contact} (h : Dormant s) : Dormant (s.contactOff p c) := by
  rw [contactOff_eq]
  exact freeCount (s := s.setUnit p _) (h.modUnit (f := fun u => { u with
    line := { u.line with contact := c, rest := none }
    reader := u.reader.map (Seated.onCard (cardCut (Config.cutPoint s.freeCount))) }))

theorem startRest {p : Pos} (h : Dormant s) : s.startRest p = s := by
  obtain ⟨-, state⟩ := h.lines p
  obtain state | state := state <;> exact startRest_of_state (by simp [state]) (by simp [state])

theorem completeIfDue {p : Pos} (h : Dormant s) : s.completeIfDue p = s := by
  simp [State.completeIfDue, h.running]

theorem restartSettle (h : Dormant s) : s.restartSettle = s := restartSettle_of_none h.restart

theorem raisePart {f : PartFlag} (h : Dormant s) : Dormant (s.raisePart f) := by
  rw [raisePart_eq]
  unfold State.partNoticeOf
  split
  · next hn =>
    refine { h with notices := ?_, replies := ?_ }
    · have nodup := h.notices
      simp only [State.noticesOnce, List.filter_append] at nodup ⊢
      exact List.nodup_append.2 ⟨nodup, List.nodup_singleton _, fun x hx y hy => by
        rintro rfl
        rw [List.mem_singleton.1 hy] at hx
        exact hn.2 (List.mem_of_mem_filter hx)⟩
    · have out := h.replies
      simpa [Link.repliesOut, Message.isReply] using out
  · simp only [List.append_nil]
    exact { h with }

/-! ### The commands that a part with nothing in it still takes -/

theorem doLoopCurrentChange {p : Pos} {x : LoopChange} (h : Dormant s) : Dormant (s.doLoopCurrentChange p x) := by
  unfold State.doLoopCurrentChange
  split
  · dsimp only
    split
    · exact h.modUnit.cardsOut.modLine
    · exact h.modUnit.cardsOut
  · split
    · exact h
    · next x out _ =>
      have seated : Dormant { s.modUnit p (fun u => { u with reader := some x }) with cardsOut := out } :=
        h.modUnit.cardsOut
      dsimp only
      split
      · unfold State.blinkEnd
        dsimp only
        split
        · exact seated.contactOff.modLine
        · exact seated.modLine
      · exact seated
  · exact h

theorem doInsertion {p : Pos} (h : Dormant s) : Dormant (s.doInsertion p) := by
  unfold State.doInsertion
  dsimp only
  split
  · simp only [h.running, Bool.false_eq_true, and_false, if_false]
    exact h.modLine
  · exact h

theorem doRemoval {p : Pos} (h : Dormant s) : Dormant (s.doRemoval p) := by
  have due : s.dueFirst p = (s, none) := by simp [State.dueFirst, h.completeIfDue, (h.owed p).2]
  have gone : Dormant (s.modLine p fun l => { l with present := false, debounce := none }) := h.modLine
  have cardless : ((s.modLine p fun l => { l with present := false, debounce := none }).line p).state.hasCard = false := by
    obtain ⟨-, state | state⟩ := gone.lines p <;> rw [state] <;> rfl
  unfold State.doRemoval
  dsimp only
  split
  · simp only [due, State.removed, cardless, State.replyIf, Bool.false_eq_true, if_false]
    rw [gone.restartSettle]
    exact gone
  · exact h

theorem doRestCountExpiry {p : Pos} (h : Dormant s) : Dormant (s.doRestCountExpiry p) := by
  unfold State.doRestCountExpiry
  split
  · split
    · exact h
    · exact h.contactOff
  · exact h

theorem doAnswerFrame {p : Pos} {a : Arrival} (h : Dormant s) : Dormant (s.doAnswerFrame p a) := by
  have silent {t : State} {bs : List Byte} (ht : Dormant t) :
      Dormant (((t.takeAnswer p bs).startRest p).restartSettle) := by
    have same : t.takeAnswer p bs = t := by simp [State.takeAnswer, (ht.lines p).1]
    rw [same, ht.startRest, ht.restartSettle]
    exact ht
  have heard : Dormant (s.modCard p cardFinish) := h.modUnit
  cases a with
  | answer =>
    cases hc : s.cardAnswers p with
    | none => simpa [State.doAnswerFrame, State.arrives, hc] using h
    | some bs => rw [doAnswerFrame_answer hc]; exact silent heard
  | altered bs => exact silent heard
  | stray bs => exact silent h

theorem doKeyInputChange {closed : Bool} (h : Dormant s) : Dormant (s.doKeyInputChange closed) := by
  unfold State.doKeyInputChange
  split
  · exact h
  · exact h.key

theorem keyChanged (h : Dormant s) : Dormant s.keyChanged := by
  unfold State.keyChanged
  split
  · next x hx =>
    exact { h with
      running := by simp [State.running]
      hold := by simpa [hx] using h.hold }
  · exact h.raisePart

theorem doKeyDebounceExpiry (h : Dormant s) : Dormant s.doKeyDebounceExpiry := by
  unfold State.doKeyDebounceExpiry
  split
  · dsimp only
    split
    · exact h.key.keyChanged
    · exact h.key
  · exact h

theorem doMessageTransmitStart (h : Dormant s) : Dormant s.doMessageTransmitStart := by
  unfold State.doMessageTransmitStart
  split
  · next m rest hidle hout =>
    have out := h.replies
    simp only [Link.repliesOut, hout, hidle, List.filter_cons] at out
    have notice : Message.isReply m = false := by
      cases hm : Message.isReply m
      · rfl
      · simp [hm] at out
    refine { h with notices := ?_, replies := ?_ }
    · have nodup := h.notices
      simp only [State.noticesOnce, hout, modLink_link] at nodup ⊢
      exact nodup.sublist ((List.sublist_cons_self m rest).filter _)
    · simpa [Link.repliesOut, notice] using out
  · exact h

theorem doMessageSent (h : Dormant s) : Dormant s.doMessageSent := by
  unfold State.doMessageSent
  split
  · exact h
  · next t ht =>
    have out := h.replies
    simp only [Link.repliesOut, ht] at out
    have notice : t.isReply = false := by
      cases hr : t.isReply
      · rfl
      · simp [hr] at out
    exact { h with
      outstanding := by simpa [notice] using h.outstanding
      hold := by simp [notice, State.holdAfter, h.outstanding, h.restart, Config.outstandingLimit]
      replies := by simpa [Link.repliesOut, notice] using out }

theorem tick (h : Dormant s) : Dormant s.tick := by
  cases on : s.powered with
  | false => rw [tick_off on]; exact h
  | true =>
    have unit (p : Pos) := tick_unit on p
    have counts := link_tick_eq s.link
    have lines : ∀ p, (s.tick.line p).order = none ∧ ((s.tick.line p).state = .off ∨ (s.tick.line p).state = .empty) := by
      intro p
      obtain ⟨order, state⟩ := h.lines p
      have order' : (s.unit p).line.order = none := order
      refine ⟨?_, ?_⟩
      · simp [State.line, unit, Position.tick, LineUnit.tick, order']
      · simpa [State.line, unit, Position.tick, LineUnit.tick] using state
    have owed : ∀ p, (s.tick.unit p).closes = [] ∧ (s.tick.unit p).wait = none := fun p => by
      rw [unit]; exact h.owed p
    have rest := h
    rw [tick_on on] at lines owed ⊢
    exact {
      running := h.running, restart := h.restart, save := h.save, test := h.test, lines := lines, owed := owed
      outstanding := by simpa [counts] using h.outstanding
      hold := by simpa [counts] using h.hold
      received := by simpa [counts] using h.received
      notices := by simpa [State.noticesOnce, counts] using h.notices
      replies := by simpa [Link.repliesOut, counts] using h.replies }

end Dormant
end Sys2Proof.Machine

namespace Sys2Proof.Machine

/-! ## Start-up and the loss of supply (R96, R160, R161) -/

/-- No charge queue stands where no call is open. -/
def Retained.idleQueuesEmpty (m : Retained) : Prop := ∀ p, (m.ctx p).state = .noCall → (m.ctx p).queue = []

theorem idleQueuesEmpty_of_queuesLawful {m : Retained} (h : m.queuesLawful) : m.idleQueuesEmpty := fun p hp => by
  by_contra hq
  exact (h p).2 hq hp

/-- The close of one call leaves no queue where no call is open, and the other contexts as they were. -/
theorem closeCall_idleQueues {s : State} {p : Pos} {e : EndCause} {l : Option Location}
    (h : s.retained.idleQueuesEmpty) : (s.closeCall p e l).retained.idleQueuesEmpty := by
  by_cases held : (s.ctx p).state = .noCall
  · rw [closeCall_of_noCall held]; exact h
  · have closed := closeCall_closed held e l
    obtain ⟨b, hb⟩ := closed.ctx
    intro q hq
    by_cases hqp : q = p
    · subst hqp
      exact congrArg Context.queue hb
    · have other := (closed.others q hqp).2
      change ((s.closeCall p e l).ctx q).queue = []
      change ((s.closeCall p e l).ctx q).state = .noCall at hq
      rw [other] at hq ⊢
      exact h q hq

theorem restartCloseAt_idleQueues {s : State} {p : Pos} (h : s.retained.idleQueuesEmpty) :
    (s.restartCloseAt p).retained.idleQueuesEmpty := by
  have startRest (u : State) : (u.startRest p).retained = u.retained := by unfold State.startRest; split <;> rfl
  have ready (u : State) : (u.restartReady p).retained = u.retained := by
    unfold State.restartReady
    split
    · dsimp only
      split
      · simp
      · exact startRest _
    · rfl
  unfold State.restartCloseAt
  split
  · rw [State.completeRequested, startRest]
    exact closeCall_idleQueues h
  · rw [ready]
    exact closeCall_idleQueues h

theorem restartSettle_idleQueues {s : State} (h : s.retained.idleQueuesEmpty) :
    s.restartSettle.retained.idleQueuesEmpty := by
  have all (ps : List Pos) : ∀ u : State, u.retained.idleQueuesEmpty →
      (ps.foldl State.restartCloseAt u).retained.idleQueuesEmpty := by
    induction ps with
    | nil => exact fun u hu => hu
    | cons p ps ih => exact fun u hu => ih _ (restartCloseAt_idleQueues hu)
  unfold State.restartSettle
  split
  · exact all _ _ h
  · exact h

theorem cancelHead_field (c : Context) : c.cancelHead.field = c.field := by
  unfold Context.cancelHead
  split <;> rfl

theorem settleAtStart_field (c : Context) : c.settleAtStart.field = c.field := by
  have cancelled (t : List Charge) : ∀ c : Context, (t.foldl (fun c _ => c.cancelHead) c).field = c.field := by
    induction t with
    | nil => exact fun c => rfl
    | cons x t ih => exact fun c => (ih _).trans (cancelHead_field c)
  unfold Context.settleAtStart
  split
  · rfl
  · rw [cancelled]
    unfold Context.settleHead
    split <;> rfl

/-- A context that start-up has closed (R96). -/
def Context.ended (c : Context) : Prop := c.state = .noCall ∧ c.field = none

theorem startClose_ended (m : Retained) (e : EndCause) (p : Pos) : ((m.startClose e p).ctx p).ended := by
  unfold Retained.startClose Context.ended
  split
  · next hc => simp [hc]
  · simp [settleAtStart_field]

theorem startClose_ctx_ne (m : Retained) (e : EndCause) {p q : Pos} (h : q ≠ p) :
    (m.startClose e p).ctx q = m.ctx q := by
  unfold Retained.startClose
  split
  · exact ctx_modCtx_retained_ne m h _
  · rw [storeCall_ctx_ne _ _ _ h, ctx_modCtx_retained_ne _ h, closeTear_ctx_ne m h]

theorem startClose_idleQueues {m : Retained} (h : m.idleQueuesEmpty) (e : EndCause) (p : Pos) :
    (m.startClose e p).idleQueuesEmpty := by
  intro q hq
  by_cases hqp : q = p
  · subst hqp
    unfold Retained.startClose at hq ⊢
    split
    · next hc => simpa using h q hc
    · simp
  · rw [startClose_ctx_ne m e hqp] at hq ⊢
    exact h q hq

/-- After the closes of some positions, each context that was closed before or is of one of them is closed. -/
theorem foldl_startClose_ended (e : EndCause) (p : Pos) (ps : List Pos) : ∀ m : Retained,
    p ∈ ps ∨ (m.ctx p).ended → ((ps.foldl (fun n q => n.startClose e q) m).ctx p).ended := by
  induction ps with
  | nil => exact fun m h => h.resolve_left List.not_mem_nil
  | cons q ps ih =>
    intro m h
    refine ih _ ?_
    by_cases hq : p = q
    · subst hq
      exact .inr (startClose_ended m e p)
    · rw [startClose_ctx_ne m e hq]
      exact h.imp_left fun hp => (List.mem_cons.1 hp).resolve_left hq

theorem foldl_startClose_idleQueues (e : EndCause) (ps : List Pos) : ∀ m : Retained, m.idleQueuesEmpty →
    (ps.foldl (fun n q => n.startClose e q) m).idleQueuesEmpty := by
  induction ps with
  | nil => exact fun m h => h
  | cons q ps ih => exact fun m h => ih _ (startClose_idleQueues h e q)

theorem clearMarker_ctx (m : Retained) (p : Pos) : ({ m with restartMarker := false } : Retained).ctx p = m.ctx p := rfl

theorem started_ctx (m : Retained) (p : Pos) : m.started.ctx p = (m.startCloses positions).ctx p :=
  clearMarker_ctx _ p

/-- After start-up no context holds a call (R96). -/
theorem started_ended (m : Retained) (p : Pos) : (m.started.ctx p).ended := by
  rw [started_ctx]
  unfold Retained.startCloses
  exact foldl_startClose_ended _ p positions m (.inl (mem_positions p))

theorem started_queue {m : Retained} (h : m.idleQueuesEmpty) (p : Pos) : (m.started.ctx p).queue = [] := by
  have ended := (started_ended m p).1
  rw [started_ctx] at ended ⊢
  unfold Retained.startCloses at ended ⊢
  exact foldl_startClose_idleQueues _ positions m h p ended

/-! ### The start-up routine, from its step 1 or from step 5 -/

theorem startBlocks_unit (s : State) (p : Pos) : s.startBlocks.unit p = s.startPosition s.startSettings p := by
  simp [State.startBlocks, State.unit]

theorem startBlocks_dormant (s : State) : Dormant s.startBlocks where
  running := by simp [State.running, State.startBlocks]
  outstanding := rfl
  hold := rfl
  restart := rfl
  lines := fun p => by
    rw [State.line, startBlocks_unit]
    refine ⟨rfl, ?_⟩
    simp only [State.startPosition, Position.start, LineUnit.start]
    split <;> simp
  owed := fun p => by rw [startBlocks_unit]; exact ⟨rfl, rfl⟩
  received := rfl
  save := rfl
  test := rfl
  notices := List.nodup_nil
  replies := rfl

theorem startRetained_idleQueues {s : State} (h : s.retained.idleQueuesEmpty) : s.startRetained.idleQueuesEmpty := by
  unfold State.startRetained
  split
  · exact h
  · intro p _
    simp [Retained.cleared, Retained.ctx, Context.cleared]

/-- The part at the end of step 6, before any flag is raised, where step 5 has left `m` of retained memory (R161). -/
def State.startedWith (s : State) (m : Retained) : State :=
  { s with retained := m, link := Link.start s.working.rate, restart := .none, starting := none }

theorem startEnd_eq {s : State} {x : StartUp} (hs : s.starting = some x) :
    s.startEnd =
      (positions.filter s.insertionHeld).foldl State.insert ((s.startedWith s.retained.started).startRaisings x) := by
  simp only [State.startEnd, hs]
  rfl

theorem startedWith_accounted {s : State} {m : Retained} (h : Dormant s) (hp : s.powered = true)
    (hq : ∀ p, (m.ctx p).queue = []) : Accounted 0 (s.startedWith m) where
  running := by simp [State.running, State.startedWith, hp]
  link := by simp [State.linkLawful, State.startedWith, Link.start]
  notices := List.nodup_nil
  room := by
    have owed : (s.startedWith m).owed = fun _ => 0 := funext fun p => by
      obtain ⟨closes, wait⟩ := h.owed p
      change (m.ctx p).queue.length + (s.unit p).closes.length + optCount (s.unit p).wait = 0
      simp [hq, closes, wait, optCount]
    have replies : (s.startedWith m).link.repliesOut = 0 := rfl
    have save : (s.startedWith m).save = none := h.save
    have test : (s.startedWith m).test = none := h.test
    have received : (s.startedWith m).link.received = [] := rfl
    simp [State.load, owed, replies, save, test, received, optCount]

/-- The end of the start-up routine: the part runs, with no request in it. -/
theorem startEnd_accounted {s : State} {x : StartUp} (h : Dormant s) (hp : s.powered = true) (hs : s.starting = some x)
    (hq : s.retained.idleQueuesEmpty) : Accounted 0 s.startEnd := by
  rw [startEnd_eq hs]
  refine Accounted.foldl Accounted.insert _ ?_
  exact (startedWith_accounted h hp (started_queue hq)).raisePartIf.raisePartIf.raisePartIf.raisePartIf

/-- Start-up goes on from its step 5: to its end, or to a stop (R161). -/
theorem startOn_cases {s : State} {x : StartUp} (h : Dormant s) (hp : s.powered = true) (hs : s.starting = some x)
    (hq : s.retained.idleQueuesEmpty) (pause : Option Nat) : Accounted 0 (s.startOn pause) ∨ Dormant (s.startOn pause) := by
  cases pause with
  | none => exact .inl (startEnd_accounted h hp hs hq)
  | some n => exact .inr h.retained

theorem startUp_cases (s : State) (h : s.retained.idleQueuesEmpty) (pause : Option Nat) :
    Accounted 0 (s.startUp pause) ∨ Dormant (s.startUp pause) :=
  startOn_cases (startBlocks_dormant s) rfl rfl (startRetained_idleQueues h) pause

theorem doPartRestart_cases {s : State} (h : Accounted 0 s) (hq : s.retained.idleQueuesEmpty) (pause : Option Nat) :
    Accounted 0 (s.doPartRestart pause) ∨ Dormant (s.doPartRestart pause) := by
  unfold State.doPartRestart
  split
  · exact startUp_cases (s.restartSettle.modRetained fun m => { m with restartMarker := true })
      (restartSettle_idleQueues (s := s) hq) pause
  · exact .inl h

theorem doPowerOn_cases {s : State} (h : Dormant s) (hq : s.retained.idleQueuesEmpty) (kept : Bool)
    (pause : Option Nat) : Accounted 0 (s.doPowerOn kept pause) ∨ Dormant (s.doPowerOn kept pause) := by
  unfold State.doPowerOn
  split
  · exact startUp_cases (s.modRetained fun m => { m with check := m.check && kept }) hq pause
  · next on =>
    have starting : s.starting.isSome = true := by
      have := h.running
      simpa [State.running, on] using this
    rw [if_pos starting]
    obtain ⟨x, hx⟩ := Option.isSome_iff_exists.1 starting
    exact startOn_cases h (by simpa using on) hx hq pause

theorem doMainSupplyLoss_dormant {s : State} (h : s.powered = true) (points : List Nat) :
    Dormant (s.doMainSupplyLoss points) := by
  have unit := doMainSupplyLoss_unit h points
  have lines : ∀ p, ((s.doMainSupplyLoss points).line p).order = none ∧
      (((s.doMainSupplyLoss points).line p).state = .off ∨ ((s.doMainSupplyLoss points).line p).state = .empty) :=
    fun p => by rw [State.line, unit]; exact ⟨rfl, .inl rfl⟩
  have owed : ∀ p, ((s.doMainSupplyLoss points).unit p).closes = [] ∧
      ((s.doMainSupplyLoss points).unit p).wait = none := fun p => by rw [unit]; exact ⟨rfl, rfl⟩
  simp only [State.doMainSupplyLoss, h, if_true] at lines owed ⊢
  exact {
    running := rfl, outstanding := rfl, hold := rfl, restart := rfl, received := rfl, save := rfl, test := rfl
    notices := List.nodup_nil, replies := rfl, lines := lines, owed := owed }

/-! ## Every step -/

/-- A running part has a command's requests accounted for, or has started anew. -/
theorem exec_accounted {s t : State} {i : Instr} (h : Accounted 0 s) (hq : s.retained.idleQueuesEmpty)
    (ht : exec i s = .next t) : Accounted 0 t ∨ Dormant t := by
  obtain ⟨on, started⟩ := (running_iff s).1 h.running
  cases i with
  | partRestart pause => cases ht; exact doPartRestart_cases h hq pause
  | mainSupplyLoss points => cases ht; exact .inr (doMainSupplyLoss_dormant on points)
  | powerOn kept pause =>
    cases ht
    have same : s.doPowerOn kept pause = s := by simp [State.doPowerOn, on, started]
    exact .inl (same.symm ▸ h)
  | frameReceived bs => cases ht; exact .inl h.doFrameReceived
  | frameGapTimeout bs => cases ht; exact .inl h.doFrameGapTimeout
  | messageTransmitStart => cases ht; exact .inl h.doMessageTransmitStart
  | messageSent => cases ht; exact .inl h.doMessageSent
  | status => cases ht; exact .inl h.doStatus
  | query => cases ht; exact .inl h.doQuery
  | configure p => cases ht; exact .inl h.doConfigure
  | configureOutOfServiceAct p => cases ht; exact .inl h.doConfigureAct
  | acknowledge => cases ht; exact .inl h.doAcknowledge
  | seriesLoad => cases ht; exact .inl h.doSeriesLoad
  | seriesRead => cases ht; exact .inl h.doSeriesRead
  | blockAdd => cases ht; exact .inl h.doBlockAdd
  | blockRemove => cases ht; exact .inl h.doBlockRemove
  | blockClear => cases ht; exact .inl h.doBlockClear
  | blockRead => cases ht; exact .inl h.doBlockRead
  | openCall => cases ht; exact .inl h.doOpen
  | charge => cases ht; exact .inl h.doCharge
  | close => cases ht; exact .inl h.doClose
  | closeCompletion p => cases ht; exact .inl h.completeIfDue
  | resetPosition p => cases ht; exact .inl h.doResetPosition
  | resetPositionAct p => cases ht; exact .inl h.doResetPositionAct
  | takeRecords => cases ht; exact .inl h.doTakeRecords
  | doubtRead => cases ht; exact .inl h.doDoubtRead
  | doubtDiscard => cases ht; exact .inl h.doDoubtDiscard
  | protect => cases ht; exact .inl h.doProtect
  | save => cases ht; exact .inl h.doSave
  | saveWriteComplete => cases ht; exact .inl h.doSaveWriteComplete
  | selfTest => cases ht; exact .inl h.doSelfTest
  | restart => cases ht; exact .inl h.doRestart
  | loopCurrentChange p change => cases ht; exact .inl h.doLoopCurrentChange
  | insertion p => cases ht; exact .inl h.doInsertion
  | removal p => cases ht; exact .inl h.doRemoval
  | restCountExpiry p => cases ht; exact .inl h.doRestCountExpiry
  | orderFrameEnd p passage takes => cases ht; exact .inl h.doOrderFrameEnd
  | answerFrame p a => cases ht; exact .inl h.doAnswerFrame
  | answerTimeout p => cases ht; exact .inl h.doAnswerTimeout
  | loopbackReturn p bs => cases ht; exact .inl h.doLoopbackReturn
  | loopbackTimeout p => cases ht; exact .inl h.doLoopbackTimeout
  | echoAnswer p bs => cases ht; exact .inl h.doEchoAnswer
  | echoTimeout p => cases ht; exact .inl h.doEchoTimeout
  | keyInputChange closed => cases ht; exact .inl h.doKeyInputChange
  | keyDebounceExpiry => cases ht; exact .inl h.doKeyDebounceExpiry
  | lengthByteOutOfRange b => cases ht; exact .inl h.doLengthByteOutOfRange

/-- A command that finds no request, no order, no test and nothing waiting changes nothing in a part that is not
running; the others leave it as quiet, but POWER_ON, which starts it up. -/
theorem exec_dormant {s t : State} {i : Instr} (h : Dormant s) (hq : s.retained.idleQueuesEmpty)
    (ht : exec i s = .next t) : Accounted 0 t ∨ Dormant t := by
  have idle (hi : exec i s = .next s) : Accounted 0 t ∨ Dormant t := by
    cases ht.symm.trans hi
    exact .inr h
  have front := h.front
  have none_waits (p : Pos) := (h.owed p).2
  have no_order (p : Pos) := (h.lines p).1
  have no_test (p : Pos) (k : OrderKind) : s.testOrder p k = none := by simp [State.testOrder, no_order]
  cases i with
  | messageTransmitStart => cases ht; exact .inr h.doMessageTransmitStart
  | messageSent => cases ht; exact .inr h.doMessageSent
  | loopCurrentChange p change => cases ht; exact .inr h.doLoopCurrentChange
  | insertion p => cases ht; exact .inr h.doInsertion
  | removal p => cases ht; exact .inr h.doRemoval
  | restCountExpiry p => cases ht; exact .inr h.doRestCountExpiry
  | answerFrame p a => cases ht; exact .inr h.doAnswerFrame
  | keyInputChange closed => cases ht; exact .inr h.doKeyInputChange
  | keyDebounceExpiry => cases ht; exact .inr h.doKeyDebounceExpiry
  | powerOn kept pause => cases ht; exact doPowerOn_cases h hq kept pause
  | mainSupplyLoss points =>
    cases ht
    cases on : s.powered with
    | true => exact .inr (doMainSupplyLoss_dormant on points)
    | false =>
      have same : s.doMainSupplyLoss points = s := by simp [State.doMainSupplyLoss, on]
      exact .inr (same.symm ▸ h)
  | frameReceived bs => exact idle (congrArg Host.Outcome.next (by simp [State.doFrameReceived, h.running]))
  | frameGapTimeout bs => exact idle (congrArg Host.Outcome.next (by simp [State.doFrameGapTimeout, h.running]))
  | lengthByteOutOfRange b =>
    exact idle (congrArg Host.Outcome.next (by simp [State.doLengthByteOutOfRange, h.running]))
  | status => exact idle (congrArg Host.Outcome.next (by simp [State.doStatus, front]))
  | query => exact idle (congrArg Host.Outcome.next (by simp [State.doQuery, front]))
  | configure p => exact idle (congrArg Host.Outcome.next (by simp [State.doConfigure, front]))
  | configureOutOfServiceAct p => exact idle (congrArg Host.Outcome.next (by simp [State.doConfigureAct, none_waits]))
  | acknowledge => exact idle (congrArg Host.Outcome.next (by simp [State.doAcknowledge, front]))
  | seriesLoad => exact idle (congrArg Host.Outcome.next (by simp [State.doSeriesLoad, front]))
  | seriesRead => exact idle (congrArg Host.Outcome.next (by simp [State.doSeriesRead, front]))
  | blockAdd => exact idle (congrArg Host.Outcome.next (by simp [State.doBlockAdd, front]))
  | blockRemove => exact idle (congrArg Host.Outcome.next (by simp [State.doBlockRemove, front]))
  | blockClear => exact idle (congrArg Host.Outcome.next (by simp [State.doBlockClear, front]))
  | blockRead => exact idle (congrArg Host.Outcome.next (by simp [State.doBlockRead, front]))
  | openCall => exact idle (congrArg Host.Outcome.next (by simp [State.doOpen, front]))
  | charge => exact idle (congrArg Host.Outcome.next (by simp [State.doCharge, front]))
  | close => exact idle (congrArg Host.Outcome.next (by simp [State.doClose, front]))
  | closeCompletion p => exact idle (congrArg Host.Outcome.next h.completeIfDue)
  | resetPosition p => exact idle (congrArg Host.Outcome.next (by simp [State.doResetPosition, front]))
  | resetPositionAct p => exact idle (congrArg Host.Outcome.next (by simp [State.doResetPositionAct, none_waits]))
  | takeRecords => exact idle (congrArg Host.Outcome.next (by simp [State.doTakeRecords, front]))
  | doubtRead => exact idle (congrArg Host.Outcome.next (by simp [State.doDoubtRead, front]))
  | doubtDiscard => exact idle (congrArg Host.Outcome.next (by simp [State.doDoubtDiscard, front]))
  | protect => exact idle (congrArg Host.Outcome.next (by simp [State.doProtect, front]))
  | save => exact idle (congrArg Host.Outcome.next (by simp [State.doSave, front]))
  | saveWriteComplete => exact idle (congrArg Host.Outcome.next (by simp [State.doSaveWriteComplete, h.save]))
  | selfTest => exact idle (congrArg Host.Outcome.next (by simp [State.doSelfTest, front]))
  | restart => exact idle (congrArg Host.Outcome.next (by simp [State.doRestart, front]))
  | partRestart pause => exact idle (congrArg Host.Outcome.next (by simp [State.doPartRestart, h.restart]))
  | orderFrameEnd p passage takes => exact idle (congrArg Host.Outcome.next (by simp [State.doOrderFrameEnd, no_order]))
  | answerTimeout p => exact idle (congrArg Host.Outcome.next (by simp [State.doAnswerTimeout, no_order]))
  | loopbackReturn p bs => exact idle (congrArg Host.Outcome.next (by simp [State.doLoopbackReturn, no_test]))
  | loopbackTimeout p => exact idle (congrArg Host.Outcome.next (by simp [State.doLoopbackTimeout, no_test]))
  | echoAnswer p bs => exact idle (congrArg Host.Outcome.next (by simp [State.doEchoAnswer, no_test]))
  | echoTimeout p => exact idle (congrArg Host.Outcome.next (by simp [State.doEchoTimeout, no_test]))

theorem step_accounted {s t : State} (h : Accounted 0 s ∨ Dormant s) (hq : s.retained.idleQueuesEmpty)
    (ht : step s = .next t) : Accounted 0 t ∨ Dormant t := by
  cases hp : s.pending with
  | nil =>
    cases (step_idle hp).symm.trans ht
    exact h.imp Accounted.tick Dormant.tick
  | cons c rest =>
    have run : exec c { s with pending := rest } = .next t := by simpa [step, hp] using ht
    obtain h | h := h
    · exact exec_accounted (s := { s with pending := rest }) ⟨h.running, h.link, h.notices, h.room⟩ hq run
    · exact exec_dormant (s := { s with pending := rest }) { h with } hq run

/-! ## The laws of O57, and the two kinds of state that obey them -/

theorem accounted_or_dormant {s : State} (hl : s.linkLawful) (hq : s.quietLawful) (hn : s.noticesOnce)
    (hr : s.requestsHeld ≤ s.link.outstanding) : Accounted 0 s ∨ Dormant s := by
  cases hrun : s.running with
  | true => exact .inl ⟨hrun, hl, hn, by
      simpa only [requestsHeld_of_running hrun, Nat.add_zero] using hr⟩
  | false =>
    obtain ⟨outstanding, restart, lines⟩ := hq hrun
    have none_held : s.requestsHeld = 0 := by omega
    have idle {α : Type} {x : Option α} (h : optCount x = 0) : x = none := by
      cases x
      · rfl
      · cases h
    unfold State.requestsHeld at none_held
    simp only [Nat.add_eq_zero_iff] at none_held
    obtain ⟨⟨⟨⟨received, sum⟩, save⟩, test⟩, replies⟩ := none_held
    have owed (p : Pos) : (s.unit p).closes = [] ∧ (s.unit p).wait = none := by
      have here : s.owedAt p = 0 := List.sum_eq_zero_iff.1 sum _ (List.mem_map_of_mem (mem_positions p))
      simp only [State.owedAt] at here
      exact ⟨List.length_eq_zero_iff.1 (by omega), idle (by omega)⟩
    exact .inr {
      running := hrun, outstanding := outstanding, restart := restart, lines := lines, owed := owed, notices := hn
      received := List.length_eq_zero_iff.1 received, save := idle save, test := idle test, replies := replies
      hold := by
        have line := hl.2
        rw [Bool.eq_iff_iff]
        simpa [outstanding, restart] using line }

theorem Accounted.lawful {s : State} (h : Accounted 0 s) :
    s.linkLawful ∧ s.quietLawful ∧ s.noticesOnce ∧ s.requestsHeld ≤ s.link.outstanding :=
  ⟨h.link, fun stopped => by simp [h.running] at stopped, h.notices, by
    simpa only [requestsHeld_of_running h.running, Nat.add_zero] using h.room⟩

theorem Dormant.lawful {s : State} (h : Dormant s) :
    s.linkLawful ∧ s.quietLawful ∧ s.noticesOnce ∧ s.requestsHeld ≤ s.link.outstanding := by
  refine ⟨⟨by simp [h.outstanding], by simp [h.hold, h.outstanding, h.restart]⟩,
    fun _ => ⟨h.outstanding, h.restart, h.lines⟩, h.notices, ?_⟩
  have owed : s.owedAt = fun _ => 0 := funext fun p => by
    obtain ⟨closes, wait⟩ := h.owed p
    simp [State.owedAt, h.running, closes, wait, optCount]
  simp [State.requestsHeld, owed, h.received, h.save, h.test, h.replies, optCount]

/-! ## The outbound queue (R144) -/

/-- The notices that there are: one for each position, and the part's. -/
def allNotices : List Message := Message.partNotice :: positions.map Message.positionNotice

theorem notices_length {s : State} (h : s.noticesOnce) : (s.link.outbound.filter Message.isNotice).length ≤ 33 := by
  have among : (s.link.outbound.filter Message.isNotice) ⊆ allNotices := by
    intro m hm
    have notice := (List.mem_filter.1 hm).2
    cases m with
    | reply type tag pos body => simp [Message.isNotice, Message.isReply] at notice
    | positionNotice p => exact List.mem_cons_of_mem _ (List.mem_map_of_mem (mem_positions p))
    | partNotice => exact List.mem_cons_self
  have count := (h.subperm among).length_le
  simpa [allNotices, positions] using count

/-- Settles O57: a state that obeys the laws is accounted for or dormant, every command keeps it so, and the queue holds
at most the 33 notices and the 16 replies. -/
theorem outboundQueueFits : Obligations.OutboundQueueFits := by
  unfold Obligations.OutboundQueueFits
  constructor
  · intro s t hl hq hc hn hr ht
    obtain h | h := step_accounted (accounted_or_dormant hl hq hn hr) (idleQueuesEmpty_of_queuesLawful hc) ht
    · exact h.lawful
    · exact h.lawful
  · intro s hl hn hr
    have notices := notices_length hn
    have split := List.length_eq_length_filter_add (l := s.link.outbound) Message.isReply
    have bound := hl.1
    simp only [State.requestsHeld, Link.repliesOut] at hr
    change (s.link.outbound.filter fun m => !Message.isReply m).length ≤ 33 at notices
    generalize (positions.map s.owedAt).sum = owed at hr
    omega

end Sys2Proof.Machine

namespace Sys2Proof.Machine

/-! ## What a command of this family runs -/

theorem exec_configure (p : Pos) (s : State) : exec (.configure p) s = .next (s.doConfigure p) := rfl
theorem exec_configureOutOfServiceAct (p : Pos) (s : State) :
    exec (.configureOutOfServiceAct p) s = .next (s.doConfigureAct p) := rfl
theorem exec_charge (s : State) : exec .charge s = .next s.doCharge := rfl
theorem exec_close (s : State) : exec .close s = .next s.doClose := rfl
theorem exec_resetPosition (p : Pos) (s : State) : exec (.resetPosition p) s = .next (s.doResetPosition p) := rfl
theorem exec_resetPositionAct (p : Pos) (s : State) :
    exec (.resetPositionAct p) s = .next (s.doResetPositionAct p) := rfl
theorem exec_insertion (p : Pos) (s : State) : exec (.insertion p) s = .next (s.doInsertion p) := rfl
theorem exec_removal (p : Pos) (s : State) : exec (.removal p) s = .next (s.doRemoval p) := rfl
theorem exec_restCountExpiry (p : Pos) (s : State) : exec (.restCountExpiry p) s = .next (s.doRestCountExpiry p) := rfl
theorem exec_powerOn (kept : Bool) (pause : Option Nat) (s : State) :
    exec (.powerOn kept pause) s = .next (s.doPowerOn kept pause) := rfl

/-! ## The rest count's end (R24) -/

/-- A card that works no order loses its power alone, and no free value is drawn. -/
theorem contactOff_awake {s : State} {p : Pos} {c : Card} (hr : (s.unit p).reader = some (.card c))
    (hc : c.power = .awake) (k : Contact) :
    s.contactOff p k = s.setUnit p { s.unit p with
      line := { s.line p with contact := k, rest := none }, reader := some (.card { c with power := .unpowered }) } := by
  simp only [State.contactOff, hr, hc, cardCut]
  rfl

/-- Settles O46: a count with a target puts the contacts at REST; one without does nothing. -/
theorem restCountRestsCard : Obligations.RestCountRestsCard := by
  unfold Obligations.RestCountRestsCard
  intro s p x hx
  constructor
  · intro h0
    simp [exec_restCountExpiry, State.doRestCountExpiry, hx, h0]
  · intro c h0 hr hc
    simp only [exec_restCountExpiry, State.doRestCountExpiry, hx, h0, if_false, contactOff_awake hr hc]
    rfl

/-! ## CHARGE refused, or waiting behind a head in work (R78, R79) -/

theorem doCharge_eq {s : State} {r : Request} {p : Pos} {n : Byte} (hf : s.front .callTable = some r)
    (hb : r.body = .charge n) (hp : posOf r.pos = some p) :
    s.doCharge = (s.takeFront .callTable).takeCharge p r n.toNat := by
  simp [State.doCharge, hf, hb, hp]

/-- A head in work is not taken into work again. -/
theorem workQueue_in_work {s : State} {p : Pos} {w : Work} (hw : (s.unit p).work = some w) (n : Nat) :
    s.workQueue n p = s := by
  cases n with
  | zero => rfl
  | succ n =>
    unfold State.workQueue
    split
    · rfl
    · simp [hw]

theorem joinQueue_ctx (s : State) (p : Pos) (x : Charge) :
    (s.joinQueue p x).ctx p = { s.ctx p with queue := (s.ctx p).queue ++ [x] } :=
  ctx_modCtx s p fun c => { c with queue := c.queue ++ [x] }

theorem joinQueue_unit (s : State) (p : Pos) (x : Charge) :
    (s.joinQueue p x).unit p = { s.unit p with line := { s.line p with rest := none } } :=
  unit_modLine (s.modCtx p fun c => { c with queue := c.queue ++ [x] }) p fun l => { l with rest := none }

theorem sameApartFrom_joinQueue (s : State) (p : Pos) (x : Charge) : s.sameApartFrom p (s.joinQueue p x) :=
  sameApartFrom_trans (sameApartFrom_modCtx s p _) (sameApartFrom_modLine _ p _)

/-- A CHARGE taken by an OPEN context with room in its queue (R78). -/
theorem takeCharge_joins {s : State} {p : Pos} {r : Request} {n : Nat} (hs : (s.ctx p).state = .openCall)
    (hq : (s.ctx p).queue.length < 4) :
    s.takeCharge p r n = ((s.joinQueue p { tag := r.tag, pulses := n, steps := 0 }).workQueue 4 p).startRest p := by
  simp [State.takeCharge, hs, Config.chargesPerPosition, Nat.not_le.2 hq]

/-- Settles O26: by the context's state and the length of its queue. -/
theorem chargeRefusedOrWaits : Obligations.ChargeRefusedOrWaits := by
  unfold Obligations.ChargeRefusedOrWaits
  intro s r p n hf hb hp
  have code : r.body.typeCode = 0x31#8 := by rw [hb]; rfl
  have refused {c : ResultCode} (h : (s.takeFront .callTable).takeCharge p r n.toNat =
      (s.takeFront .callTable).answer r (.refusal c)) :
      exec .charge s = .next (s.replied .callTable 0x31#8 r (.refusal c)) := by
    rw [exec_charge, doCharge_eq hf hb hp, h, answer_takeFront, code]
  refine ⟨fun hs => refused (if_pos hs), fun hs hq => refused ?_, fun hs hq hw => ?_⟩
  · have full : Config.chargesPerPosition ≤ ((s.takeFront .callTable).ctx p).queue.length := hq
    simp only [State.takeCharge, takeFront_ctx, hs, not_true_eq_false, ne_eq, if_false]
    exact if_pos full
  · obtain ⟨w, hw⟩ := Option.isSome_iff_exists.1 hw
    have joined := takeCharge_joins (s := s.takeFront .callTable) (p := p) (r := r) (n := n.toNat) hs hq
    have work : (((s.takeFront .callTable).joinQueue p ⟨r.tag, n.toNat, 0⟩).unit p).work = some w := by
      rw [joinQueue_unit]; exact hw
    have queue : (((s.takeFront .callTable).joinQueue p ⟨r.tag, n.toNat, 0⟩).ctx p).queue ≠ [] := by
      rw [joinQueue_ctx]; simp
    rw [workQueue_in_work work, startRest_of_queue queue] at joined
    refine ⟨_, (exec_charge s).trans (congrArg _ ((doCharge_eq hf hb hp).trans joined)),
      sameApartFrom_joinQueue _ p _, joinQueue_ctx _ p _, joinQueue_unit _ p _, rfl, rfl⟩

/-! ## New work stopped (R22, R33, R109) -/

section
variable {s : State} {p : Pos}

theorem modUnit_eq_of {f : Position → Position} {u : Position} (h : f (s.unit p) = u) :
    s.modUnit p f = { s with units := s.units.set p.val u p.isLt } := by
  rw [← h]
  rfl

theorem dropUnsent_of_sent (h : (s.line p).unsent = false) : s.dropUnsent p = s := by
  simp [State.dropUnsent, h]

/-- Where no order is unsent, new work stops with the request withdrawn and a read that is not awaited given up. -/
theorem stopWork_of_sent (h : (s.line p).unsent = false) :
    s.stopWork p = if (s.line p).awaited then s.withdraw p else (s.withdraw p).endOrder p := by
  simp only [State.stopWork, dropUnsent_of_sent (s := s.withdraw p) h, State.abandonOrder, withdraw_line]

theorem completeIfDue_of_not (h : (s.ctx p).completionDue = false) : s.completeIfDue p = s := by
  simp [State.completeIfDue, h]

end

/-! ## RESET POSITION taken (R33, R34) -/

theorem doResetPosition_waiting {s : State} {p : Pos} {x : LineWait} (h : (s.unit p).wait = some x) :
    s.doResetPosition p = s := by
  simp only [State.doResetPosition, h]
  split
  · contradiction
  · rfl

theorem doResetPosition_eq {s : State} {r : Request} {p : Pos} (hf : s.front (.lineUnit (posByte p)) = some r)
    (hb : r.body = .resetPosition) (hw : (s.unit p).wait = none) :
    s.doResetPosition p = (s.takeFront (.lineUnit (posByte p))).takeReset p r := by
  simp [State.doResetPosition, hf, hb, hw]

/-- Settles O35: refused in TESTING, else waiting with the position's new work stopped. -/
theorem resetPositionTaken : Obligations.ResetPositionTaken := by
  unfold Obligations.ResetPositionTaken
  intro s r p hf hb
  have code : r.body.typeCode = 0x33#8 := by rw [hb]; rfl
  refine ⟨fun hw => ?_, fun hw hs => ?_, fun hw hs hc hu => ?_⟩
  · obtain ⟨x, hx⟩ := Option.isSome_iff_exists.1 hw
    rw [exec_resetPosition, doResetPosition_waiting hx]
  · have refused : (s.takeFront (.lineUnit (posByte p))).takeReset p r =
        (s.takeFront (.lineUnit (posByte p))).answer r (.refusal .state) := if_pos hs
    rw [exec_resetPosition, doResetPosition_eq hf hb hw, refused, answer_takeFront, code]
  · have taken : (s.takeFront (.lineUnit (posByte p))).takeReset p r =
        ((s.takeFront (.lineUnit (posByte p))).stopWork p).modUnit p fun u => { u with wait := some (.reset r.tag) } := by
      rw [State.takeReset, takeFront_line, if_neg hs, completeIfDue_of_not (s := s.takeFront _) hc]
    rw [exec_resetPosition, doResetPosition_eq hf hb hw, taken, stopWork_of_sent (s := s.takeFront _) hu, takeFront_line]
    cases ha : (s.line p).awaited
    · simp only [Bool.false_eq_true, if_false]
      rw [State.endOrder, State.modLine, modUnit_modUnit]
      rfl
    · rfl

/-! ## An identification begins (R36, R37) -/

section
variable (s : State) (p : Pos)

/-- The position as an identification finds it once its first WAKE has been begun, or once none may begin. -/
def State.identifyingUnit (s : State) (p : Pos) (wake : Bool) : Position :=
  let u := s.unit p
  let cut := u.reader.map (Seated.onCard (cardCut (Config.cutPoint s.freeCount)))
  { u with
    line := { u.line with
      state := .identifying, cause := none, shownId := none, shownTally := none, failing := none, checkLatch := false,
      rest := none, contact := if wake then .waking else .unpowered
      order := if wake then some (s.begunOrder p .wake 0 .first .firstWake) else none }
    reader := if wake then cut.map (Seated.onCard cardPowerUp) else cut
    seq := some { step := 1, reread := false, header := none, tally := none, sends := 0 }
    terms := none, held := none, inForce := false }

theorem mayBegin_identifying : ((s.contactOff p .unpowered).modUnit p Position.identifying).mayBegin p = s.mayBegin p := by
  have wait : (((s.contactOff p .unpowered).modUnit p Position.identifying).unit p).wait = (s.unit p).wait := by
    simp [Position.identifying]
  have restart : ((s.contactOff p .unpowered).modUnit p Position.identifying).restart = s.restart := by
    rw [contactOff_eq]; rfl
  simp only [State.mayBegin, wait, restart]

theorem beginIdentification_unit : (s.beginIdentification p).unit p = s.identifyingUnit p (s.mayBegin p) := by
  have settings : ((s.contactOff p .unpowered).modUnit p Position.identifying).posSettings p = s.posSettings p := by
    rw [contactOff_eq]; rfl
  unfold State.beginIdentification
  dsimp only
  rw [mayBegin_identifying]
  cases s.mayBegin p with
  | false => simp [State.identifyingUnit, Position.identifying, State.line]
  | true => simp [State.identifyingUnit, Position.identifying, State.line, State.begunOrder, settings]

theorem sameApartFrom_beginOrder (k : OrderKind) (g : Stage) (a : Attempt) (x : Purpose) :
    s.sameApartFrom p (s.beginOrder p k g a x) := sameApartFrom_modLine s p _

theorem sameApartFrom_beginWake (a : Attempt) (x : Purpose) : s.sameApartFrom p (s.beginWake p a x) :=
  sameApartFrom_trans (sameApartFrom_modUnit s p _) (sameApartFrom_beginOrder _ p _ _ _ _)

theorem sameApartFrom_beginIdentification : s.sameApartFrom p (s.beginIdentification p) := by
  have begun := sameApartFrom_trans (sameApartFrom_contactOff s p .unpowered)
    (sameApartFrom_modUnit (s.contactOff p .unpowered) p Position.identifying)
  unfold State.beginIdentification
  dsimp only
  split
  · exact sameApartFrom_trans begun (sameApartFrom_beginWake _ p _ _)
  · exact begun

@[simp] theorem beginIdentification_link : (s.beginIdentification p).link = s.link := by
  unfold State.beginIdentification
  dsimp only
  split <;> simp

@[simp] theorem beginIdentification_retained : (s.beginIdentification p).retained = s.retained := by
  unfold State.beginIdentification
  dsimp only
  split <;> simp

@[simp] theorem beginIdentification_arbiter : (s.beginIdentification p).arbiter = s.arbiter := by
  unfold State.beginIdentification
  dsimp only
  split <;> simp

@[simp] theorem beginIdentification_test : (s.beginIdentification p).test = s.test := by
  rw [(sameApartFrom_beginIdentification s p).2]

@[simp] theorem beginIdentification_ctx (q : Pos) : (s.beginIdentification p).ctx q = s.ctx q :=
  congrArg (Retained.ctx · q) (beginIdentification_retained s p)

theorem beginIdentification_posSettings (q : Pos) : (s.beginIdentification p).posSettings q = s.posSettings q := by
  simp only [State.posSettings, kept_working (kept_beginIdentification s p)]

/-! ### An insertion acted on (R18, R21, R22) -/

theorem insert_unit : (s.insert p).unit p =
    { s.identifyingUnit p (s.mayBegin p) with flags := (s.unit p).flags ||| 0x001#9 } := by
  rw [State.insert, unit_raise, beginIdentification_unit]
  rfl

theorem sameApartFrom_insert : s.sameApartFrom p (s.insert p) :=
  sameApartFrom_trans (sameApartFrom_beginIdentification s p) (sameApartFrom_raise _ p _)

@[simp] theorem insert_retained : (s.insert p).retained = s.retained := by simp [State.insert]
@[simp] theorem insert_arbiter : (s.insert p).arbiter = s.arbiter := by simp [State.insert]
@[simp] theorem insert_linkFlags : (s.insert p).link.flags = s.link.flags := by simp [State.insert]
@[simp] theorem insert_ctx (q : Pos) : (s.insert p).ctx q = s.ctx q := by simp [State.insert]
@[simp] theorem insert_test : (s.insert p).test = s.test := by
  rw [(sameApartFrom_insert s p).2]

/-- The notice of a raising is that of the flags, the settings and the queue. -/
theorem noticeOf_congr {s t : State} {p : Pos} {f : PosFlag} (hf : (t.unit p).flags = (s.unit p).flags)
    (hs : t.posSettings p = s.posSettings p) (ho : t.link.outbound = s.link.outbound) :
    t.noticeOf p f = s.noticeOf p f := by
  simp only [State.noticeOf, hf, hs, ho]

theorem raise_outbound (f : PosFlag) : (s.raise p f).link.outbound = s.link.outbound ++ s.noticeOf p f := by
  rw [raise_eq]

theorem insert_outbound : (s.insert p).link.outbound = s.link.outbound ++ s.noticeOf p .inserted := by
  have flags : ((s.beginIdentification p).unit p).flags = (s.unit p).flags := by
    rw [beginIdentification_unit]; rfl
  rw [State.insert, raise_outbound, noticeOf_congr flags (beginIdentification_posSettings s p p) (by simp)]
  simp

end

/-- Settles O43: an insertion is acted on in EMPTY once start-up is complete; else presence alone changes. -/
theorem insertionBeginsIdentification : Obligations.InsertionBeginsIdentification := by
  unfold Obligations.InsertionBeginsIdentification
  intro s p hp hd
  have hp' : (s.unit p).line.present = false := hp
  have run : s.doInsertion p =
      let s1 := s.modLine p fun l => { l with present := true, debounce := none }
      if (s.line p).state = .empty ∧ s.running = true then s1.insert p else s1 := if_pos ⟨hp, hd⟩
  constructor
  · intro he on started
    have running : s.running = true := (running_iff s).2 ⟨on, started⟩
    rw [if_pos ⟨he, running⟩] at run
    have unit := insert_unit (s.modLine p fun l => { l with present := true, debounce := none }) p
    have may : (s.modLine p fun l => { l with present := true, debounce := none }).mayBegin p = s.mayBegin p := by
      simp only [State.mayBegin, unit_modLine]
      rfl
    rw [may] at unit
    have notice : (s.modLine p fun l => { l with present := true, debounce := none }).noticeOf p .inserted =
        s.noticeOf p .inserted := noticeOf_congr (by rw [unit_modLine]) rfl rfl
    refine ⟨_, (exec_insertion p s).trans (congrArg _ run),
      sameApartFrom_trans (sameApartFrom_modLine s p _) (sameApartFrom_insert _ p), insert_ctx _ p p, ?_, ?_, ?_, ?_, ?_,
      ?_, ?_, fun hm => ?_⟩
    case refine_7 => rw [insert_outbound, notice]; rfl
    case refine_8 =>
      rw [State.line, unit, hm]
      exact ⟨rfl, rfl⟩
    all_goals simp [State.line, unit, State.identifyingUnit]
  · intro hs
    have not : ¬ ((s.line p).state = .empty ∧ s.running = true) := by
      rintro ⟨he, hr⟩
      obtain ⟨-, started⟩ := (running_iff s).1 hr
      simp [he, started] at hs
    rw [if_neg not] at run
    rw [exec_insertion, run]
    rfl

end Sys2Proof.Machine

namespace Sys2Proof.Machine

/-! ## What waits at a position acts (R22, R33) -/

section
variable {s : State} {p : Pos}

theorem LineUnit.awaited_of_writeInProgress {l : LineUnit} (h : l.writeInProgress = true) : l.awaited = true := by
  simp [LineUnit.awaited, h]

theorem mayAct_of_writeInProgress (h : (s.line p).writeInProgress = true) : s.mayAct p = false := by
  simp [State.mayAct, LineUnit.awaited_of_writeInProgress h]

theorem mayAct_of_not_awaited (ha : (s.line p).awaited = false) (ht : (s.line p).state ≠ .testing) :
    s.mayAct p = true := by
  simp [State.mayAct, ha, ht]

theorem doResetPositionAct_eq {tag : Byte} (hw : (s.unit p).wait = some (.reset tag)) :
    s.doResetPositionAct p = if s.mayAct p then (s.resetAct p).answerAt p 0x33#8 tag .ok else s := by
  simp [State.doResetPositionAct, hw]

theorem clearWait_unit : (s.clearWait p).unit p = { s.unit p with wait := none } := unit_modUnit s p _

theorem sameApartFrom_clearWait : s.sameApartFrom p (s.clearWait p) := sameApartFrom_modUnit s p _

/-- With nothing waiting, new orders begin at a position unless a RESTART is pending (R22). -/
theorem mayBegin_of_no_wait (hw : (s.unit p).wait = none) : s.mayBegin p = decide (s.restart = .none) := by
  simp [State.mayBegin, hw]

/-! ## RESET POSITION acts (R33, R36, R92) -/

theorem resetAct_off (h : (s.line p).state = .off) : s.resetAct p = s.clearWait p := by
  have off : ((s.clearWait p).line p).state = .off := by rw [State.line, clearWait_unit]; exact h
  simp only [State.resetAct, State.resetEffect, off]

theorem resetAct_empty (h : (s.line p).state = .empty) :
    s.resetAct p = s.modUnit p fun u => { u with wait := none, line := { u.line with checkLatch := false } } := by
  have empty : ((s.clearWait p).line p).state = .empty := by rw [State.line, clearWait_unit]; exact h
  simp only [State.resetAct, State.resetEffect, empty]
  exact modUnit_modUnit s p _ _

theorem resetAct_inCall (h : (s.line p).state = .inCall) :
    s.resetAct p = ((s.clearWait p).closeCall p .positionReset none).beginIdentification p := by
  have inCall : ((s.clearWait p).line p).state = .inCall := by rw [State.line, clearWait_unit]; exact h
  simp only [State.resetAct, State.resetEffect, inCall]

/-- With a card and no call a reset begins the identification again. -/
theorem resetAct_card (ho : (s.line p).state ≠ .off) (he : (s.line p).state ≠ .empty)
    (ht : (s.line p).state ≠ .testing) (hc : (s.line p).state ≠ .inCall) :
    s.resetAct p = (s.clearWait p).beginIdentification p := by
  have same : ((s.clearWait p).line p).state = (s.line p).state := by rw [State.line, clearWait_unit]; rfl
  simp only [State.resetAct, State.resetEffect, same]
  cases hs : (s.line p).state <;> simp_all

/-- An identification begun at a position where nothing waits (R36, R37). -/
structure Identifies (p : Pos) (s t : State) : Prop where
  state : (t.line p).state = .identifying
  cause : (t.line p).cause = none
  checkLatch : (t.line p).checkLatch = false
  shownId : (t.line p).shownId = none
  shownTally : (t.line p).shownTally = none
  held : (t.unit p).held = none
  terms : (t.unit p).terms = none
  inForce : (t.unit p).inForce = false
  wait : (t.unit p).wait = none
  seq : ∃ q : Sequence, (t.unit p).seq = some q ∧ q.step = 1 ∧ q.header = none ∧ q.tally = none
  begun : s.restart = .none → (t.line p).contact = .waking ∧
    ∃ o : Order, (t.line p).order = some o ∧ o.kind = .wake ∧ o.begun = true ∧ o.retry = false
  notBegun : s.restart ≠ .none → (t.line p).contact = .unpowered ∧ (t.line p).order = none

theorem beginIdentification_identifies (hw : (s.unit p).wait = none) : Identifies p s (s.beginIdentification p) := by
  have unit := beginIdentification_unit s p
  rw [mayBegin_of_no_wait hw] at unit
  refine ⟨?_, ?_, ?_, ?_, ?_, ?_, ?_, ?_, ?_, ?_, fun hr => ?_, fun hr => ?_⟩
  case refine_9 => rw [unit]; exact hw
  case refine_10 => rw [unit]; exact ⟨_, rfl, rfl, rfl, rfl⟩
  case refine_11 =>
    rw [State.line, unit, decide_eq_true hr]
    exact ⟨rfl, _, rfl, rfl, rfl, rfl⟩
  case refine_12 =>
    rw [State.line, unit, decide_eq_false hr]
    exact ⟨rfl, rfl⟩
  all_goals simp [State.line, unit, State.identifyingUnit]

theorem Identifies.answered {t : State} (h : Identifies p s t) (type tag : Byte) (b : ReplyBody) :
    Identifies p s (t.answerAt p type tag b) := by
  obtain ⟨h1, h2, h3, h4, h5, h6, h7, h8, h9, h10, h11, h12⟩ := h
  exact ⟨h1, h2, h3, h4, h5, h6, h7, h8, h9, h10, h11, h12⟩

end

/-! ## A close on a state that has the call as it was -/

/-- What the close of a position's call is made from, the same in both states: of the in-flight-write field, what the tear
makes of it. -/
structure SameCall (p : Pos) (s t : State) : Prop where
  ctx : ∃ f, t.ctx p = { s.ctx p with field := f }
  work : (t.unit p).work = (s.unit p).work
  closes : (t.unit p).closes = (s.unit p).closes
  tearMark : t.retained.tearMark p = s.retained.tearMark p
  tearDoubts : t.retained.tearDoubts p = s.retained.tearDoubts p
  tearCounter : t.retained.tearCounter p = s.retained.tearCounter p
  records : t.retained.records = s.retained.records
  seqCounter : t.retained.seqCounter = s.retained.seqCounter
  linkFlags : t.link.flags = s.link.flags
  replies : t.link.outbound.filter Message.isReply = s.link.outbound.filter Message.isReply

section
variable {p : Pos} {cause : EndCause} {failing : Option Location} {s m t : State}

/-- The tear is read off the context, the doubt list and its counter. -/
theorem tear_congr (hc : t.ctx p = s.ctx p) (hd : t.retained.doubts = s.retained.doubts)
    (hn : t.retained.creationCounter = s.retained.creationCounter) :
    t.retained.tearMark p = s.retained.tearMark p ∧ t.retained.tearDoubts p = s.retained.tearDoubts p ∧
      t.retained.tearCounter p = s.retained.tearCounter p := by
  have ctx : t.retained.ctx p = s.retained.ctx p := hc
  simp only [Retained.tearMark, Retained.tearDoubts, Retained.tearEntry, Retained.tearCounter, ctx, hd, hn, and_self]

theorem SameCall.cutAvailable (h : SameCall p s t) : t.cutAvailable p = s.cutAvailable p := by
  obtain ⟨f, ctx⟩ := h.ctx
  simp only [State.cutAvailable, ctx, h.work]

theorem SameCall.cutCovered (h : SameCall p s t) : t.cutCovered p = s.cutCovered p := by
  obtain ⟨f, ctx⟩ := h.ctx
  simp only [State.cutCovered, ctx, h.work, h.cutAvailable]

theorem SameCall.cutCtx (h : SameCall p s t) : ∃ f, t.cutCtx p = { s.cutCtx p with field := f } := by
  obtain ⟨f, ctx⟩ := h.ctx
  exact ⟨f, by simp only [State.cutCtx, ctx, h.work, h.cutAvailable, h.cutCovered]⟩

theorem SameCall.cutReplies (h : SameCall p s t) (o : ChargeOutcome) :
    t.cutReplies p o failing = s.cutReplies p o failing := by
  obtain ⟨f, ctx⟩ := h.ctx
  simp only [State.cutReplies, ctx, h.cutAvailable, h.cutCovered]

theorem SameCall.closedRecord (h : SameCall p s t) :
    t.closedRecord p cause failing = s.closedRecord p cause failing := by
  obtain ⟨f, ctx⟩ := h.cutCtx
  simp only [State.closedRecord, ctx, h.tearMark, h.seqCounter]

theorem SameCall.closeReplies (h : SameCall p s t) (r : CallRecord) : t.closeReplies p r = s.closeReplies p r := by
  simp only [State.closeReplies, h.closes]

/-- What a close leaves of its own call, told of the state `s` that had the call (R88). -/
structure CallEnded (p : Pos) (cause : EndCause) (failing : Option Location) (s t : State) : Prop where
  work : (t.unit p).work = none
  closes : (t.unit p).closes = []
  flags : cause.raisesClosed = true → (t.unit p).flags &&& PosFlag.closed.bit = PosFlag.closed.bit
  ctx : ∃ b, t.ctx p =
    { s.cutCtx p with state := .noCall, field := none, mark := s.retained.tearMark p, warned := b }
  doubts : t.retained.doubts = s.retained.tearDoubts p
  creationCounter : t.retained.creationCounter = s.retained.tearCounter p
  records : t.retained.records = s.retained.records ++ [.call (s.closedRecord p cause failing)]
  linkFlags : t.link.flags = s.link.flags ||| PartFlag.recordsWaiting.bit
  replies : t.link.outbound.filter Message.isReply =
    s.link.outbound.filter Message.isReply ++ s.cutReplies p cause.outcome failing ++
      s.closeReplies p (s.closedRecord p cause failing)

theorem CallClosed.ended (h : CallClosed p cause failing m t) (same : SameCall p s m) :
    CallEnded p cause failing s t := by
  obtain ⟨f, unit, raised⟩ := h.unit
  obtain ⟨g, cut⟩ := same.cutCtx
  obtain ⟨b, ctx⟩ := h.ctx
  exact {
    work := by rw [unit]
    closes := by rw [unit]
    flags := fun hc => by rw [unit]; exact or_and_of_and_eq _ (raised hc)
    ctx := ⟨b, by rw [ctx, cut, same.tearMark]⟩
    doubts := h.doubts.trans same.tearDoubts
    creationCounter := h.creationCounter.trans same.tearCounter
    records := by rw [h.records, same.records, same.closedRecord]
    linkFlags := by rw [h.linkFlags, same.linkFlags]
    replies := by rw [h.replies, same.replies, same.cutReplies, same.closedRecord, same.closeReplies] }

/-- Without a BURN in the field a close makes no tear (R88). -/
theorem tear_of_no_burn (h : ∀ f, (s.ctx p).field = some f → f.kind = .restage) :
    s.retained.tearMark p = (s.ctx p).mark ∧ s.retained.tearDoubts p = s.retained.doubts ∧
      s.retained.tearCounter p = s.retained.creationCounter := by
  unfold Retained.tearMark Retained.tearDoubts Retained.tearCounter
  change ∀ f, (s.retained.ctx p).field = some f → f.kind = .restage at h
  cases hf : (s.retained.ctx p).field with
  | none => exact ⟨rfl, rfl, rfl⟩
  | some f =>
    have kind := h f hf
    simp only [kind, reduceCtorEq, false_and, if_false, ne_eq, not_false_eq_true, if_true, and_true]
    rfl

end

/-- A reset that acts on a call ends it POSITION_RESET, as it stood when the reset was to act (R33, R92). -/
theorem resetAct_ends {s : State} {p : Pos} (hn : (s.ctx p).state ≠ .noCall) :
    CallEnded p .positionReset none s ((s.clearWait p).closeCall p .positionReset none) := by
  have closed := closeCall_closed (s := s.clearWait p) hn .positionReset none
  refine closed.ended ⟨⟨_, rfl⟩, ?_, ?_, rfl, rfl, rfl, rfl, rfl, rfl, rfl⟩ <;> rw [clearWait_unit]

/-- Where a card is to be identified, the identification begins behind the end of the wait and the close of the call. -/
theorem resetAct_identifies {s : State} {p : Pos} (ho : (s.line p).state ≠ .off) (he : (s.line p).state ≠ .empty)
    (ht : (s.line p).state ≠ .testing) : Identifies p s (s.resetAct p) := by
  have identifies {m : State} (hm : s.resetAct p = m.beginIdentification p) (hw : (m.unit p).wait = none)
      (hr : m.restart = .none ↔ s.restart = .none) : Identifies p s (s.resetAct p) := by
    obtain ⟨h1, h2, h3, h4, h5, h6, h7, h8, h9, h10, h11, h12⟩ := beginIdentification_identifies hw
    rw [hm]
    exact ⟨h1, h2, h3, h4, h5, h6, h7, h8, h9, h10, fun h => h11 (hr.2 h), fun h => h12 (mt hr.1 h)⟩
  by_cases hc : (s.line p).state = .inCall
  · refine identifies (resetAct_inCall hc) ?_ (kept_restart (kept_closeCall (s.clearWait p) p _ _))
    obtain ⟨-, w, cl, f, unit⟩ := closeCall_unit (s.clearWait p) p .positionReset none
    rw [unit, clearWait_unit]
  · exact identifies (resetAct_card ho he ht hc) (by rw [clearWait_unit]) Iff.rfl

/-- Settles O36: by the state the reset finds; the call is closed on the state the end of the wait leaves. -/
theorem resetPositionActs : Obligations.ResetPositionActs := by
  unfold Obligations.ResetPositionActs
  intro s p tag hw reply
  have run := (exec_resetPositionAct p s).trans (congrArg Host.Outcome.next (doResetPositionAct_eq hw))
  refine ⟨fun hp => ?_, fun ha => ⟨fun ho => ?_, fun he => ?_, fun ho he ht => ?_⟩⟩
  · rw [run, mayAct_of_writeInProgress hp]
    rfl
  · rw [mayAct_of_not_awaited ha (by rw [ho]; decide), if_pos rfl, resetAct_off ho] at run
    exact ⟨_, run, sameApartFrom_trans sameApartFrom_clearWait (sameApartFrom_send _ p _), clearWait_unit, rfl, rfl⟩
  · rw [mayAct_of_not_awaited ha (by rw [he]; decide), if_pos rfl, resetAct_empty he] at run
    exact ⟨_, run, sameApartFrom_trans (sameApartFrom_modUnit s p _) (sameApartFrom_send _ p _),
      (answerAt_unit _ p _ _ _ p).trans (unit_modUnit s p _), rfl, rfl⟩
  · rw [mayAct_of_not_awaited ha ht, if_pos rfl] at run
    have i := resetAct_identifies ho he ht
    refine ⟨_, run, i.state, i.cause, i.checkLatch, i.shownId, i.shownTally, i.held, i.terms, i.inForce, i.wait, i.seq,
      i.begun, i.notBegun, by simp [reply, State.answerAt, State.send, State.modLink], fun hc => ?_, fun hc hn => ?_⟩
    · rw [resetAct_card ho he ht hc]
      refine ⟨sameApartFrom_trans sameApartFrom_clearWait
        (sameApartFrom_trans (sameApartFrom_beginIdentification _ p) (sameApartFrom_send _ p _)),
        beginIdentification_ctx _ p p, ?_, ?_⟩
      · refine (congrArg Position.flags (beginIdentification_unit (s.clearWait p) p)).trans ?_
        simp [State.identifyingUnit, clearWait_unit]
      · simp [State.answerAt, State.send, State.modLink, reply, State.clearWait]
    · have ended := resetAct_ends hn
      obtain ⟨b, ctx⟩ := ended.ctx
      have unit := beginIdentification_unit ((s.clearWait p).closeCall p .positionReset none) p
      have same := beginIdentification_ctx ((s.clearWait p).closeCall p .positionReset none) p p
      have figures := cutFigures_closedRecord s p .positionReset none
      rw [resetAct_inCall hc]
      simp only [answerAt_ctx, answerAt_unit, answerAt_retained, answerAt_link_flags, beginIdentification_retained,
        beginIdentification_link, unit, same, ctx]
      refine ⟨trivial, rfl, trivial, ended.closes, ended.work, ended.flags rfl, ended.linkFlags,
        s.closedRecord p .positionReset none, ended.records, rfl, rfl, rfl, rfl, rfl, rfl, rfl, rfl, figures,
        fun hf => ?_, ?_⟩
      · obtain ⟨mark, doubts, -⟩ := tear_of_no_burn (s := s) (p := p) fun f h => by rw [hf] at h; cases h
        exact ⟨mark, ended.doubts.trans doubts⟩
      · simp [State.answerAt, State.send, State.modLink, ended.replies, reply, Message.isReply, EndCause.outcome]

end Sys2Proof.Machine

namespace Sys2Proof.Machine

/-! ## A channel given back (R99 to R101) -/

/-- The state but for positions, contexts and channels. -/
def State.sameApartFromGrants (s t : State) : Prop :=
  t = { s with units := t.units, retained := { s.retained with ctxs := t.retained.ctxs }, arbiter := t.arbiter }

theorem sameApartFromGrants_trans {s t u : State} (h : s.sameApartFromGrants t) (h' : t.sameApartFromGrants u) :
    s.sameApartFromGrants u := by
  unfold State.sameApartFromGrants at *
  rw [h', h]

theorem grantTo_sameApartFromGrants (s : State) (r : WriteRequest) : s.sameApartFromGrants (s.grantTo r) := by
  unfold State.grantTo
  dsimp only
  split
  · rfl
  · split <;> rfl

theorem grantLoop_sameApartFromGrants (n : Nat) : ∀ s : State, s.sameApartFromGrants (s.grantLoop n) := by
  induction n with
  | zero => exact fun s => rfl
  | succ n ih =>
    intro s
    unfold State.grantLoop
    split
    · rfl
    · next r rest hw =>
      split
      · exact sameApartFromGrants_trans (t := { s with arbiter := { s.arbiter with waiting := rest } }) rfl
          (sameApartFromGrants_trans (grantTo_sameApartFromGrants _ r) (ih _))
      · rfl

theorem grantLoop_waiting (n : Nat) : ∀ s : State, ∀ r ∈ (s.grantLoop n).arbiter.waiting, r ∈ s.arbiter.waiting := by
  induction n with
  | zero => exact fun s r hr => hr
  | succ n ih =>
    intro s r hr
    unfold State.grantLoop at hr
    split at hr
    · exact hr
    · next x rest hw =>
      split at hr
      · have still := ih _ r hr
        rw [grantTo_waiting] at still
        rw [hw]
        exact List.mem_cons_of_mem x still
      · exact hr

/-- What the giving back of a position's channel leaves: the position as it was, with no channel. -/
structure GivesBack (p : Pos) (s t : State) : Prop where
  apart : s.sameApartFromGrants t
  unit : t.unit p = s.unit p
  ctx : t.ctx p = s.ctx p
  held : ∀ x ∈ t.arbiter.held, x.position ≠ p
  waiting : ∀ r ∈ t.arbiter.waiting, r ∈ s.arbiter.waiting

/-- A position that does not wait for a channel as well gives its channel back to others alone. -/
theorem release_givesBack {s : State} {p : Pos} (h : s.holds p = true → ∀ r ∈ s.arbiter.waiting, r.position ≠ p) :
    GivesBack p s (s.release p) := by
  unfold State.release
  split
  · next hp =>
    let t : State := { s with arbiter := { s.arbiter with held := s.arbiter.held.filter fun h => h.position ≠ p } }
    have rest := grantLoop_notGranted (q := p) s.arbiter.waiting.length t (h hp)
    exact {
      apart := sameApartFromGrants_trans (t := t) rfl (grantLoop_sameApartFromGrants _ t)
      unit := rest.unit
      ctx := rest.ctx
      held := rest.held (by simp [t])
      waiting := grantLoop_waiting _ t }
  · next hp => exact ⟨rfl, rfl, rfl, by simpa [State.holds] using hp, fun r hr => hr⟩

theorem lawful_holds_not_waits {s : State} {p : Pos} (h : s.arbiter.lawful) (hp : s.holds p = true) :
    ∀ r ∈ s.arbiter.waiting, r.position ≠ p :=
  lawful_not_waits h (by simpa [State.holds] using hp)

section
variable {s t : State} (h : s.sameApartFromGrants t)
include h

theorem grants_link : t.link = s.link := by rw [h]
theorem grants_working : t.working = s.working := by rw [h]
theorem grants_restart : t.restart = s.restart := by rw [h]
theorem grants_records : t.retained.records = s.retained.records := by rw [h]
theorem grants_doubts : t.retained.doubts = s.retained.doubts := by rw [h]
theorem grants_seqCounter : t.retained.seqCounter = s.retained.seqCounter := by rw [h]
theorem grants_creationCounter : t.retained.creationCounter = s.retained.creationCounter := by rw [h]

end

/-! ## A position taken out of service (R22, R23, R43) -/

section
variable {s : State} {p : Pos}

/-- New work stopped at a position: its request withdrawn, and its order, if any is given up, the only thing that changes
of it. -/
structure WorkStopped (p : Pos) (s t : State) : Prop where
  apart : s.sameApartFromGrants t
  unit : ∃ o, t.unit p = { s.unit p with line := { s.line p with order := o } }
  ctx : ∃ f, t.ctx p = { s.ctx p with field := f }

theorem withdraw_not_waits (s : State) (p : Pos) : ∀ r ∈ (s.withdraw p).arbiter.waiting, r.position ≠ p := by
  simp [State.withdraw]

theorem dropUnsent_stops
    (h : (s.line p).unsent = true → s.holds p = true → ∀ r ∈ s.arbiter.waiting, r.position ≠ p) :
    WorkStopped p s (s.dropUnsent p) := by
  unfold State.dropUnsent
  split
  · next hu =>
    have back := release_givesBack (s := (s.endOrder p).clearField p) (p := p) (h hu)
    refine ⟨sameApartFromGrants_trans (t := (s.endOrder p).clearField p) rfl back.apart, ⟨none, ?_⟩, ⟨none, ?_⟩⟩
    · rw [back.unit, clearField_unit, unit_endOrder]
    · rw [back.ctx]
      exact ctx_modCtx _ p _
  · exact ⟨rfl, ⟨(s.line p).order, rfl⟩, ⟨(s.ctx p).field, rfl⟩⟩

theorem stopWork_stops (s : State) (p : Pos) : WorkStopped p s (s.stopWork p) := by
  have dropped := dropUnsent_stops (s := s.withdraw p) (p := p) fun _ _ => withdraw_not_waits s p
  obtain ⟨o, ho⟩ := dropped.unit
  unfold State.stopWork State.abandonOrder
  refine ⟨?_, ?_, ?_⟩
  · have first := sameApartFromGrants_trans (s := s) (t := s.withdraw p) rfl dropped.apart
    split
    · exact first
    · exact sameApartFromGrants_trans first rfl
  · split
    · exact ⟨o, ho⟩
    · exact ⟨none, by rw [unit_endOrder, State.line, ho]; rfl⟩
  · split <;> exact dropped.ctx

@[simp] theorem contactOff_working (c : Contact) : (s.contactOff p c).working = s.working := by
  rw [contactOff_eq]; rfl

@[simp] theorem contactOff_restart (c : Contact) : (s.contactOff p c).restart = s.restart := by
  rw [contactOff_eq]; rfl

/-- A position out of service with its contacts unpowered, as R22 leaves it. -/
structure GoneOff (p : Pos) (s t : State) : Prop where
  unit : ∃ r, t.unit p = { (s.unit p).goOff with
    line := { (s.unit p).goOff.line with contact := .unpowered }, reader := r }
  ctx : t.ctx p = { s.ctx p with field := none }
  link : t.link = s.link
  working : t.working = s.working
  restart : t.restart = s.restart
  records : t.retained.records = s.retained.records

theorem goOff_goneOff (s : State) (p : Pos) : GoneOff p s (s.goOff p) := by
  have stopped := stopWork_stops s p
  obtain ⟨o, ho⟩ := stopped.unit
  obtain ⟨f, hf⟩ := stopped.ctx
  unfold State.goOff
  refine ⟨?_, ?_, ?_, ?_, ?_, ?_⟩
  · rw [clearField_unit, unit_modUnit, unit_contactOff, State.line, ho]
    exact ⟨_, rfl⟩
  · refine (ctx_modCtx _ p _).trans ?_
    rw [modUnit_ctx, contactOff_ctx, hf]
  · simp [grants_link stopped.apart]
  · rw [clearField_working, modUnit_working, contactOff_working]
    exact grants_working stopped.apart
  · rw [clearField_restart, modUnit_restart, contactOff_restart]
    exact grants_restart stopped.apart
  · refine Eq.trans ?_ (grants_records stopped.apart)
    rw [State.clearField, State.modCtx]
    simp [Retained.modCtx, State.modRetained]

/-- With no order of the position unsent nothing of another position changes. -/
theorem goOff_ne (h : (s.line p).unsent = false) {q : Pos} (hq : q ≠ p) :
    (s.goOff p).unit q = s.unit q ∧ (s.goOff p).ctx q = s.ctx q := by
  have stopped : (s.stopWork p).unit q = s.unit q ∧ (s.stopWork p).ctx q = s.ctx q := by
    rw [stopWork_of_sent h]
    split
    · exact ⟨rfl, rfl⟩
    · exact ⟨unit_endOrder_ne _ hq, rfl⟩
  constructor
  · refine Eq.trans ?_ stopped.1
    exact (unit_modUnit_ne _ hq _).trans (unit_contactOff_ne _ hq _)
  · refine Eq.trans ((ctx_modCtx_ne _ hq _).trans ?_) stopped.2
    rw [modUnit_ctx, contactOff_ctx]

/-! ## CONFIGURE_OUT_OF_SERVICE_ACT (R22) -/

theorem doConfigureAct_eq {tag : Byte} (hw : (s.unit p).wait = some (.configure tag)) :
    s.doConfigureAct p = if s.mayAct p then (s.configureAct p).answerAt p 0x12#8 tag .ok else s := by
  simp [State.doConfigureAct, hw]

theorem configureAct_off (h : (s.line p).state = .off) : s.configureAct p = s.clearWait p := if_pos h

theorem configureAct_goes (h : (s.line p).state ≠ .off) : s.configureAct p = (s.clearWait p).goOff p := if_neg h

end

/-- Settles O38: a position already OFF only ends its wait; any other goes OFF behind it. -/
theorem configureOutOfServiceActs : Obligations.ConfigureOutOfServiceActs := by
  unfold Obligations.ConfigureOutOfServiceActs
  intro s p tag hw
  have run := (exec_configureOutOfServiceAct p s).trans (congrArg Host.Outcome.next (doConfigureAct_eq hw))
  refine ⟨fun hp => ?_, fun ha ht hu => ?_⟩
  · rw [run, mayAct_of_writeInProgress hp]
    rfl
  · rw [mayAct_of_not_awaited ha ht, if_pos rfl] at run
    refine ⟨_, run, ?_⟩
    by_cases ho : (s.line p).state = .off
    · rw [configureAct_off ho]
      simp only [State.line, answerAt_unit, clearWait_unit]
      exact ⟨ho, trivial, trivial, trivial, fun hn => absurd ho hn, fun q hq => ⟨unit_modUnit_ne s hq _, rfl⟩, rfl, rfl,
        rfl⟩
    · have gone := goOff_goneOff (s.clearWait p) p
      obtain ⟨r, unit⟩ := gone.unit
      have sent : ((s.clearWait p).line p).unsent = false := by rw [State.line, clearWait_unit]; exact hu
      rw [clearWait_unit] at unit
      rw [configureAct_goes ho]
      simp only [State.line, answerAt_unit, unit]
      refine ⟨rfl, rfl, rfl, rfl, fun _ => ⟨trivial, rfl, rfl, rfl, rfl⟩, fun q hq => ?_, gone.records, gone.working, ?_⟩
      · obtain ⟨others, ctxs⟩ := goOff_ne sent hq
        exact ⟨others.trans (unit_modUnit_ne s hq _), ctxs⟩
      · exact congrArg (fun l : Link => l.outbound ++ [Message.reply 0x12#8 tag (posByte p) .ok]) gone.link

/-! ## CONFIGURE (R22, R148) -/

section
variable {s : State} {p : Pos} {r : Request} {i n c : Byte} {x : PosSettings}

/-- A byte below 2 is 0 or 1. -/
theorem byte_le_one {b : Byte} (h : b.toNat ≤ 1) : b = 0#8 ∨ b = 1#8 := by
  bv_omega

theorem yesNoOf_legal {b : Byte} (h : b.toNat ≤ 1) : yesNoOf b = some (decide (b = 1#8)) := by
  rcases byte_le_one h with rfl | rfl <;> rfl

theorem lineClassOf_legal {b : Byte} (h : b.toNat ≤ 1) : lineClassOf b = some (if b = 1#8 then .long else .short) := by
  rcases byte_le_one h with rfl | rfl <;> rfl

theorem yesNoOf_other {b : Byte} (h : ¬ b.toNat ≤ 1) : yesNoOf b = none := by
  have h0 : b ≠ 0#8 := by rintro rfl; exact h (by decide)
  have h1 : b ≠ 1#8 := by rintro rfl; exact h (by decide)
  simp [yesNoOf, h0, h1]

theorem lineClassOf_other {b : Byte} (h : ¬ b.toNat ≤ 1) : lineClassOf b = none := by
  have h0 : b ≠ 0#8 := by rintro rfl; exact h (by decide)
  have h1 : b ≠ 1#8 := by rintro rfl; exact h (by decide)
  simp [lineClassOf, h0, h1]

/-- The settings that three bytes name, each read as R169 gives. -/
def settingsNamed (i n c : Byte) : PosSettings :=
  { inService := decide (i = 1#8), notify := decide (n = 1#8), lineClass := if c = 1#8 then .long else .short }

theorem settingsOf_legal (h : i.toNat ≤ 1 ∧ n.toNat ≤ 1 ∧ c.toNat ≤ 1) :
    settingsOf i n c = some (settingsNamed i n c) := by
  obtain ⟨hi, hn, hc⟩ := h
  simp [settingsOf, settingsNamed, yesNoOf_legal hi, yesNoOf_legal hn, lineClassOf_legal hc]

theorem settingsOf_other (h : ¬ (i.toNat ≤ 1 ∧ n.toNat ≤ 1 ∧ c.toNat ≤ 1)) : settingsOf i n c = none := by
  unfold settingsOf
  split
  · next hi hn hc =>
    refine absurd ⟨?_, ?_, ?_⟩ h
    · exact not_not.1 fun h' => by simp [yesNoOf_other h'] at hi
    · exact not_not.1 fun h' => by simp [yesNoOf_other h'] at hn
    · exact not_not.1 fun h' => by simp [lineClassOf_other h'] at hc
  · rfl

theorem doConfigure_eq (hf : s.front (.lineUnit (posByte p)) = some r) (hb : r.body = .configure i n c)
    (hw : (s.unit p).wait = none) :
    s.doConfigure p = (s.takeFront (.lineUnit (posByte p))).takeConfigure p r i n c := by
  simp [State.doConfigure, hf, hb, hw]

/-- A CONFIGURE of values of their kinds, with no completion due: refused STATE, or carried out (R22). -/
theorem takeConfigure_eq (hc : (s.ctx p).completionDue = false) (hx : settingsOf i n c = some x) :
    s.takeConfigure p r i n c =
      if (s.line p).state = .testing ∨ ((s.line p).state = .inCall ∧ x.inService = false) then
        s.answer r (.refusal .state)
      else s.configured p r x := by
  simp only [State.takeConfigure, hx, completeIfDue_of_not hc]

/-- Nothing of the position changes where its service does not. -/
theorem configured_same (h : ((s.line p).state = .off ∧ x.inService = false) ∨
    ((s.line p).state ≠ .off ∧ x.inService = true)) : s.configured p r x = (s.writeSettings p x).answer r .ok := by
  unfold State.configured
  rcases h with ⟨hs, hx⟩ | ⟨hs, hx⟩
  · simp only [hs, hx]
  · cases h' : (s.line p).state <;> simp_all

theorem configured_comes (hs : (s.line p).state = .off) (hx : x.inService = true) :
    s.configured p r x = ((s.writeSettings p x).comeIntoService p).answer r .ok := by
  simp only [State.configured, hs, hx]

theorem configured_goes (hs : (s.line p).state ≠ .off) (hx : x.inService = false) :
    s.configured p r x = if (s.line p).awaited then
        ((s.writeSettings p x).stopWork p).modUnit p fun u => { u with wait := some (.configure r.tag) }
      else ((s.writeSettings p x).goOff p).answer r .ok := by
  unfold State.configured
  cases h' : (s.line p).state <;> simp_all

end

/-- Settles O37: the settings the bytes name, or none; then by the state and the service asked for. -/
theorem configureOutcomes : Obligations.ConfigureOutcomes := by
  unfold Obligations.ConfigureOutcomes
  intro s r p i n c hf hb hw hc o set legal
  have code : r.body.typeCode = 0x12#8 := by rw [hb]; rfl
  have run := (exec_configure p s).trans (congrArg Host.Outcome.next (doConfigure_eq hf hb hw))
  have taken (hl : legal) := takeConfigure_eq (s := s.takeFront o) (r := r) hc (settingsOf_legal hl)
  have carried (hl : legal) (ht : (s.line p).state ≠ .testing) (hi : (s.line p).state ≠ .inCall ∨ i = 1#8) :
      exec (.configure p) s = .next ((s.takeFront o).configured p r (settingsNamed i n c)) := by
    rw [run, taken hl, takeFront_line, if_neg]
    rintro (h | ⟨h, h'⟩)
    · exact ht h
    · rcases hi with hi | rfl
      · exact hi h
      · simp [settingsNamed] at h'
  have service (hi : i = 1#8) : (settingsNamed i n c).inService = true := by simp [settingsNamed, hi]
  have noService (hi : i = 0#8) : (settingsNamed i n c).inService = false := by simp [settingsNamed, hi]
  refine ⟨fun hl => ?_, fun hl hs => ?_, fun hl ht hs => ?_, fun hl hs hi hp => ?_, fun hl hs hi hp => ?_,
    fun hl ho ht hn hi hu => ?_⟩
  · rw [run, State.takeConfigure, settingsOf_other hl]
    dsimp only
    rw [answer_takeFront, code]
  · rw [run, taken hl, if_pos, answer_takeFront, code]
    exact hs.imp id fun h => ⟨h.1, noService h.2⟩
  · rw [carried hl ht (by rcases hs with h | h; exacts [.inl (by simp [h.1]), .inr h.2]),
      configured_same (s := s.takeFront o) (hs.imp (fun h => ⟨h.1, noService h.2⟩) fun h => ⟨h.1, service h.2⟩)]
    rw [answer_eq, code]
    rfl
  · have absent : (((s.takeFront o).writeSettings p (settingsNamed i n c)).line p).present = false := hp
    rw [carried hl (by simp [hs]) (.inr hi), configured_comes (s := s.takeFront o) hs (service hi), State.comeIntoService, absent,
      answer_eq, code]
    rfl
  · have present : (((s.takeFront o).writeSettings p (settingsNamed i n c)).line p).present = true := hp
    have comes := carried hl (by simp [hs]) (.inr hi)
    rw [configured_comes (s := s.takeFront o) hs (service hi), State.comeIntoService, present, if_pos rfl] at comes
    have unit := insert_unit ((s.takeFront o).writeSettings p (settingsNamed i n c)) p
    refine ⟨_, comes, sameApartFrom_trans (sameApartFrom_insert _ p) (sameApartFrom_send _ p _), ?_, ?_, ?_, ?_, ?_⟩
    · exact insert_ctx _ p p
    · simp [State.line, unit, State.identifyingUnit]
    · simp [State.line, unit, State.identifyingUnit]
    · rw [answer_unit, unit]; rfl
    · simp [answer_eq, code]
  · have goes := carried hl ht (.inl hn)
    rw [configured_goes (s := s.takeFront o) ho (noService hi), takeFront_line] at goes
    refine ⟨fun ha => ?_, fun ha => ?_⟩
    · have awaited : (((s.takeFront o).writeSettings p (settingsNamed i n c)).line p).awaited = true := ha
      rw [goes, if_pos ha, stopWork_of_sent (s := (s.takeFront o).writeSettings p _) hu, awaited, if_pos rfl]
      rfl
    · have gone := goOff_goneOff ((s.takeFront o).writeSettings p (settingsNamed i n c)) p
      obtain ⟨x, unit⟩ := gone.unit
      rw [ha, if_neg (by decide)] at goes
      refine ⟨_, goes, ?_⟩
      simp only [State.line, answer_unit, answer_ctx, answer_working, unit, gone.ctx, gone.working]
      refine ⟨rfl, trivial, rfl, rfl, rfl, rfl, rfl, rfl, trivial, rfl, ?_⟩
      rw [answer_eq, gone.link, code]
      rfl

end Sys2Proof.Machine

namespace Sys2Proof.Machine

/-! ## A removal takes the position down (R19, R101, R102) -/

/-- Presence gone, and its count with it (R19). -/
def LineUnit.absent (l : LineUnit) : LineUnit := { l with present := false, debounce := none }

/-- A teardown short of the call's end: the position emptied, its request withdrawn and its channel given back. -/
def State.vacated (s : State) (p : Pos) : State :=
  (((((s.dropUnsent p).contactOff p .unpowered).modUnit p Position.emptied).raise p .removed).withdraw p).release p

theorem teardown_eq (s : State) (p : Pos) :
    s.teardown p = if (s.line p).state = .inCall then (s.vacated p).closeCall p .removed none
      else (s.vacated p).clearField p := rfl

section
variable {s : State} {p : Pos}

/-- A position taken down, its call apart. -/
structure Vacates (p : Pos) (s t : State) : Prop where
  unit : ∃ r, t.unit p = { (s.unit p).emptied with
    line := { (s.unit p).emptied.line with contact := .unpowered }, reader := r, flags := (s.unit p).flags ||| 0x002#9 }
  ctx : ∃ f, t.ctx p = { s.ctx p with field := f } ∧ (f = none ∨ f = (s.ctx p).field)
  ctx_sent : (s.line p).unsent = false → t.ctx p = s.ctx p
  linkFlags : t.link.flags = s.link.flags
  replies : t.link.outbound.filter Message.isReply = s.link.outbound.filter Message.isReply
  records : t.retained.records = s.retained.records
  doubts : t.retained.doubts = s.retained.doubts
  seqCounter : t.retained.seqCounter = s.retained.seqCounter
  creationCounter : t.retained.creationCounter = s.retained.creationCounter
  waiting : ∀ r ∈ t.arbiter.waiting, r.position ≠ p
  held : ∀ x ∈ t.arbiter.held, x.position ≠ p

theorem dropUnsent_field (h : (s.line p).unsent = true → s.holds p = true → ∀ r ∈ s.arbiter.waiting, r.position ≠ p) :
    (s.dropUnsent p).ctx p = { s.ctx p with field := if (s.line p).unsent then none else (s.ctx p).field } := by
  unfold State.dropUnsent
  split
  · next hu =>
    have back := release_givesBack (s := (s.endOrder p).clearField p) (p := p) (h hu)
    rw [back.ctx]
    exact ctx_modCtx _ p _
  · rfl

theorem vacated_vacates (h : (s.line p).unsent = true → s.holds p = true → ∀ r ∈ s.arbiter.waiting, r.position ≠ p) :
    Vacates p s (s.vacated p) := by
  let m := (((s.dropUnsent p).contactOff p .unpowered).modUnit p Position.emptied).raise p .removed
  have dropped := dropUnsent_stops h
  have back := release_givesBack (s := m.withdraw p) (p := p) fun _ => withdraw_not_waits m p
  obtain ⟨o, unit⟩ := dropped.unit
  have field := dropUnsent_field h
  have ctx : (s.vacated p).ctx p = (s.dropUnsent p).ctx p := by
    refine back.ctx.trans ?_
    simp [m]
  have link : (s.vacated p).link = m.link := grants_link back.apart
  have retained : m.retained = (s.dropUnsent p).retained := by simp [m]
  exact {
    unit := by
      have same : (s.vacated p).unit p = m.unit p := back.unit
      rw [same, unit_raise, unit_modUnit, unit_contactOff, State.line, unit]
      exact ⟨_, rfl⟩
    ctx := ⟨_, ctx.trans field, by split <;> simp⟩
    ctx_sent := fun hu => by rw [ctx, field, hu]; rfl
    linkFlags := by rw [link]; simp [m, grants_link dropped.apart]
    replies := by rw [link]; simp [m, grants_link dropped.apart]
    records := (grants_records back.apart).trans (by rw [withdraw_retained, retained]; exact grants_records dropped.apart)
    doubts := (grants_doubts back.apart).trans (by rw [withdraw_retained, retained]; exact grants_doubts dropped.apart)
    seqCounter := (grants_seqCounter back.apart).trans (by
      rw [withdraw_retained, retained]; exact grants_seqCounter dropped.apart)
    creationCounter := (grants_creationCounter back.apart).trans (by
      rw [withdraw_retained, retained]; exact grants_creationCounter dropped.apart)
    waiting := fun r hr => withdraw_not_waits m p r (back.waiting r hr)
    held := back.held }


/-- The call of a position taken down is the call it had, where no BURN of it was dropped unsent. -/
theorem vacated_sameCall (h : (s.line p).unsent = true → s.holds p = true → ∀ r ∈ s.arbiter.waiting, r.position ≠ p)
    (hf : (s.line p).unsent = true → ∀ f, (s.ctx p).field = some f → f.kind = .restage) :
    SameCall p s (s.vacated p) := by
  have v := vacated_vacates h
  obtain ⟨r, unit⟩ := v.unit
  obtain ⟨f, ctx, hx⟩ := v.ctx
  have tear : (s.vacated p).retained.tearMark p = s.retained.tearMark p ∧
      (s.vacated p).retained.tearDoubts p = s.retained.tearDoubts p ∧
      (s.vacated p).retained.tearCounter p = s.retained.tearCounter p := by
    cases hu : (s.line p).unsent
    · exact tear_congr (v.ctx_sent hu) v.doubts v.creationCounter
    · have hr := hf hu
      obtain ⟨m1, d1, c1⟩ := tear_of_no_burn (s := s) hr
      obtain ⟨m2, d2, c2⟩ := tear_of_no_burn (s := s.vacated p) (p := p) (by
        rw [ctx]
        rcases hx with rfl | rfl
        · simp
        · exact hr)
      rw [m1, d1, c1, m2, d2, c2, ctx, v.doubts, v.creationCounter]
      exact ⟨rfl, rfl, rfl⟩
  obtain ⟨mark, doubts, counter⟩ := tear
  exact {
    ctx := ⟨f, ctx⟩
    work := by rw [unit]; rfl
    closes := by rw [unit]; rfl
    tearMark := mark
    tearDoubts := doubts
    tearCounter := counter
    records := v.records
    seqCounter := v.seqCounter
    linkFlags := v.linkFlags
    replies := v.replies }

/-! ## What a REMOVAL runs (R19, R34) -/

theorem dueFirst_nothing (hc : (s.ctx p).completionDue = false)
    (hn : (s.unit p).wait = none ∨ (s.line p).awaited = true) : s.dueFirst p = (s, none) := by
  simp only [State.dueFirst, completeIfDue_of_not hc]
  rcases hn with hw | ha
  · rw [hw]
  · have act : s.mayAct p = false := by simp [State.mayAct, ha]
    cases hw : (s.unit p).wait with
    | none => rfl
    | some x => cases x <;> simp [act]

theorem dueFirst_reset {tag : Byte} (hc : (s.ctx p).completionDue = false) (hw : (s.unit p).wait = some (.reset tag))
    (ha : s.mayAct p = true) : s.dueFirst p = (s.resetAct p, some (0x33#8, tag)) := by
  simp only [State.dueFirst, completeIfDue_of_not hc, hw, ha, if_true]

theorem dueFirst_configure {tag : Byte} (hc : (s.ctx p).completionDue = false)
    (hw : (s.unit p).wait = some (.configure tag)) (ha : s.mayAct p = true) :
    s.dueFirst p = (s.configureAct p, some (0x12#8, tag)) := by
  simp only [State.dueFirst, completeIfDue_of_not hc, hw, ha, if_true]

theorem removed_noCard (h : (s.line p).state.hasCard = false) : s.removed p = s.modLine p LineUnit.absent := by
  unfold State.removed
  dsimp only
  rw [line_modLine]
  exact if_neg (by simp [h])

theorem removed_card (h : (s.line p).state.hasCard = true) : s.removed p = (s.modLine p LineUnit.absent).teardown p := by
  unfold State.removed
  dsimp only
  rw [line_modLine]
  exact if_pos h

theorem removed_inCall (h : (s.line p).state = .inCall) :
    s.removed p = ((s.modLine p LineUnit.absent).vacated p).closeCall p .removed none := by
  rw [removed_card (by rw [h]; rfl), teardown_eq, line_modLine]
  exact if_pos h

theorem removed_noCall (h : (s.line p).state.hasCard = true) (hc : (s.line p).state ≠ .inCall) :
    s.removed p = ((s.modLine p LineUnit.absent).vacated p).clearField p := by
  rw [removed_card h, teardown_eq, line_modLine]
  exact if_neg hc

/-- With no RESTART pending, nothing follows the removal and the reply of what acted first. -/
theorem doRemoval_eq {t : State} {x : Option (Byte × Byte)} (hp : (s.line p).present = true)
    (hd : (s.line p).debounce.isSome = true) (hr : s.restart = .none) (hf : s.dueFirst p = (t, x)) :
    exec (.removal p) s = .next ((t.removed p).replyIf p x) := by
  have kept : ((t.removed p).replyIf p x).kept = s.kept := by
    have due := kept_dueFirst s p
    rw [hf] at due
    simpa using due
  rw [exec_removal, State.doRemoval]
  dsimp only
  rw [if_pos ⟨hp, hd⟩, hf]
  dsimp only
  rw [restartSettle_of_none ((kept_restart kept).2 hr)]


theorem SameCall.trans {t u : State} (h : SameCall p s t) (h' : SameCall p t u) : SameCall p s u := by
  obtain ⟨f, ctx⟩ := h.ctx
  obtain ⟨g, ctx'⟩ := h'.ctx
  exact {
    ctx := ⟨g, by rw [ctx', ctx]⟩
    work := h'.work.trans h.work
    closes := h'.closes.trans h.closes
    tearMark := h'.tearMark.trans h.tearMark
    tearDoubts := h'.tearDoubts.trans h.tearDoubts
    tearCounter := h'.tearCounter.trans h.tearCounter
    records := h'.records.trans h.records
    seqCounter := h'.seqCounter.trans h.seqCounter
    linkFlags := h'.linkFlags.trans h.linkFlags
    replies := h'.replies.trans h.replies }

theorem sameCall_modLine (s : State) (p : Pos) (f : LineUnit → LineUnit) : SameCall p s (s.modLine p f) := by
  refine ⟨⟨_, rfl⟩, ?_, ?_, rfl, rfl, rfl, rfl, rfl, rfl, rfl⟩ <;> rw [unit_modLine]

/-- A removal that ends a call (R90): the position as it is left, and the call. -/
structure RemovesCall (p : Pos) (s t : State) : Prop where
  unit : ∃ r f, t.unit p = { (s.unit p).emptied with
      line := { (s.unit p).emptied.line with contact := .unpowered, present := false, debounce := none }
      reader := r, work := none, closes := [], flags := f } ∧ f &&& 0x042#9 = 0x042#9
  ended : CallEnded p .removed none s t

theorem removed_removesCall (hs : (s.line p).state = .inCall) (hn : (s.ctx p).state ≠ .noCall)
    (h : (s.line p).unsent = true → s.holds p = true → ∀ r ∈ s.arbiter.waiting, r.position ≠ p)
    (hf : (s.line p).unsent = true → ∀ f, (s.ctx p).field = some f → f.kind = .restage) :
    RemovesCall p s (s.removed p) := by
  have v := vacated_vacates (s := s.modLine p LineUnit.absent) (p := p) (by rw [line_modLine]; exact h)
  have same := (sameCall_modLine s p LineUnit.absent).trans (vacated_sameCall (s := s.modLine p LineUnit.absent)
    (by rw [line_modLine]; exact h) (by rw [line_modLine]; exact hf))
  obtain ⟨r, unit⟩ := v.unit
  obtain ⟨g, ctx⟩ := same.ctx
  rw [removed_inCall hs]
  have closed := closeCall_closed (s := (s.modLine p LineUnit.absent).vacated p) (p := p) (by rw [ctx]; exact hn)
    .removed none
  obtain ⟨f, closedUnit, raised⟩ := closed.unit
  refine ⟨⟨r, (s.unit p).flags ||| 0x002#9 ||| f, ?_, ?_⟩, closed.ended same⟩
  · rw [closedUnit, unit, unit_modLine]
    rfl
  · have card : ((s.unit p).flags ||| 0x002#9 ||| f) &&& 0x002#9 = 0x002#9 := by
      rw [BitVec.or_assoc, BitVec.or_comm 0x002#9 f, ← BitVec.or_assoc]
      exact or_and_of_and_eq _ (by decide)
    have call : ((s.unit p).flags ||| 0x002#9 ||| f) &&& 0x040#9 = 0x040#9 := or_and_of_and_eq _ (raised rfl)
    have both : ((s.unit p).flags ||| 0x002#9 ||| f) &&& (0x002#9 ||| 0x040#9) = 0x002#9 ||| 0x040#9 := by
      rw [BitVec.and_or_distrib_left, card, call]
    exact both

theorem LineUnit.unsent_of_writeInProgress {l : LineUnit} (h : l.writeInProgress = true) : l.unsent = false := by
  unfold LineUnit.writeInProgress at h
  unfold LineUnit.unsent
  cases ho : l.order with
  | none => rfl
  | some o =>
    rw [ho] at h
    cases hp : o.purpose <;> simp_all

end

/-- Settles O45: the write in progress leaves nothing unsent, so its field is torn with the close REMOVED. -/
theorem removalTearsBurn : Obligations.RemovalTearsBurn := by
  unfold Obligations.RemovalTearsBurn
  intro s p f hp hd hr hs hn hq hw hf hk c n room
  have due : (s.ctx p).completionDue = false := by simp [Context.completionDue, hq]
  have sent := LineUnit.unsent_of_writeInProgress hw
  have run := doRemoval_eq hp hd hr (dueFirst_nothing due (.inr (LineUnit.awaited_of_writeInProgress hw)))
  have removed := removed_removesCall hs hn (fun h => by rw [sent] at h; cases h) (fun h => by rw [sent] at h; cases h)
  obtain ⟨r, g, unit, flags⟩ := removed.unit
  obtain ⟨b, ctx⟩ := removed.ended.ctx
  have field : (s.retained.ctx p).field = some f := hf
  have ended := removed.ended
  refine ⟨_, s.closedRecord p .removed none, run, ?_, ?_, ?_, ?_, ?_, ?_, ended.records, rfl, rfl, rfl, rfl, rfl, rfl,
    rfl, ?_, rfl, cutFigures_closedRecord s p _ _, ended.replies, ended.closes, ended.work, ?_, ?_, ended.linkFlags,
    fun tag hw => ?_⟩
  · rw [State.replyIf, State.line, unit]; rfl
  · rw [State.replyIf, ctx]
  · rw [State.replyIf, ctx]
  · rw [State.replyIf, ctx]; rfl
  · rw [State.replyIf, ended.doubts, Retained.tearDoubts, field]
    simp only [hk, true_and]
    rfl
  · rw [State.replyIf, ended.creationCounter, Retained.tearCounter, field]
    simp only [hk, true_and]
    rfl
  · simp only [State.closedRecord, Retained.tearMark, field, hk]
    rfl
  · rw [State.replyIf, unit]; rfl
  · rw [State.replyIf, unit]; exact flags
  · have waits : ((s.removed p).unit p).wait = some (.reset tag) := by rw [unit]; exact hw
    have empty : ((s.removed p).line p).state = .empty := by rw [State.line, unit]; rfl
    have free : ((s.removed p).line p).awaited = false := by rw [State.line, unit]; rfl
    have act : (s.removed p).mayAct p = true := mayAct_of_not_awaited free (by rw [empty]; decide)
    have runs := (exec_resetPositionAct p (s.removed p)).trans (congrArg Host.Outcome.next (doResetPositionAct_eq waits))
    rw [act, if_pos rfl, resetAct_empty empty] at runs
    refine ⟨_, runs, ?_, ?_, rfl, rfl⟩
    · rw [State.line, answerAt_unit, unit_modUnit]
      exact empty
    · rw [answerAt_unit, unit_modUnit]

/-! ## A removal by the state it finds (R19, R34) -/

section
variable {s : State} {p : Pos}

theorem hasCard_of_seated (h : (s.line p).state = .identifying ∨ (s.line p).state = .rejected ∨ (s.line p).state = .ready ∨
    (s.line p).state = .inCall ∨ (s.line p).state = .faulted) : (s.line p).state.hasCard = true := by
  rcases h with h | h | h | h | h <;> rw [h] <;> rfl

/-- A removal where a card is seated, its call apart (R19, R101, R102). -/
structure RemovesCard (p : Pos) (s t : State) : Prop where
  unit : ∃ r w cl f, t.unit p = { (s.unit p).emptied with
      line := { (s.unit p).emptied.line with contact := .unpowered, present := false, debounce := none }
      reader := r, work := w, closes := cl, flags := f } ∧ f &&& 0x002#9 = 0x002#9
  waiting : ∀ r ∈ t.arbiter.waiting, r.position ≠ p
  held : ∀ x ∈ t.arbiter.held, x.position ≠ p

/-- A removal where a card is seated and no call is open there. -/
structure RemovesIdle (p : Pos) (s t : State) : Prop where
  ctx : t.ctx p = { s.ctx p with field := none }
  records : t.retained.records = s.retained.records
  doubts : t.retained.doubts = s.retained.doubts
  replies : t.link.outbound.filter Message.isReply = s.link.outbound.filter Message.isReply

theorem closeCall_arbiter (s : State) (p : Pos) (cause : EndCause) (failing : Option Location) :
    (s.closeCall p cause failing).arbiter = s.arbiter := by
  by_cases h : (s.ctx p).state = .noCall
  · rw [closeCall_of_noCall h]
  · exact (closeCall_closed h cause failing).arbiter

theorem removed_removesCard (hs : (s.line p).state.hasCard = true)
    (h : (s.line p).unsent = true → s.holds p = true → ∀ r ∈ s.arbiter.waiting, r.position ≠ p) :
    RemovesCard p s (s.removed p) := by
  have v := vacated_vacates (s := s.modLine p LineUnit.absent) (p := p) (by rw [line_modLine]; exact h)
  obtain ⟨r, unit⟩ := v.unit
  rw [unit_modLine] at unit
  by_cases hc : (s.line p).state = .inCall
  · rw [removed_inCall hc]
    obtain ⟨-, w, cl, f, closed⟩ := closeCall_unit ((s.modLine p LineUnit.absent).vacated p) p .removed none
    refine ⟨⟨r, w, cl, (s.unit p).flags ||| 0x002#9 ||| f, ?_, ?_⟩, ?_, ?_⟩
    · rw [closed, unit]; rfl
    · rw [BitVec.or_assoc, BitVec.or_comm 0x002#9 f, ← BitVec.or_assoc]
      exact or_and_of_and_eq _ (by decide)
    · rw [closeCall_arbiter]; exact v.waiting
    · rw [closeCall_arbiter]; exact v.held
  · rw [removed_noCall hs hc]
    exact ⟨⟨r, _, _, (s.unit p).flags ||| 0x002#9, unit, or_and_of_and_eq _ (by decide)⟩, v.waiting, v.held⟩

theorem removed_removesIdle (hs : (s.line p).state.hasCard = true) (hc : (s.line p).state ≠ .inCall)
    (h : (s.line p).unsent = true → s.holds p = true → ∀ r ∈ s.arbiter.waiting, r.position ≠ p) :
    RemovesIdle p s (s.removed p) := by
  have v := vacated_vacates (s := s.modLine p LineUnit.absent) (p := p) (by rw [line_modLine]; exact h)
  obtain ⟨f, ctx, -⟩ := v.ctx
  rw [removed_noCall hs hc]
  exact ⟨(ctx_modCtx _ p _).trans (by rw [ctx]; rfl), v.records, v.doubts, v.replies⟩

/-- An identification that has just begun has no order unsent. -/
theorem Identifies.sent {t : State} (h : Identifies p s t) (hr : s.restart = .none) : (t.line p).unsent = false := by
  obtain ⟨-, o, ho, -, begun, -⟩ := h.begun hr
  simp [LineUnit.unsent, ho, begun]

theorem answerAt_replies (s : State) (p : Pos) (x y : Byte) (b : ReplyBody) :
    (s.answerAt p x y b).link.outbound.filter Message.isReply =
      s.link.outbound.filter Message.isReply ++ [.reply x y (posByte p) b] := by
  simp [State.answerAt, State.send, State.modLink, Message.isReply]

/-- The replies of the charges of a call whose head is in work (R63, R66). -/
theorem cutReplies_in_work {x : Charge} {behind : List Charge} {w : Work} (hq : (s.ctx p).queue = x :: behind)
    (hw : (s.unit p).work = some w) (o : ChargeOutcome) (failing : Option Location) :
    s.cutReplies p o failing =
      let a := w.credit + x.steps * w.weight
      let covered := min x.pulses a
      let settled (x : Charge) (n : Nat) : Message := .reply 0x31#8 x.tag (posByte p) (.charge {
        outcome := o, covered := n, uncovered := x.pulses - n, steps := x.steps, balance := (s.ctx p).balance
        credit := a - covered, failing := failing })
      settled x covered :: behind.map fun x => settled x 0 := by
  simp only [State.cutReplies, State.cutAvailable, State.cutCovered, hq, hw]

end

/-- Settles O44: first what nothing holds up, then the removal by the state that is left. -/
theorem removalEmptiesPosition : Obligations.RemovalEmptiesPosition := by
  unfold Obligations.RemovalEmptiesPosition
  intro s p hp hd due hr lawful seated nothingActs
  have runs {t : State} {x : Option (Byte × Byte)} := doRemoval_eq (s := s) (p := p) (t := t) (x := x) hp hd hr
  refine ⟨fun hn hs => ?_, fun tag hw ha hs hc => ?_, fun tag hw ha hs => ?_, fun tag hw ha hs => ?_, fun hn hs => ?_⟩
  · have noCard : (s.line p).state.hasCard = false := by rcases hs with h | h | h <;> rw [h] <;> rfl
    rw [runs (dueFirst_nothing due hn), removed_noCard noCard]
    rfl
  · have ht : (s.line p).state ≠ .testing := by rcases hs with h | h | h | h | h <;> rw [h] <;> decide
    have ho : (s.line p).state ≠ .off := by rcases hs with h | h | h | h | h <;> rw [h] <;> decide
    have run := runs (dueFirst_configure due hw (mayAct_of_not_awaited ha ht))
    have gone := goOff_goneOff (s.clearWait p) p
    obtain ⟨r, unit⟩ := gone.unit
    rw [configureAct_goes ho, removed_noCard (by rw [State.line, unit]; rfl)] at run
    rw [clearWait_unit] at unit
    refine ⟨_, run, ?_⟩
    simp only [State.replyIf, State.line, answerAt_unit, unit_modLine, unit]
    exact ⟨rfl, rfl, rfl, rfl, rfl, rfl, gone.records, by
      exact congrArg (fun l : Link => l.outbound ++ [Message.reply 0x12#8 tag (posByte p) .ok]) gone.link⟩
  · have ht : (s.line p).state ≠ .testing := by rcases hs with h | h <;> rw [h] <;> decide
    have run := runs (dueFirst_reset due hw (mayAct_of_not_awaited ha ht))
    obtain ⟨l, unit, state, retained, link⟩ : ∃ l, (s.resetAct p).unit p = { s.unit p with line := l, wait := none } ∧
        l.state = (s.line p).state ∧ (s.resetAct p).retained = s.retained ∧ (s.resetAct p).link = s.link := by
      rcases hs with h | h
      · rw [resetAct_off h]
        exact ⟨_, clearWait_unit, rfl, rfl, rfl⟩
      · rw [resetAct_empty h]
        exact ⟨_, unit_modUnit s p _, rfl, rfl, rfl⟩
    have noCard : ((s.resetAct p).line p).state.hasCard = false := by
      rw [State.line, unit, state]
      rcases hs with h | h <;> rw [h] <;> rfl
    rw [removed_noCard noCard] at run
    refine ⟨_, run, ?_⟩
    simp only [State.replyIf, State.line, answerAt_unit, unit_modLine, unit]
    refine ⟨state, rfl, trivial, retained, ?_⟩
    exact congrArg (fun l : Link => l.outbound ++ [Message.reply 0x33#8 tag (posByte p) .ok]) link
  · have ht : (s.line p).state ≠ .testing := by rcases hs with h | h | h | h | h <;> rw [h] <;> decide
    have he : (s.line p).state ≠ .empty := by rcases hs with h | h | h | h | h <;> rw [h] <;> decide
    have ho : (s.line p).state ≠ .off := by rcases hs with h | h | h | h | h <;> rw [h] <;> decide
    have run := runs (dueFirst_reset due hw (mayAct_of_not_awaited ha ht))
    have begun := resetAct_identifies ho he ht
    have sent := begun.sent hr
    have card : ((s.resetAct p).line p).state.hasCard = true := by rw [begun.state]; rfl
    have gone := removed_removesCard card (fun h => by rw [sent] at h; cases h)
    have idle := removed_removesIdle card (by rw [begun.state]; decide) (fun h => by rw [sent] at h; cases h)
    obtain ⟨r, w, cl, f, unit, flags⟩ := gone.unit
    refine ⟨_, run, ?_⟩
    simp only [State.replyIf, State.line, answerAt_unit, answerAt_ctx, answerAt_retained, unit, idle.ctx, idle.records]
    refine ⟨rfl, trivial, rfl, trivial, begun.wait, rfl, flags, ?_, fun hc => ?_, fun hc hn => ?_⟩
    · simp [State.answerAt, State.send, State.modLink]
    · rw [resetAct_card ho he ht hc, beginIdentification_retained]
      rfl
    · have ended := resetAct_ends hn
      obtain ⟨b, ctx⟩ := ended.ctx
      have replies := idle.replies
      rw [resetAct_inCall hc] at replies
      rw [resetAct_inCall hc, beginIdentification_ctx, beginIdentification_retained, ctx]
      refine ⟨rfl, rfl, s.closedRecord p .positionReset none, ended.records, rfl, rfl, rfl,
        cutFigures_closedRecord s p _ _, ?_⟩
      rw [beginIdentification_link, ended.replies] at replies
      simp only [answerAt_replies, replies]
      rfl
  · have hh : (s.line p).unsent = true → s.holds p = true → ∀ r ∈ s.arbiter.waiting, r.position ≠ p :=
      fun _ => lawful_holds_not_waits lawful
    have run := runs (dueFirst_nothing due hn)
    have card := hasCard_of_seated hs
    have gone := removed_removesCard card hh
    obtain ⟨r, w, cl, f, unit, flags⟩ := gone.unit
    have kept := kept_removed s p
    refine ⟨_, run, ?_⟩
    simp only [State.replyIf, State.line, unit]
    refine ⟨rfl, rfl, trivial, trivial, rfl, rfl, rfl, rfl, rfl, rfl, rfl, rfl, flags, kept_working kept, kept_received kept,
      gone.waiting, gone.held, fun hc => ?_, fun hc hn hf => ?_⟩
    · have idle := removed_removesIdle card hc hh
      exact ⟨idle.records, idle.doubts⟩
    · have removed := removed_removesCall hc hn hh fun _ => hf
      have ended := removed.ended
      obtain ⟨r', f', unit', flags'⟩ := removed.unit
      obtain rfl : w = none := (congrArg Position.work unit).symm.trans ended.work
      obtain rfl : cl = [] := (congrArg Position.closes unit).symm.trans ended.closes
      obtain rfl : f = f' := (congrArg Position.flags unit).symm.trans (congrArg Position.flags unit')
      obtain ⟨b, ctx⟩ := ended.ctx
      obtain ⟨mark, doubts, -⟩ := tear_of_no_burn hf
      obtain ⟨forfeited, empty, uncovered, covered, -⟩ := cutFigures_closedRecord s p .removed none
      refine ⟨s.closedRecord p .removed none, ended.records, rfl, rfl, rfl, rfl, rfl, rfl, rfl, mark, rfl,
        ended.doubts.trans doubts, ?_, ?_, ?_, rfl, rfl, flags', ended.linkFlags, fun hq => ?_,
        fun x behind w hq hw => ?_⟩
      · rw [ctx]
      · rw [ctx]
      · rw [ctx]; rfl
      · obtain ⟨cov, unc⟩ := empty hq
        refine ⟨cov, unc, ?_, ?_⟩
        · rw [forfeited, cutAvailable_of_nil hq, cutCovered_of_nil hq]
          rfl
        · have noReplies : s.cutReplies p .removed none = [] := by simp only [State.cutReplies, hq]
          rw [ended.replies, show EndCause.removed.outcome = .removed from rfl, noReplies, List.append_nil]
          rfl
      · have hne : (s.ctx p).queue ≠ [] := by rw [hq]; simp
        have available : s.cutAvailable p = w.credit + x.steps * w.weight := by simp only [State.cutAvailable, hq, hw]
        have cut : s.cutCovered p = min x.pulses (w.credit + x.steps * w.weight) := by
          simp only [State.cutCovered, available, hq, hw]
        rw [cut] at covered uncovered forfeited
        rw [available] at forfeited
        refine ⟨covered hne (by rw [hw]; rfl), ?_, forfeited, ?_⟩
        · rw [uncovered hne, hq, List.map_cons, List.sum_cons]
          omega
        · rw [ended.replies, cutReplies_in_work hq hw, List.append_assoc]
          rfl

end Sys2Proof.Machine

namespace Sys2Proof.Machine

/-! ## CLOSE cuts the charges that wait (R85, R86) -/

section
variable {p : Pos}

/-- A context whose charges behind the head have been cancelled one after another (R66). -/
def Context.cancelBehind (c : Context) : Context :=
  match c.queue with
  | [] => c
  | h :: behind => { c with queue := [h], uncovered := behind.foldl (fun n x => addTotal n x.pulses) c.uncovered }

theorem cancelBehind_of_queue {c : Context} {h : Charge} {behind : List Charge} (hq : c.queue = h :: behind) :
    c.cancelBehind =
      { c with queue := [h], uncovered := behind.foldl (fun n x => addTotal n x.pulses) c.uncovered } := by
  simp only [Context.cancelBehind, hq]

/-- The charges behind the head are cancelled in queue order, each with its reply (R66, R85). -/
theorem cutBehind_settles (h : Charge) (behind : List Charge) : ∀ (n : Nat) (s : State),
    (s.ctx p).queue = h :: behind → behind.length ≤ n →
    Settles p s (s.cutBehind n p) (s.ctx p).cancelBehind (s.unit p).work
      (behind.map fun x => chargeMessage p .cut none (s.ctx p) x 0) := by
  induction behind with
  | nil =>
    intro n s hq hn
    have run : s.cutBehind n p = s := by
      cases n with
      | zero => rfl
      | succ n => simp only [State.cutBehind, hq]
    have none : (s.ctx p).cancelBehind = s.ctx p := by
      rw [cancelBehind_of_queue hq, List.foldl_nil, ← hq]
    rw [run, none]
    exact settles_refl p s
  | cons x behind ih =>
    intro n s hq hn
    obtain ⟨n, rfl⟩ : ∃ m, n = m + 1 := ⟨n - 1, by simp only [List.length_cons] at hn; omega⟩
    have cancelled := settles_modCtx p s Context.cancelSecond
    have replied := cancelled.trans (settles_replyCharge p _ x .cut 0 none)
    have first := replied.trans (settles_lowCompare p _)
    obtain ⟨b, hb⟩ := first.ctx
    simp only [replyCharge_ctx, replyCharge_unit, ctx_modCtx, modCtx_unit, List.nil_append, List.append_nil] at first hb
    have second : (s.ctx p).cancelSecond =
        { s.ctx p with uncovered := addTotal (s.ctx p).uncovered x.pulses, queue := h :: behind } := by
      simp only [Context.cancelSecond, hq]
    rw [second] at hb
    have rest := ih n _ (by rw [hb]) (by simp only [List.length_cons] at hn; omega)
    rw [hb] at rest
    have all : Context.cancelBehind
        { s.ctx p with uncovered := addTotal (s.ctx p).uncovered x.pulses, queue := h :: behind, warned := b } =
        { (s.ctx p).cancelBehind with warned := b } := by simp [Context.cancelBehind, hq]
    rw [all, first.work] at rest
    have both := (first.trans rest).of_warned
    simpa [second, chargeMessage, State.cutBehind, hq] using both

theorem doClose_eq {s : State} {r : Request} (hf : s.front .callTable = some r) (hb : r.body = .close)
    (hp : posOf r.pos = some p) : s.doClose = (s.takeFront .callTable).takeClose p r := by
  simp [State.doClose, hf, hb, hp]

/-- A CLOSE has been taken: it waits at the position, and its context is CLOSING (R85). -/
def State.closingFor (s : State) (p : Pos) (tag : Byte) : State :=
  (s.modUnit p fun u => { u with closes := u.closes ++ [tag] }).modCtx p fun c => { c with state := .closing }

theorem closingFor_unit (s : State) (p : Pos) (tag : Byte) :
    (s.closingFor p tag).unit p = { s.unit p with closes := (s.unit p).closes ++ [tag] } := by
  rw [State.closingFor, modCtx_unit, unit_modUnit]

theorem closingFor_ctx (s : State) (p : Pos) (tag : Byte) :
    (s.closingFor p tag).ctx p = { s.ctx p with state := .closing } := ctx_modCtx _ p _

theorem sameApartFrom_closingFor (s : State) (p : Pos) (tag : Byte) : s.sameApartFrom p (s.closingFor p tag) :=
  sameApartFrom_trans (sameApartFrom_modUnit s p _) (sameApartFrom_modCtx _ p _)

/-- A CLOSE taken while a reset waits is held (R34, R85). -/
theorem takeClose_held {s : State} {r : Request} (hs : (s.ctx p).state = .openCall)
    (hr : (s.unit p).resetWaits = true) :
    s.takeClose p r = s.modUnit p fun u => { u with closes := u.closes ++ [r.tag] } := by
  simp [State.takeClose, hs, hr]

theorem takeClose_closing {s : State} {r : Request} (hs : (s.ctx p).state = .openCall)
    (hr : (s.unit p).resetWaits = false) :
    s.takeClose p r = ((s.closingFor p r.tag).cutBehind (s.ctx p).queue.length p).closeHead p := by
  have queue : ((s.closingFor p r.tag).ctx p).queue = (s.ctx p).queue := by rw [closingFor_ctx]
  rw [← queue]
  simp [State.takeClose, hs, hr, State.closingFor]

/-- A CLOSE with charges behind the head: the CLOSE taken and those charges cut (R85). -/
theorem closing_settles {s : State} {h : Charge} {behind : List Charge} (hq : (s.ctx p).queue = h :: behind)
    (tag : Byte) :
    Settles p (s.closingFor p tag) ((s.closingFor p tag).cutBehind (s.ctx p).queue.length p)
      { s.ctx p with
        state := .closing, queue := [h], uncovered := behind.foldl (fun n x => addTotal n x.pulses) (s.ctx p).uncovered }
      (s.unit p).work (behind.map fun x => chargeMessage p .cut none (s.ctx p) x 0) := by
  have queue : ((s.closingFor p tag).ctx p).queue = h :: behind := by rw [closingFor_ctx]; exact hq
  have cut := cutBehind_settles h behind (s.ctx p).queue.length (s.closingFor p tag) queue (by rw [hq]; simp)
  rw [cancelBehind_of_queue queue, closingFor_ctx, closingFor_unit] at cut
  exact cut

/-- Whether the head goes on is read off its order and its step. -/
theorem headFinishes_congr {s t : State} (hl : (t.unit p).line = (s.unit p).line)
    (hw : (t.unit p).work = (s.unit p).work) : t.headFinishes p = s.headFinishes p := by
  simp only [State.headFinishes, Position.restageDue, State.line, hl, hw]

theorem closeHead_goes_on {s : State} (hq : (s.ctx p).queue ≠ []) (h : s.headFinishes p = true) :
    s.closeHead p = s := by
  simp only [State.closeHead, if_neg hq, h, if_true]

theorem closeHead_cuts {s : State} (hq : (s.ctx p).queue ≠ []) (h : s.headFinishes p = false)
    (hu : (s.line p).unsent = false) : s.closeHead p = ((s.withdraw p).cutHead p .cut none).startRest p := by
  simp only [State.closeHead, if_neg hq, h, dropUnsent_of_sent (s := s.withdraw p) hu]
  rfl

/-- A head with no order in flight and no RESTAGE due does not go on (R86). -/
theorem not_headFinishes {s : State} {w : Work} (hw : (s.unit p).work = some w)
    (hst : ∀ st, w.step = some st → st.awaited = .burn) (ho : (s.line p).order = none) : s.headFinishes p = false := by
  unfold State.headFinishes Position.restageDue
  rw [hw, ho]
  cases hs : w.step with
  | none => simp [hs]
  | some st => simp [hs, hst st hs]

/-- The rest count, started or not, is all that may change (R24). -/
theorem startRest_rest (s : State) (p : Pos) : ∃ r, (s.startRest p).unit p =
    { s.unit p with line := { s.line p with rest := r } } ∧ s.sameApartFrom p (s.startRest p) ∧
      (s.startRest p).ctx p = s.ctx p ∧ (s.startRest p).link = s.link := by
  unfold State.startRest
  split
  · exact ⟨_, unit_modLine s p _, sameApartFrom_modLine s p _, rfl, rfl⟩
  · exact ⟨(s.line p).rest, rfl, sameApartFrom_refl s p, rfl, rfl⟩

/-- Pulses uncovered one charge after another (R67). -/
theorem uncovered_behind (behind : List Charge) (n : Nat) :
    behind.foldl (fun n x => addTotal n x.pulses) n =
      if behind = [] then n else min (n + (behind.map (·.pulses)).sum) 4294967295 := by
  cases behind with
  | nil => rfl
  | cons x behind =>
    rw [List.foldl_cons, foldl_addTotal, if_neg (by simp), List.map_cons, List.sum_cons]
    rfl

end

/-- Settles O30: the charges behind the head first; then the head goes on, or is cut on the state that is left. -/
theorem closeCutsWaitingCharges : Obligations.CloseCutsWaitingCharges := by
  unfold Obligations.CloseCutsWaitingCharges
  intro s r p hf hb hp c cut
  have code : r.body.typeCode = 0x32#8 := by rw [hb]; rfl
  have run := (exec_close s).trans (congrArg Host.Outcome.next (doClose_eq hf hb hp))
  refine ⟨fun hs => ?_, fun hs hr => ?_, fun h behind hs hr hq hg => ?_, fun h behind w hs hr hq hw hst ho => ?_⟩
  · have refused : (s.takeFront .callTable).takeClose p r = (s.takeFront .callTable).answer r (.refusal .state) :=
      if_pos hs
    rw [run, refused, answer_takeFront, code]
  · rw [run, takeClose_held (s := s.takeFront .callTable) hs hr]
    rfl
  · rw [takeClose_closing (s := s.takeFront .callTable) hs hr] at run
    have cutAway := closing_settles (s := s.takeFront .callTable) (p := p) hq r.tag
    obtain ⟨f, unit⟩ := cutAway.unit
    obtain ⟨b, ctx⟩ := cutAway.ctx
    rw [closingFor_unit] at unit
    rw [closeHead_goes_on (by rw [ctx]; simp) ((headFinishes_congr (by rw [unit]; rfl) (by rw [unit]; rfl)).trans hg)] at run
    refine ⟨_, run, sameApartFrom_trans (sameApartFrom_closingFor _ p _) cutAway.apart, ?_⟩
    rw [ctx, unit, cutAway.replies]
    exact ⟨rfl, rfl, rfl, rfl, rfl, uncovered_behind behind _, rfl, rfl, rfl, rfl, rfl, rfl⟩
  · rw [takeClose_closing (s := s.takeFront .callTable) hs hr] at run
    have cutAway := closing_settles (s := s.takeFront .callTable) (p := p) hq r.tag
    have begun := sameApartFrom_trans (sameApartFrom_closingFor (s.takeFront .callTable) p r.tag) cutAway.apart
    have silent := cutAway.linkFlags
    have replies := cutAway.replies
    obtain ⟨f, unit⟩ := cutAway.unit
    obtain ⟨b, ctx⟩ := cutAway.ctx
    rw [closingFor_unit] at unit
    generalize ((s.takeFront .callTable).closingFor p r.tag).cutBehind _ p = m at *
    have line : m.line p = s.line p := by rw [State.line, unit]; rfl
    have goes : m.headFinishes p = false :=
      (headFinishes_congr (by rw [unit]; rfl) (by rw [unit]; rfl)).trans (not_headFinishes hw hst ho)
    rw [closeHead_cuts (by rw [ctx]; simp) goes (by simp [line, LineUnit.unsent, ho])] at run
    have head := cutHead_in_work (s := m.withdraw p) (o := .cut) (failing := none) (h := h) (behind := []) (w := w)
      (by rw [withdraw_ctx, ctx]) (by rw [withdraw_unit, unit]; exact hw)
    obtain ⟨g, headUnit⟩ := head.unit
    obtain ⟨b', headCtx⟩ := head.ctx
    obtain ⟨x, restUnit, restApart, restCtx, restLink⟩ := startRest_rest ((m.withdraw p).cutHead p .cut none) p
    have apart := sameApartFrom_trans head.apart restApart
    obtain ⟨others, ends⟩ := apart
    obtain ⟨others', begins⟩ := begun
    rw [withdraw_ctx, ctx] at headCtx
    refine ⟨_, run, fun q hq => ⟨(others q hq).1.trans (others' q hq).1, (others q hq).2.trans (others' q hq).2⟩, ?_, ?_,
      ?_, ?_, ?_⟩
    · rw [ends]
      change (m.withdraw p).arbiter = _
      rw [State.withdraw, begins]
      rfl
    · rw [ends]
      change ({ (m.withdraw p).retained with ctxs := _ } : Retained) = _
      rw [withdraw_retained, begins]
      rfl
    · rw [ends]
      change m.working = _
      rw [begins]
      rfl
    · rw [restLink, head.linkFlags]
      exact silent
    · have lineEnd : (((m.withdraw p).cutHead p .cut none).startRest p).line p = { s.line p with rest := x } := by
        rw [State.line, restUnit, State.line, headUnit, withdraw_unit, unit]
        rfl
      rw [restCtx, headCtx, lineEnd, restUnit, headUnit, withdraw_unit, unit, restLink, head.replies]
      have settled : Context.settleHead { (s.takeFront .callTable).ctx p with
          state := .closing, queue := [h], warned := b,
          uncovered := behind.foldl (fun n x => addTotal n x.pulses) ((s.takeFront .callTable).ctx p).uncovered }
          (w.available h) = { c with
            state := .closing, warned := b, queue := [], credit := w.available h - min h.pulses (w.available h)
            covered := addTotal c.covered (min h.pulses (w.available h))
            uncovered := addTotal (behind.foldl (fun n x => addTotal n x.pulses) c.uncovered)
              (h.pulses - min h.pulses (w.available h)) } := rfl
      rw [withdraw_ctx, ctx, settled, withdraw_link, replies]
      refine ⟨rfl, rfl, rfl, rfl, rfl, rfl, ?_, rfl, rfl, rfl, rfl, rfl, rfl, ho, rfl⟩
      dsimp only
      rw [uncovered_behind]
      split
      · next hb => rw [hb]; rfl
      · simp only [addTotal, Config.pulseTotalMax, Work.available]
        omega

end Sys2Proof.Machine

namespace Sys2Proof.Machine

/-! ## A charge taken into work (R58, R61, R79) -/

section
variable {s : State} {p : Pos}

/-- The lowest stage with a free cell is the stage of the next unit step (R58). -/
theorem stepStage_lowest {d : Digits} {k : Stage} (hk : (d.get k).val < 7) (hl : ∀ j, j < k → (d.get j).val = 7) :
    stepStage d = some k := by
  have full0 (h : 0 < k) : d.d0.val = 7 := hl 0 h
  have full1 (h : 1 < k) : d.d1.val = 7 := hl 1 h
  have full2 (h : 2 < k) : d.d2.val = 7 := hl 2 h
  match k with
  | 0 => exact if_pos hk
  | 1 =>
    have free : d.d1.val < 7 := hk
    simp [stepStage, full0 (by decide), free]
  | 2 =>
    have free : d.d2.val < 7 := hk
    simp [stepStage, full0 (by decide), full1 (by decide), free]
  | 3 =>
    have free : d.d3.val < 7 := hk
    simp [stepStage, full0 (by decide), full1 (by decide), full2 (by decide), free]

/-- A charge that the credit does not cover is planned with at least one step where there is balance (R61). -/
theorem planned_ne_zero {c : Context} {h : Charge} (hw : 1 ≤ c.weight) (hc : c.credit < h.pulses) (hb : 1 ≤ c.balance) :
    (planCharge c h).planned ≠ 0 := by
  have needed : 1 ≤ stepsNeeded h.pulses c.credit c.weight := by
    rw [stepsNeeded, if_neg (by omega)]
    exact (Nat.one_le_div_iff hw).2 (by omega)
  have planned : (planCharge c h).planned = min (stepsNeeded h.pulses c.credit c.weight) c.balance := rfl
  omega

/-- The head is taken into work with a step to begin (R79). -/
theorem workQueue_begins {h : Charge} {behind : List Charge} (n : Nat) (hq : (s.ctx p).queue = h :: behind)
    (hs : (s.ctx p).state = .openCall) (hr : (s.unit p).resetWaits = false) (hw : (s.unit p).work = none)
    (hp : (planCharge (s.ctx p) h).planned ≠ 0) :
    s.workQueue (n + 1) p =
      (s.modUnit p fun u => { u with work := some (planCharge (s.ctx p) h) }).beginStep p := by
  simp [State.workQueue, hq, hs, hr, hw, hp]

/-- A step begun by the card image asks for its first write (R58). -/
theorem beginStep_asks {i : Image} {t : Step} (hi : (s.ctx p).image = some i) (ht : i.nextStep = some t) :
    s.beginStep p =
      (s.modUnit p fun u => { u with work := u.work.map fun w => { w with step := some t } }).requestWrite p := by
  simp [State.beginStep, hi, ht]

/-- A position with a charge in its queue and a step of it begun, and nothing asked for yet. -/
def State.stepBegun (s : State) (p : Pos) (x : Charge) (w : Work) : State :=
  (s.joinQueue p x).modUnit p fun u => { u with work := some w }

theorem stepBegun_unit (x : Charge) (w : Work) :
    (s.stepBegun p x w).unit p = { s.unit p with line := { s.line p with rest := none }, work := some w } := by
  rw [State.stepBegun, unit_modUnit, joinQueue_unit]

theorem stepBegun_ctx (x : Charge) (w : Work) :
    (s.stepBegun p x w).ctx p = { s.ctx p with queue := (s.ctx p).queue ++ [x] } := by
  rw [State.stepBegun, modUnit_ctx, joinQueue_ctx]

theorem sameApartFrom_stepBegun (x : Charge) (w : Work) : s.sameApartFrom p (s.stepBegun p x w) :=
  sameApartFrom_trans (sameApartFrom_joinQueue s p x) (sameApartFrom_modUnit _ p _)

/-- A charge that becomes the head and needs a step asks for the write of it (R61, R79). -/
theorem takeCharge_asks {r : Request} {n : Nat} {i : Image} {t : Step} (hs : (s.ctx p).state = .openCall)
    (hq : (s.ctx p).queue = []) (hr : (s.unit p).wait = none) (hw : (s.unit p).work = none)
    (hi : (s.ctx p).image = some i) (ht : i.nextStep = some t) (hweight : 1 ≤ (s.ctx p).weight)
    (hc : (s.ctx p).credit < n) (hb : 1 ≤ (s.ctx p).balance) :
    let x : Charge := { tag := r.tag, pulses := n, steps := 0 }
    s.takeCharge p r n =
      ((s.stepBegun p x { planCharge (s.ctx p) x with step := some t }).requestWrite p).startRest p := by
  intro x
  have ctx := joinQueue_ctx s p x
  have unit := joinQueue_unit s p x
  have queue : ((s.joinQueue p x).ctx p).queue = [x] := by rw [ctx, hq]; rfl
  have plan : planCharge ((s.joinQueue p x).ctx p) x = planCharge (s.ctx p) x := by rw [ctx]; rfl
  rw [takeCharge_joins hs (by rw [hq]; simp), workQueue_begins 3 queue (by rw [ctx]; exact hs)
    (by rw [unit]; simp [Position.resetWaits, hr]) (by rw [unit]; exact hw)
    (by rw [plan]; exact planned_ne_zero hweight hc hb), plan,
    beginStep_asks (i := i) (t := t) (by rw [modUnit_ctx, ctx]; exact hi) ht, modUnit_modUnit]
  rfl

/-- A write asked for with the contacts not POWERED: its WAKE goes first (R25, R83). -/
theorem requestWrite_wakes {r : WriteRequest} (hr : s.wanted p = some r) (hm : s.mayBegin p = true)
    (ho : (s.line p).order = none) (hw : s.waits p = false) (hh : s.holds p = false)
    (hc : (s.line p).contact ≠ .powered) : s.requestWrite p = s.beginWake p .first .wakeRequest := by
  simp [State.requestWrite, hr, hm, ho, hw, hh, hc]

end

/-- What a sent grant makes of its position (R100, R106). -/
theorem grantSent_unit (s : State) (r : WriteRequest) (t : Tally) :
    (s.grantSent r t).unit r.position = { (s.unit r.position).countSend r.requester with
      line := { s.line r.position with
        order := some (s.begunOrder r.position r.kind.order r.stage .first .write), rest := none } } := by
  simp only [State.grantSent, State.line, unit_beginOrder, unit_modUnit, countSend_line]
  rfl

theorem grantSent_ne (s : State) (r : WriteRequest) (t : Tally) {q : Pos} (h : q ≠ r.position) :
    (s.grantSent r t).unit q = s.unit q ∧ (s.grantSent r t).ctx q = s.ctx q :=
  ⟨(unit_beginOrder_ne _ h _ _ _ _).trans (unit_modUnit_ne _ h _), ctx_modCtx_ne _ h _⟩

/-- A card that gets power, written by its power. -/
theorem onCard_powerUp (x : Seated) : Seated.onCard cardPowerUp x = match x with
    | .card y => .card { y with power := if y.power = .unpowered then .asleep else y.power }
    | .other => .other := by
  cases x with
  | other => rfl
  | card y =>
    simp only [Seated.onCard, cardPowerUp]
    split <;> rfl

/-- Settles O28: the step the image gives is asked for; a channel is granted, waited for, or a WAKE goes first. -/
theorem chargeAsksForBurn : Obligations.ChargeAsksForBurn := by
  unfold Obligations.ChargeAsksForBurn
  intro s r p n i k hf hb hp hweight hs hq hwork hwait hrestart hstate horder hheld hwaits hi hlatch hk hl hcredit hbalance
    c b step work queue
  have next : i.nextStep = some step := by
    simp only [Image.nextStep, hlatch, if_true, stepStage_lowest hk hl]
    rfl
  have asks := takeCharge_asks (s := s.takeFront .callTable) (r := r) hs hq hwait hwork hi next hweight hcredit hbalance
  let x : Charge := { tag := r.tag, pulses := n.toNat, steps := 0 }
  have plan : ({ planCharge ((s.takeFront .callTable).ctx p) x with step := some step } : Work) = work := by
    have needed : stepsNeeded n.toNat c.credit c.weight = b := if_neg (Nat.not_le.2 hcredit)
    simp only [planCharge, takeFront_ctx, x, work]
    rw [needed]
  have run := (exec_charge s).trans (congrArg Host.Outcome.next ((doCharge_eq hf hb hp).trans asks))
  rw [plan] at run
  have unit := stepBegun_unit (s := s.takeFront .callTable) (p := p) x work
  have ctx := stepBegun_ctx (s := s.takeFront .callTable) (p := p) x work
  have apart := sameApartFrom_stepBegun (s := s.takeFront .callTable) (p := p) x work
  have arbiter : ((s.takeFront .callTable).stepBegun p x work).arbiter = s.arbiter := rfl
  have frame : (s.takeFront .callTable).stepBegun p x work = { s.taken .callTable with
      units := ((s.takeFront .callTable).stepBegun p x work).units
      retained := { s.retained with ctxs := ((s.takeFront .callTable).stepBegun p x work).retained.ctxs } } := rfl
  have restart : ((s.takeFront .callTable).stepBegun p x work).restart = .none := hrestart
  generalize (s.takeFront .callTable).stepBegun p x work = m at *
  obtain ⟨others, -⟩ := apart
  let asked : WriteRequest := { position := p, kind := .burn, stage := k, requester := .chargeProcessor }
  have line : m.line p = { s.line p with rest := none } := by rw [State.line, unit]; rfl
  have wanted : m.wanted p = some asked :=
    wanted_inCall (by rw [line]; exact hstate) (by rw [unit]) (rfl : work.step = some step)
  have may : m.mayBegin p = true := (mayBegin_iff m p).2 ⟨by rw [unit]; exact hwait, restart⟩
  have free : (m.line p).order = none := by rw [line]; exact horder
  have waits : m.waits p = false := not_waits (by rw [arbiter]; exact hwaits)
  have holds : m.holds p = false := not_holds (by rw [arbiter]; exact hheld)
  have queued : m.ctx p = { c with queue := queue } := by rw [ctx, takeFront_ctx, hq]; rfl
  have busy : (m.ctx p).queue ≠ [] := by rw [queued]; simp [queue]
  refine ⟨fun hc hg hfree hempty => ?_, fun hc hfull => ?_, fun hc => ?_⟩
  · have contact : (m.line p).contact = .powered := by rw [line]; exact hc
    have before : m.tallyBefore asked = some i.tally := by
      have image : (m.ctx p).image = some i := by rw [queued]; exact hi
      simp only [State.tallyBefore, asked, image, Option.map_some]
    rw [requestWrite_joins wanted may free waits holds contact,
      joinWaiting_granted (r := asked) (by rw [arbiter]; exact hg) (by rw [arbiter]; exact hfree)
        (by rw [arbiter]; exact hempty) contact before] at run
    have granted := grantSent_ctx (m.restStopped p) asked i.tally
    rw [startRest_of_order (by rw [grantSent_line]; simp)] at run
    refine ⟨_, run, granted.trans ?_, ?_, fun q hq => ?_, ?_⟩
    · rw [State.restStopped, modLine_ctx, queued]
      rfl
    · rw [grantSent_unit, restStopped_line, line, State.restStopped, unit_modLine, unit]
      rfl
    · obtain ⟨grantUnit, grantCtx⟩ := grantSent_ne (m.restStopped p) asked i.tally (q := q) hq
      exact ⟨grantUnit.trans ((unit_modLine_ne m hq _).trans (others q hq).1), grantCtx.trans (others q hq).2⟩
    · exact congrArg (fun x : State => ({ x with
        units := ((m.restStopped p).grantSent asked i.tally).units
        retained := { x.retained with ctxs := ((m.restStopped p).grantSent asked i.tally).retained.ctxs }
        arbiter := { x.arbiter with held := x.arbiter.held ++ [asked.holder] } } : State)) frame
  · have contact : (m.line p).contact = .powered := by rw [line]; exact hc
    rw [requestWrite_joins wanted may free waits holds contact,
      joinWaiting_full (by rw [arbiter]; exact hfull), startRest_of_queue (s := m.joinWaiting asked) busy] at run
    refine ⟨_, run, queued, ?_, fun q hq => ?_, ?_⟩
    · have stopped : (m.joinWaiting asked).unit p = { m.unit p with line := { m.line p with rest := none } } :=
        unit_modLine _ p _
      rw [stopped, line, unit]
      rfl
    · exact ⟨(unit_modLine_ne _ hq _).trans (others q hq).1, (others q hq).2⟩
    · exact congrArg (fun x : State => ({ x with
        units := (m.joinWaiting asked).units
        retained := { x.retained with ctxs := (m.joinWaiting asked).retained.ctxs }
        arbiter := { x.arbiter with waiting := x.arbiter.waiting ++ [asked] } } : State)) frame
  · have contact : (m.line p).contact ≠ .powered := by rw [line]; simp [hc]
    rw [requestWrite_wakes wanted may free waits holds contact, startRest_of_queue (s := m.beginWake p _ _) busy] at run
    refine ⟨_, run, queued, ?_, fun q hq => ?_, ?_⟩
    · rw [unit_beginWake, line, unit, funext onCard_powerUp]
      rfl
    · exact ⟨(unit_beginWake_ne m hq _ _).trans (others q hq).1, (others q hq).2⟩
    · have moved := congrArg (fun x : State => ({ x with
        units := (m.beginWake p .first .wakeRequest).units
        retained := { x.retained with ctxs := (m.beginWake p .first .wakeRequest).retained.ctxs } } : State)) frame
      exact moved

end Sys2Proof.Machine

namespace Sys2Proof.Machine

/-! ## The bytes of a test pattern (R168, R170) -/

theorem high_append {n : Nat} (a b : BitVec n) : (a ++ b).extractLsb' n n = a := by
  apply BitVec.eq_of_getLsbD_eq
  intro i hi
  simp [BitVec.getElem_append, hi]

theorem low_append {n : Nat} (a b : BitVec n) : (a ++ b).extractLsb' 0 n = b := by
  apply BitVec.eq_of_getLsbD_eq
  intro i hi
  simp [BitVec.getLsbD_append, hi]

theorem halfBytes_halfOf (a b : Byte) : halfBytes (halfOf a b) = [a, b] := by
  simp only [halfBytes, halfOf, high_append, low_append]

theorem quadBytes_quadOf (a b c d : Byte) : quadBytes (quadOf a b c d) = [a, b, c, d] := by
  simp only [quadBytes, quadOf, high_append, low_append, halfBytes_halfOf]
  rfl

theorem quadBytes_inj {x y : Quad} (h : quadBytes x = quadBytes y) : x = y := by
  obtain ⟨high, low⟩ := List.append_inj h rfl
  have high := halfBytes_inj high
  have low := halfBytes_inj low
  apply BitVec.eq_of_getLsbD_eq
  intro i hi
  by_cases hs : i < 16
  · have := congrArg (fun x => BitVec.getLsbD x i) low
    simpa [hs] using this
  · have := congrArg (fun x => BitVec.getLsbD x (i - 16)) high
    simpa [show i - 16 < 16 by omega, show 16 + (i - 16) = i by omega] using this

/-- Four bytes hold a pattern, and only they. -/
theorem patternOf_eq_some {bs : List Byte} {q : Quad} : patternOf bs = some q ↔ bs = quadBytes q := by
  unfold patternOf
  split
  · next a b c d =>
    rw [Option.some.injEq, ← quadBytes_quadOf]
    exact ⟨fun h => by rw [h], fun h => quadBytes_inj h⟩
  · next h =>
    refine ⟨nofun, ?_⟩
    rintro rfl
    exact absurd rfl (h _ _ _ _)

theorem complement_ne (x : Quad) : ~~~x ≠ x := by
  bv_omega

/-! ## The answer to an echo order (R164) -/

theorem readEcho_noFrame {x : PosTest} {bs : List Byte} (h : readLineFrame bs = .noFrame) :
    readEcho x bs = .ignored := by
  simp only [readEcho, h]

theorem readEcho_bad {x : PosTest} {bs : List Byte} (h : readLineFrame bs = .bad) : readEcho x bs = .corrupt := by
  simp only [readEcho, h]

/-- An echo answer that holds a pattern. -/
theorem readEcho_pattern {x : PosTest} {bs : List Byte} {q : Quad}
    (h : readLineFrame bs = .good 0x06#8 (0#8 :: quadBytes q)) : readEcho x bs = echoOther x q := by
  have pattern : patternOf (quadBytes q) = some q := patternOf_eq_some.2 rfl
  simp only [readEcho, h, pattern]
  rfl

/-- An echo answer with neither the pattern sent nor the first attempt's is corrupt. -/
theorem readEcho_other {x : PosTest} {bs content : List Byte} (h : readLineFrame bs = .good 0x06#8 content)
    (hp : content ≠ 0#8 :: quadBytes x.pattern) (he : ∀ q, x.earlier = some q → content ≠ 0#8 :: quadBytes q) :
    readEcho x bs = .corrupt := by
  cases content with
  | nil => simp only [readEcho, h]; rfl
  | cons status rest =>
    cases hr : patternOf rest with
    | none => simp only [readEcho, h, hr]; rfl
    | some q =>
      rw [patternOf_eq_some.1 hr] at h hp he
      by_cases hs : status = 0#8
      · subst hs
        rw [readEcho_pattern h, echoOther, if_neg (by rintro rfl; exact hp rfl), if_neg fun h' => he q h' rfl]
      · have pattern : patternOf (quadBytes q) = some q := patternOf_eq_some.2 rfl
        simp only [readEcho, h, pattern, hs]
        rfl

theorem readEcho_sent (x : PosTest) : readEcho x (lineFrame 0x06#8 (0#8 :: quadBytes x.pattern)) = .passed := by
  rw [readEcho_pattern (readLineFrame_lineFrame _ _ (by simp [quadBytes, halfBytes])), echoOther, if_pos rfl]

/-! ## The frames of a line test (R164) -/

section
variable {s : State} {p : Pos} {x : PosTest} {o : Order}

theorem testOrder_eq (ho : (s.line p).order = some o) (hp : o.purpose = .test) : s.testOrder p o.kind = some o := by
  simp [State.testOrder, ho, hp]

/-- An echo order of the test begins, with a pattern that differs from the one to avoid. -/
structure Echoes (p : Pos) (x : PosTest) (retry : Bool) (s t : State) : Prop where
  order : ∃ e : Order, (t.line p).order = some e ∧ e.kind = .echo ∧ e.retry = retry ∧ e.begun = true ∧ e.purpose = .test
  pattern : ∃ y : PosTest, (t.unit p).test = some y ∧ y.wasOff = x.wasOff ∧ (retry = true → y.pattern ≠ x.pattern)
  test : t.test = s.test
  state : (t.line p).state = (s.line p).state
  apart : s.sameApartFrom p t

/-- The pattern of a test frame (R164, log 8). -/
def freshPattern (n : Nat) (avoid : Option Quad) : Quad :=
  if avoid = some (Config.testPattern n) then ~~~Config.testPattern n else Config.testPattern n

theorem freshPattern_ne (n : Nat) (q : Quad) : freshPattern n (some q) ≠ q := by
  unfold freshPattern
  split
  · next h => rw [← Option.some.inj h]; exact complement_ne q
  · next h => exact fun h' => h (by rw [h'])

theorem beginTestFrame_echo_unit (s : State) (p : Pos) (a : Attempt) (avoid : Option Quad) :
    (s.beginTestFrame p .echo a avoid).unit p = { s.unit p with
      test := (s.unit p).test.map fun t => { t with pattern := freshPattern s.freeCount avoid, earlier := avoid }
      line := { s.line p with order := some (s.begunOrder p .echo 0 a .test), rest := none } } := by
  let t : PosTest → PosTest := fun t => { t with pattern := freshPattern s.freeCount avoid, earlier := avoid }
  have unit := unit_beginOrder (s.modUnit p fun u => { u with test := u.test.map t }) p .echo 0 a .test
  rw [State.line, unit_modUnit] at unit
  exact unit

theorem sameApartFrom_beginTestFrame_echo (s : State) (p : Pos) (a : Attempt) (avoid : Option Quad) :
    s.sameApartFrom p (s.beginTestFrame p .echo a avoid) := by
  let t : PosTest → PosTest := fun t => { t with pattern := freshPattern s.freeCount avoid, earlier := avoid }
  obtain ⟨others, -⟩ := sameApartFrom_trans (sameApartFrom_modUnit s p fun u => { u with test := u.test.map t })
    (sameApartFrom_beginOrder _ p .echo 0 a .test)
  exact ⟨others, rfl⟩

theorem beginTestFrame_echoes (hx : (s.unit p).test = some x) (a : Attempt) (avoid : Option Quad)
    (ha : a.isRetry = true → avoid = some x.pattern) :
    Echoes p x a.isRetry s ((s.endOrder p).beginTestFrame p .echo a avoid) := by
  have unit := beginTestFrame_echo_unit (s.endOrder p) p a avoid
  have apart := sameApartFrom_trans (sameApartFrom_modLine s p _)
    (sameApartFrom_beginTestFrame_echo (s.endOrder p) p a avoid)
  exact {
    order := by rw [State.line, unit]; exact ⟨_, rfl, rfl, rfl, rfl, rfl⟩
    pattern := by
      rw [unit, unit_endOrder, hx]
      exact ⟨_, rfl, rfl, fun h => by rw [ha h]; exact freshPattern_ne _ _⟩
    test := by rw [apart.2]
    state := by rw [State.line, unit, State.line, unit_endOrder]
    apart := apart }

end

/-! ## A position's code is fixed (R164 to R166) -/

section
variable {s : State} {p : Pos}

theorem finishTest_eq {t : TestRun} (h : s.test = some t) :
    s.finishTest = { s with
      test := if t.codes.toList.all Option.isSome then none else some t
      link := { s.link with outbound := s.link.outbound ++ if t.codes.toList.all Option.isSome then
        [.reply 0x52#8 t.tag t.pos (.test (partCode (t.codes.toList.map fun c => c.getD 0#8) t.storeGood t.retainedGood)
          (t.codes.toList.map fun c => c.getD 0#8))] else [] } } := by
  unfold State.finishTest
  rw [h]
  dsimp only
  split
  · rfl
  · rw [List.append_nil, ← h]

/-- All codes are fixed with this one when the others are. -/
theorem all_codes_set (codes : Vector (Option Byte) 32) (p : Pos) (c : Byte) :
    (codes.set p.val (some c) p.isLt).toList.all Option.isSome =
      positions.all fun q => q = p || (codes[q.val]'q.isLt).isSome := by
  rw [Bool.eq_iff_iff, List.all_eq_true, List.all_eq_true]
  constructor
  · intro h q _
    by_cases hq : q = p
    · simp [hq]
    · have mem := h ((codes.set p.val (some c) p.isLt)[q.val]'q.isLt) (Vector.mem_toList_iff.2 (Vector.getElem_mem _))
      rw [Vector.getElem_set_ne _ _ fun h' => hq (Fin.ext h'.symm)] at mem
      simp [mem]
  · intro h y hy
    obtain ⟨i, hi, rfl⟩ := Vector.mem_iff_getElem.1 (Vector.mem_toList_iff.1 hy)
    have at' := h ⟨i, hi⟩ (List.mem_finRange _)
    rw [Vector.getElem_set]
    split
    · rfl
    · next hne => simpa [Fin.ext_iff, Ne.symm hne] using at'

/-- The run with a position's code fixed (R164). -/
def TestRun.withCode (run : TestRun) (p : Pos) (c : Byte) : TestRun :=
  { run with codes := run.codes.set p.val (some c) p.isLt }

/-- Every other position has its code. -/
def TestRun.lastAt (run : TestRun) (p : Pos) : Bool :=
  positions.all fun q => q = p || (run.codes[q.val]'q.isLt).isSome

/-- The reply of a run whose codes are all fixed (R165). -/
def TestRun.reply (run : TestRun) : Message :=
  .reply 0x52#8 run.tag run.pos
    (.test (partCode (run.codes.toList.map fun c => c.getD 0#8) run.storeGood run.retainedGood)
      (run.codes.toList.map fun c => c.getD 0#8))

/-- What is left of the run, and what joins the outbound queue, once the position's code is fixed. -/
theorem finishTest_withCode {run : TestRun} {c : Byte} (h : s.test = some (run.withCode p c)) :
    s.finishTest = { s with
      test := if run.lastAt p then none else some (run.withCode p c)
      link := { s.link with
        outbound := s.link.outbound ++ if run.lastAt p then [(run.withCode p c).reply] else [] } } := by
  have all : (run.withCode p c).codes.toList.all Option.isSome = run.lastAt p := all_codes_set run.codes p c
  rw [finishTest_eq h, all]
  rfl

theorem leaveTest_stays {x : PosTest} (hx : (s.unit p).test = some x)
    (h : (s.line p).present = false ∨ x.wasOff = true) : s.leaveTest p = s.modUnit p Position.leaveTest := by
  unfold State.leaveTest
  dsimp only
  rw [State.line, unit_modUnit]
  refine if_neg ?_
  rintro ⟨empty, present⟩
  rcases h with h | h
  · have absent : (s.unit p).line.present = false := h
    simp [Position.leaveTest, absent] at present
  · simp [Position.leaveTest, hx, h] at empty

theorem leaveTest_inserts {x : PosTest} (hx : (s.unit p).test = some x) (hp : (s.line p).present = true)
    (ho : x.wasOff = false) : s.leaveTest p = (s.modUnit p Position.leaveTest).insert p := by
  unfold State.leaveTest
  dsimp only
  rw [State.line, unit_modUnit]
  refine if_pos ⟨?_, hp⟩
  simp [Position.leaveTest, hx, ho]

/-- The run of the part with the position's code fixed. -/
def State.withCode (s : State) (p : Pos) (c : Byte) : State := { s with test := s.test.map fun t => t.withCode p c }

theorem fixCode_eq (c : Byte) : s.fixCode p c = ((s.withCode p c).leaveTest p).finishTest := rfl

theorem fixCode_stays {run : TestRun} {x : PosTest} (ht : s.test = some run) (hx : (s.unit p).test = some x)
    (h : (s.line p).present = false ∨ x.wasOff = true) (c : Byte) :
    s.fixCode p c = { s with
      test := if run.lastAt p then none else some (run.withCode p c)
      units := s.units.set p.val { s.unit p with
        test := none, line := { s.line p with state := if x.wasOff then .off else .empty, order := none } } p.isLt
      link := { s.link with
        outbound := s.link.outbound ++ if run.lastAt p then [(run.withCode p c).reply] else [] } } := by
  have left : Position.leaveTest (s.unit p) = { s.unit p with
      test := none, line := { s.line p with state := if x.wasOff then .off else .empty, order := none } } := by
    rw [Position.leaveTest, hx]
    rfl
  have coded : ((s.withCode p c).modUnit p Position.leaveTest).test = some (run.withCode p c) := by
    rw [modUnit_test, State.withCode, ht]
    rfl
  rw [fixCode_eq, leaveTest_stays (s := s.withCode p c) hx h, finishTest_withCode coded, modUnit_eq_of (s := s.withCode p c) left]
  rfl

/-- With its code a position where a card is found seated is taken as inserted (R21, R166). -/
structure CodeInserts (p : Pos) (run : TestRun) (c : Byte) (s t : State) : Prop where
  test : t.test = if run.lastAt p then none else some (run.withCode p c)
  state : (t.line p).state = .identifying
  present : (t.line p).present = true
  left : (t.unit p).test = none
  flags : (t.unit p).flags = (s.unit p).flags ||| 0x001#9
  ctx : t.ctx p = s.ctx p
  outbound : t.link.outbound = s.link.outbound ++ s.noticeOf p .inserted ++
    if run.lastAt p then [(run.withCode p c).reply] else []
  others : ∀ q, q ≠ p → t.unit q = s.unit q ∧ t.ctx q = s.ctx q

theorem fixCode_inserts {run : TestRun} {x : PosTest} (ht : s.test = some run) (hx : (s.unit p).test = some x)
    (hp : (s.line p).present = true) (ho : x.wasOff = false) (c : Byte) :
    CodeInserts p run c s (s.fixCode p c) := by
  let m := (s.withCode p c).modUnit p Position.leaveTest
  have coded : (m.insert p).test = some (run.withCode p c) := by
    rw [insert_test, modUnit_test, State.withCode, ht]
    rfl
  have seat : m.unit p = (s.unit p).leaveTest := unit_modUnit (s.withCode p c) p _
  have unit := insert_unit m p
  have notice : m.noticeOf p .inserted = s.noticeOf p .inserted := noticeOf_congr (by rw [seat]; rfl) rfl rfl
  have apart := sameApartFrom_insert m p
  rw [fixCode_eq, leaveTest_inserts (s := s.withCode p c) hx hp ho, finishTest_withCode coded]
  exact {
    test := rfl
    state := by
      change ((m.insert p).unit p).line.state = _
      rw [unit]; rfl
    present := by
      change ((m.insert p).unit p).line.present = _
      rw [unit, State.identifyingUnit, seat]; exact hp
    left := by
      change ((m.insert p).unit p).test = _
      rw [unit, State.identifyingUnit, seat]; rfl
    flags := by
      change ((m.insert p).unit p).flags = _
      rw [unit, seat]; rfl
    ctx := insert_ctx m p p
    outbound := by
      change (m.insert p).link.outbound ++ _ = _
      rw [insert_outbound, notice]; rfl
    others := fun q hq => ⟨(apart.1 q hq).1.trans (unit_modUnit_ne (s.withCode p c) hq _), (apart.1 q hq).2⟩ }

end

theorem exec_loopbackReturn (p : Pos) (bs : List Byte) (s : State) :
    exec (.loopbackReturn p bs) s = .next (s.doLoopbackReturn p bs) := rfl
theorem exec_loopbackTimeout (p : Pos) (s : State) : exec (.loopbackTimeout p) s = .next (s.doLoopbackTimeout p) := rfl
theorem exec_echoAnswer (p : Pos) (bs : List Byte) (s : State) :
    exec (.echoAnswer p bs) s = .next (s.doEchoAnswer p bs) := rfl
theorem exec_echoTimeout (p : Pos) (s : State) : exec (.echoTimeout p) s = .next (s.doEchoTimeout p) := rfl

section
variable {s : State} {p : Pos} {x : PosTest} {o : Order}

theorem doLoopbackReturn_eq (ho : s.testOrder p .loopback = some o) (hx : (s.unit p).test = some x) (bs : List Byte) :
    s.doLoopbackReturn p bs =
      if loopbackGood x bs then (s.endOrder p).beginTestFrame p .echo .first none else s.fixCode p 0x01#8 := by
  simp only [State.doLoopbackReturn, ho, hx]

theorem doLoopbackTimeout_eq (ho : s.testOrder p .loopback = some o) : s.doLoopbackTimeout p = s.fixCode p 0x01#8 := by
  simp only [State.doLoopbackTimeout, ho]

theorem doEchoAnswer_ignored (ho : s.testOrder p .echo = some o) (hx : (s.unit p).test = some x) {bs : List Byte}
    (h : readEcho x bs = .ignored) : s.doEchoAnswer p bs = s := by
  simp only [State.doEchoAnswer, ho, hx, h]

theorem doEchoAnswer_passed (ho : s.testOrder p .echo = some o) (hx : (s.unit p).test = some x) {bs : List Byte}
    (h : readEcho x bs = .passed) : s.doEchoAnswer p bs = s.fixCode p 0x00#8 := by
  simp only [State.doEchoAnswer, ho, hx, h]

theorem doEchoAnswer_corrupt (ho : s.testOrder p .echo = some o) (hx : (s.unit p).test = some x) {bs : List Byte}
    (h : readEcho x bs = .corrupt) : s.doEchoAnswer p bs = s.echoFailed p o 0x03#8 := by
  simp only [State.doEchoAnswer, ho, hx, h]

theorem doEchoTimeout_eq (ho : s.testOrder p .echo = some o) (he : o.ended = true) :
    s.doEchoTimeout p = s.echoFailed p o 0x02#8 := by
  simp only [State.doEchoTimeout, ho, he, if_true]

theorem echoFailed_first (hr : o.retry = false) (hx : (s.unit p).test = some x) (code : Byte) :
    s.echoFailed p o code = (s.endOrder p).beginTestFrame p .echo (.retry o.timeout) (some x.pattern) := by
  simp [State.echoFailed, hr, hx]

theorem echoFailed_retry (hr : o.retry = true) (code : Byte) : s.echoFailed p o code = s.fixCode p code := by
  simp [State.echoFailed, hr]

end

/-- Settles O40: by the kind of the test order; every end is a code fixed or an echo order begun. -/
theorem lineTestCodes : Obligations.LineTestCodes := by
  unfold Obligations.LineTestCodes
  intro s p run x o ht hx ho hpurpose coded echoes
  have codes {c : Byte} {i : Instr} (h : exec i s = .next (s.fixCode p c)) : coded c i := by
    refine ⟨fun hl => ?_, fun hp hw => ?_⟩
    · rw [h, fixCode_stays ht hx hl]
      rfl
    · have ins := fixCode_inserts ht hx hp hw c
      exact ⟨_, h, ins.test, ins.state, ins.present, ins.left, ins.flags, ins.ctx, ins.outbound, ins.others⟩
  have sends {retry : Bool} {i : Instr} {t : State} (h : exec i s = .next t) (e : Echoes p x retry s t) :
      echoes retry i := by
    obtain ⟨y, hy, off, pattern⟩ := e.pattern
    obtain ⟨f, hf, kind, again, begun, purpose⟩ := e.order
    exact ⟨t, f, y, h, hf, kind, again, begun, purpose, hy, off, pattern, e.test, e.state, e.apart⟩
  have order := testOrder_eq ho hpurpose
  refine ⟨fun hk => ⟨?_, fun bs hbs => ?_, ?_⟩, fun hk => ⟨?_, fun he hr => ?_, fun he hr => ?_, fun bs hbs => ?_,
    fun bs q hbs => ?_⟩⟩
  · rw [hk] at order
    refine sends ?_ (beginTestFrame_echoes hx .first none nofun)
    have good : loopbackGood x (lineFrame 0x07#8 (quadBytes x.pattern)) = true :=
      decide_eq_true (readLineFrame_lineFrame _ _ (by simp [quadBytes, halfBytes]))
    rw [exec_loopbackReturn, doLoopbackReturn_eq order hx, if_pos good]
  · rw [hk] at order
    have bad : loopbackGood x bs = false := decide_eq_false hbs
    exact codes (by rw [exec_loopbackReturn, doLoopbackReturn_eq order hx, bad]; rfl)
  · rw [hk] at order
    exact codes (by rw [exec_loopbackTimeout, doLoopbackTimeout_eq order])
  · rw [hk] at order
    exact codes (by rw [exec_echoAnswer, doEchoAnswer_passed order hx (readEcho_sent x)])
  · rw [hk] at order
    refine sends ?_ (beginTestFrame_echoes hx (.retry o.timeout) (some x.pattern) fun _ => rfl)
    rw [exec_echoTimeout, doEchoTimeout_eq order he, echoFailed_first hr hx]
  · rw [hk] at order
    exact codes (by rw [exec_echoTimeout, doEchoTimeout_eq order he, echoFailed_retry hr])
  · rw [hk] at order
    have corrupt : readEcho x bs = .corrupt := by
      rcases hbs with h | ⟨content, h, hp, he⟩
      · exact readEcho_bad h
      · exact readEcho_other h hp he
    have run := (exec_echoAnswer p bs s).trans (congrArg Host.Outcome.next (doEchoAnswer_corrupt order hx corrupt))
    refine ⟨fun hr => ?_, fun hr => codes ?_⟩
    · refine sends ?_ (beginTestFrame_echoes hx (.retry o.timeout) (some x.pattern) fun _ => rfl)
      rw [run, echoFailed_first hr hx]
    · rw [run, echoFailed_retry hr]
  · rw [hk] at order
    have ignored : readEcho x bs = .ignored := by
      rcases hbs with h | ⟨he, hq, rfl⟩
      · exact readEcho_noFrame h
      · rw [readEcho_pattern (readLineFrame_lineFrame _ _ (by simp [quadBytes, halfBytes])), echoOther, if_neg hq,
          if_pos he]
    rw [exec_echoAnswer, doEchoAnswer_ignored order hx ignored]

end Sys2Proof.Machine

namespace Sys2Proof.Machine

/-! ## The answer of a card to READ TALLY and to RESTAGE (R3, R8, R12, R170) -/

theorem digitOf_digitByte (d : Digit) : digitOf (digitByte d) = some d := by
  revert d; decide

theorem readAnswer_readTally (d0 d1 d2 d3 l : Byte) :
    readAnswer .readTally [0#8, d0, d1, d2, d3, l] = (tallyOf d0 d1 d2 d3 l).map .tally := rfl

theorem readAnswer_tallyBytes (t : Tally) : readAnswer .readTally (0#8 :: tallyBytes t) = some (.tally t) := by
  have latch : stageOf (natByte t.latch.val) = some t.latch := stageOf_stageByte t.latch
  refine (readAnswer_readTally _ _ _ _ _).trans ?_
  simp only [tallyOf, digitOf_digitByte, latch, Option.map_some]

theorem readAnswer_restage_done {g : Byte} {c : Card} (h : restageRefusal g c.tally = none) :
    readAnswer .restage (cardAnswerContent (.restage g) c) = some .done := by
  simp only [cardAnswerContent, h]
  rfl

/-- A RESTAGE is refused for its stage or for its latch (R12). -/
theorem restageRefusal_cases {g : Byte} {t : Tally} {r : CardRefusal} (h : restageRefusal g t = some r) :
    r = .badStage ∨ r = .noLatch := by
  unfold restageRefusal at h
  split at h
  · exact .inl (Option.some.inj h).symm
  · split at h
    · exact .inl (Option.some.inj h).symm
    · split at h
      · cases h
      · exact .inr (Option.some.inj h).symm

theorem readAnswer_restage_refused {g : Byte} {c : Card} {r : CardRefusal} (h : restageRefusal g c.tally = some r) :
    readAnswer .restage (cardAnswerContent (.restage g) c) = some (.refused r) := by
  simp only [cardAnswerContent, h]
  rcases restageRefusal_cases h with rfl | rfl <;> rfl

section
variable {s : State} {p : Pos} {o : Order} {c : Card} {b : Bool} {n : Nat}

/-- The position as it is once the seated card has answered the order in flight: the order over, the card awake. -/
def State.answeredBy (s : State) (p : Pos) : State := (s.modCard p cardFinish).endOrder p

theorem sameApartFrom_answeredBy (s : State) (p : Pos) : s.sameApartFrom p (s.answeredBy p) :=
  sameApartFrom_trans (sameApartFrom_modCard s p _) (sameApartFrom_modLine _ p _)

theorem answeredBy_unit (hr : (s.unit p).reader = some (.card c)) : (s.answeredBy p).unit p = { s.unit p with
    line := { s.line p with order := none }, reader := some (.card (cardFinish c)) } := by
  rw [State.answeredBy, unit_endOrder, State.line, unit_modCard, hr]
  rfl

theorem cardFinish_readTally (hc : c.power = .working .readTally b n) : cardFinish c = { c with power := .awake } := by
  simp [cardFinish, hc, formDone, orderForms]

/-- The seated card's answer is worked on the state in which it has finished its order. -/
theorem doAnswerFrame_card {k : CardOrder} {a : Answer} (ho : (s.line p).order = some o) (ht : o.purpose ≠ .test)
    (hr : (s.unit p).reader = some (.card c)) (hc : c.power = .working k b n) (hn : n ≤ cardAnswerMs k)
    (hk : o.kind = cardOrderKind k) (hl : (cardAnswerContent k c).length + 1 < 256)
    (ha : readAnswer (cardOrderKind k) (cardAnswerContent k c) = some a) :
    s.doAnswerFrame p .answer = (((s.modCard p cardFinish).answered p o a).startRest p).restartSettle := by
  have order : ((s.modCard p cardFinish).line p).order = some o := by simpa [State.line] using ho
  have sent : s.cardAnswers p = some (lineFrame (cardOrderKind k).code (cardAnswerContent k c)) := by
    simp [State.cardAnswers, hr, cardAnswer, hc, hn]
  rw [doAnswerFrame_answer sent, takeAnswer_answered order ht (a := a)]
  · rw [hk]; exact readLineFrame_lineFrame _ _ hl
  · rw [hk]; exact ha

theorem doAnswerFrame_tally (ho : (s.line p).order = some o) (hk : o.kind = .readTally) (ht : o.purpose ≠ .test)
    (hr : (s.unit p).reader = some (.card c)) (hc : c.power = .working .readTally b n) (hn : n ≤ 4) :
    s.doAnswerFrame p .answer =
      (((s.modCard p cardFinish).answered p o (.tally c.tally)).startRest p).restartSettle :=
  doAnswerFrame_card ho ht hr hc hn hk (by simp [cardAnswerContent, tallyBytes, digitsBytes])
    (readAnswer_tallyBytes c.tally)

end

/-! ## What a step leaves of the lists (R111, R126, R150) -/

/-- The doubt list, the record list and the part's flags are as they were. -/
structure SameLists (s t : State) : Prop where
  doubts : t.retained.doubts = s.retained.doubts
  records : t.retained.records = s.retained.records
  flags : t.link.flags = s.link.flags

theorem SameLists.trans {s t u : State} (h : SameLists s t) (h' : SameLists t u) : SameLists s u :=
  ⟨h'.doubts.trans h.doubts, h'.records.trans h.records, h'.flags.trans h.flags⟩

theorem sameLists_of_grants {s t : State} (h : s.sameApartFromGrants t) : SameLists s t :=
  ⟨grants_doubts h, grants_records h, congrArg Link.flags (grants_link h)⟩

section
variable (s : State) (p : Pos)

theorem sameLists_modUnit (f : Position → Position) : SameLists s (s.modUnit p f) := ⟨rfl, rfl, rfl⟩
theorem sameLists_modLine (f : LineUnit → LineUnit) : SameLists s (s.modLine p f) := ⟨rfl, rfl, rfl⟩
theorem sameLists_modCtx (f : Context → Context) : SameLists s (s.modCtx p f) := ⟨rfl, rfl, rfl⟩
theorem sameLists_answeredBy : SameLists s (s.answeredBy p) := ⟨rfl, rfl, rfl⟩

theorem sameLists_startRest : SameLists s (s.startRest p) := by
  unfold State.startRest
  split <;> exact ⟨rfl, rfl, rfl⟩

theorem sameLists_raise (f : PosFlag) : SameLists s (s.raise p f) := ⟨by simp, by simp, by simp⟩

theorem sameLists_reject (c : Cause) : SameLists s (s.reject p c) :=
  ⟨by simp [State.reject], by simp [State.reject], by simp [State.reject]⟩

theorem sameLists_storeImage (h : Header) (t : Tally) : SameLists s (s.storeImage p h t) :=
  ((sameLists_modCtx s p _).trans ((sameLists_modUnit _ p _).trans (sameLists_raise _ p _))).trans
    (sameLists_startRest _ p)

theorem sameLists_faultEntry (c : FaultCause) (failing : Option Location) :
    SameLists s (s.faultEntry p c failing) := ⟨by simp, by simp, by simp⟩

theorem grantAll_sameApartFromGrants : s.sameApartFromGrants s.grantAll := grantLoop_sameApartFromGrants _ s

theorem requestWrite_sameApartFromGrants : s.sameApartFromGrants (s.requestWrite p) := by
  unfold State.requestWrite
  split
  · rfl
  · next r _ =>
    split
    · rfl
    · split
      · rfl
      · exact sameApartFromGrants_trans (t := s.joinWaiting r) rfl (grantAll_sameApartFromGrants _)

end

/-! ## A request that waits, and one that is granted (R98, R100) -/

section
variable {s : State} {p : Pos} {r : WriteRequest}

theorem wanted_position (h : s.wanted p = some r) : r.position = p := by
  unfold State.wanted at h
  dsimp only at h
  split at h
  · split at h
    · split at h
      · cases h
      · rw [← Option.some.inj h]
    · cases h
  · split at h
    · rw [← Option.some.inj h]
    · cases h
  · cases h

/-- A position whose request finds no channel free changes alone, whether it asks or not. -/
theorem requestWrite_full_ne (h : 4 ≤ s.arbiter.held.length) {q : Pos} (hq : q ≠ p) :
    (s.requestWrite p).unit q = s.unit q ∧ (s.requestWrite p).ctx q = s.ctx q := by
  unfold State.requestWrite
  split
  · exact ⟨rfl, rfl⟩
  · next r hr =>
    have at' : r.position = p := wanted_position hr
    split
    · exact ⟨rfl, rfl⟩
    · split
      · exact ⟨unit_beginWake_ne s hq _ _, rfl⟩
      · rw [joinWaiting_full h]
        exact ⟨unit_modLine_ne _ (by rw [at']; exact hq) _, rfl⟩

/-- A position being identified, free to ask for the RESTAGE of its latch (R45, R98). -/
structure AsksRestage (p : Pos) (q : Sequence) (u : Tally) (s : State) : Prop where
  state : (s.line p).state = .identifying
  seq : (s.unit p).seq = some q
  tally : q.tally = some u
  latch : u.latch ≠ 0
  may : s.mayBegin p = true
  order : (s.line p).order = none
  contact : (s.line p).contact = .powered

/-- The RESTAGE a position being identified asks for. -/
def restageOf (p : Pos) (u : Tally) : WriteRequest :=
  { position := p, kind := .restage, stage := u.latch, requester := .identificationUnit }

theorem AsksRestage.joins {q : Sequence} {u : Tally} (h : AsksRestage p q u s)
    (hw : ∀ x ∈ s.arbiter.waiting, x.position ≠ p) (hh : ∀ x ∈ s.arbiter.held, x.position ≠ p) :
    s.requestWrite p = (s.joinWaiting (restageOf p u)).grantAll :=
  requestWrite_joins (wanted_identifying h.state h.seq h.tally h.latch) h.may h.order (not_waits hw) (not_holds hh)
    h.contact

theorem AsksRestage.waits {q : Sequence} {u : Tally} (h : AsksRestage p q u s)
    (hw : ∀ x ∈ s.arbiter.waiting, x.position ≠ p) (hh : ∀ x ∈ s.arbiter.held, x.position ≠ p)
    (full : 4 ≤ s.arbiter.held.length) : s.requestWrite p = s.joinWaiting (restageOf p u) := by
  rw [h.joins hw hh, joinWaiting_full full]

theorem AsksRestage.granted {q : Sequence} {u : Tally} (h : AsksRestage p q u s) (hg : s.arbiter.granting = true)
    (free : s.arbiter.held.length < 4) (empty : s.arbiter.waiting = [])
    (hh : ∀ x ∈ s.arbiter.held, x.position ≠ p) :
    s.requestWrite p = (s.restStopped p).grantSent (restageOf p u) u := by
  have before : s.tallyBefore (restageOf p u) = some u := by
    simp only [State.tallyBefore, restageOf, h.seq, Option.bind_some, h.tally]
  rw [h.joins (by simp [empty]) hh, joinWaiting_granted hg free empty h.contact before]
  rfl

theorem joinWaiting_unit (s : State) (r : WriteRequest) :
    (s.joinWaiting r).unit r.position = { s.unit r.position with line := { s.line r.position with rest := none } } :=
  unit_modLine _ r.position _

/-- The RESTAGE of a latch waits for a channel (R98). -/
structure RestageWaits (p : Pos) (q : Sequence) (u : Tally) (s t : State) : Prop where
  rests : t.startRest p = t
  state : (t.line p).state = .identifying
  order : (t.line p).order = none
  ctx : t.ctx p = s.ctx p
  arbiter : t.arbiter = { s.arbiter with waiting := s.arbiter.waiting ++ [restageOf p u] }
  seq : (t.unit p).seq = some q

theorem AsksRestage.ends_waiting {q : Sequence} {u : Tally} (h : AsksRestage p q u s)
    (hw : ∀ x ∈ s.arbiter.waiting, x.position ≠ p) (hh : ∀ x ∈ s.arbiter.held, x.position ≠ p)
    (full : 4 ≤ s.arbiter.held.length) : RestageWaits p q u s (s.requestWrite p) := by
  have unit : (s.joinWaiting (restageOf p u)).unit p = { s.unit p with line := { s.line p with rest := none } } :=
    joinWaiting_unit s (restageOf p u)
  have state : ((s.joinWaiting (restageOf p u)).line p).state = .identifying := by
    rw [State.line, unit]; exact h.state
  rw [h.waits hw hh full]
  exact {
    rests := startRest_of_state (by rw [state]; decide) (by rw [state]; decide)
    state := state
    order := by rw [State.line, unit]; exact h.order
    ctx := rfl
    arbiter := rfl
    seq := by rw [unit]; exact h.seq }

/-- The RESTAGE of a latch is granted a channel and begun (R82, R100). -/
structure RestageGranted (p : Pos) (q : Sequence) (u : Tally) (s t : State) : Prop where
  rests : t.startRest p = t
  state : (t.line p).state = .identifying
  order : (t.line p).order = some { kind := .restage, stage := u.latch, retry := false, begun := true, ended := false,
                                    elapsed := 0, timeout := 40, purpose := .write }
  ctx : t.ctx p = { s.ctx p with field := some { kind := .restage, stage := u.latch, before := u } }
  arbiter : t.arbiter = { s.arbiter with held := s.arbiter.held ++ [{ position := p, kind := .restage, stage := u.latch }] }
  seq : (t.unit p).seq = some { q with sends := q.sends + 1 }

theorem AsksRestage.ends_granted {q : Sequence} {u : Tally} (h : AsksRestage p q u s) (hg : s.arbiter.granting = true)
    (free : s.arbiter.held.length < 4) (empty : s.arbiter.waiting = [])
    (hh : ∀ x ∈ s.arbiter.held, x.position ≠ p) : RestageGranted p q u s (s.requestWrite p) := by
  have line := grantSent_line (s.restStopped p) (restageOf p u) u
  change ((s.restStopped p).grantSent (restageOf p u) u).line p = _ at line
  have unit := grantSent_unit (s.restStopped p) (restageOf p u) u
  change ((s.restStopped p).grantSent (restageOf p u) u).unit p = _ at unit
  have stopped : (s.restStopped p).unit p = { s.unit p with line := { s.line p with rest := none } } := unit_modLine s p _
  rw [h.granted hg free empty hh]
  exact {
    rests := startRest_of_order (by rw [line]; simp)
    state := by
      rw [line]
      exact (congrArg LineUnit.state (restStopped_line s p)).trans h.state
    order := by rw [line]; rfl
    ctx := grantSent_ctx (s.restStopped p) (restageOf p u) u
    arbiter := rfl
    seq := by
      rw [unit]
      change (Position.countSend .identificationUnit ((s.restStopped p).unit p)).seq = _
      rw [stopped, Position.countSend, h.seq]
      rfl }

/-! ## What grants leave of a position (R99, R100) -/

/-- Two readings of a position that differ at most in its order, contacts, rest count, reader, sequence and working
record. -/
def Position.sameButOrder (u v : Position) : Prop :=
  ∃ c o r x q w, v = { u with line := { u.line with contact := c, order := o, rest := r }, reader := x, seq := q, work := w }

theorem sameButOrder_refl (u : Position) : u.sameButOrder u := ⟨_, _, _, _, _, _, rfl⟩

theorem sameButOrder_trans {u v w : Position} (h : u.sameButOrder v) (h' : v.sameButOrder w) : u.sameButOrder w := by
  obtain ⟨_, _, _, _, _, _, rfl⟩ := h
  obtain ⟨_, _, _, _, _, _, rfl⟩ := h'
  exact ⟨_, _, _, _, _, _, rfl⟩

theorem countSend_sameButOrder (r : Requester) (u : Position) : u.sameButOrder (u.countSend r) := by
  cases r <;> exact ⟨_, _, _, _, _, _, rfl⟩

theorem grantTo_sameButOrder (s : State) (r : WriteRequest) (q : Pos) : (s.unit q).sameButOrder ((s.grantTo r).unit q) := by
  by_cases hq : q = r.position
  · subst hq
    by_cases hc : (s.line r.position).contact = .powered
    · cases ht : s.tallyBefore r with
      | none =>
        have still : s.grantTo r = s := by simp [State.grantTo, hc, ht]
        rw [still]
        exact sameButOrder_refl _
      | some t =>
        rw [grantTo_sent hc ht, grantSent_unit]
        refine sameButOrder_trans (countSend_sameButOrder r.requester _) ?_
        rw [State.line, ← countSend_line r.requester]
        exact ⟨_, _, _, _, _, _, rfl⟩
    · rw [grantTo_given_up hc, unit_beginWake]
      exact ⟨_, _, _, _, _, _, rfl⟩
  · rw [grantTo_unit_ne hq]
    exact sameButOrder_refl _

theorem grantLoop_sameButOrder (q : Pos) (n : Nat) : ∀ s : State, (s.unit q).sameButOrder ((s.grantLoop n).unit q) := by
  induction n with
  | zero => exact fun s => sameButOrder_refl _
  | succ n ih =>
    intro s
    unfold State.grantLoop
    split
    · exact sameButOrder_refl _
    · next r rest _ =>
      split
      · exact sameButOrder_trans
          (grantTo_sameButOrder ({ s with arbiter := { s.arbiter with waiting := rest } } : State) r q) (ih _)
      · exact sameButOrder_refl _

theorem requestWrite_sameButOrder (s : State) (p : Pos) : (s.unit p).sameButOrder ((s.requestWrite p).unit p) := by
  unfold State.requestWrite
  split
  · exact sameButOrder_refl _
  · next r hr =>
    have at' : r.position = p := wanted_position hr
    split
    · exact sameButOrder_refl _
    · split
      · rw [unit_beginWake]
        exact ⟨_, _, _, _, _, _, rfl⟩
      · refine sameButOrder_trans ?_ (grantLoop_sameButOrder p _ _)
        rw [← at', joinWaiting_unit]
        exact ⟨_, _, _, _, _, _, rfl⟩

end

/-! ## A doubt resolved (R116, R119, R133) -/

section
variable {s : State} {p : Pos} {i : Identity} {t : Tally} {e : DoubtEntry}

/-- What the resolution of a doubt leaves as it was: positions, contexts, channels. -/
structure ResolvesDoubt (s t : State) : Prop where
  unit : ∀ q, t.unit q = s.unit q
  ctx : ∀ q, t.ctx q = s.ctx q
  arbiter : t.arbiter = s.arbiter
  working : t.working = s.working
  restart : t.restart = s.restart

theorem resolve_ctx (m : Retained) (q : Pos) : (m.resolve i t p).1.ctx q = m.ctx q := by
  unfold Retained.ctx
  simp only [resolve_ctxs]

theorem resolveDoubt_resolves : ResolvesDoubt s (s.resolveDoubt p i t) := by
  have ctx (q : Pos) : (s.retained.resolve i t p).1.ctx q = s.retained.ctx q := resolve_ctx s.retained q
  unfold State.resolveDoubt
  dsimp only
  split
  · refine ⟨fun q => ?_, fun q => ?_, ?_, ?_, ?_⟩
    · exact raisePart_unit _ _ q
    · exact (raisePart_ctx _ _ q).trans (ctx q)
    · exact raisePart_arbiter _ _
    · rw [raisePart_eq]
    · rw [raisePart_eq]
  · exact ⟨fun q => rfl, ctx, rfl, rfl, rfl⟩

theorem resolveDoubt_of_none (h : s.retained.pendingEntry i = none) : s.resolveDoubt p i t = s := by
  simp [State.resolveDoubt, Retained.resolve, h]

/-- A resolved entry leaves the list with its record, and those of its creation number with it (log 40). -/
theorem filter_map_resolved (l : List DoubtEntry) (e r : DoubtEntry) (h : r.creation = e.creation) :
    (l.map fun x => if x.creation = e.creation then r else x).filter (fun x => x.creation ≠ e.creation) =
      l.filter fun x => x.creation ≠ e.creation := by
  induction l with
  | nil => rfl
  | cons x l ih =>
    by_cases hx : x.creation = e.creation
    · simp only [List.map_cons, if_pos hx, List.filter_cons, h, ih]
      simp [hx]
    · simp only [List.map_cons, if_neg hx, List.filter_cons, ih]

/-- The entry resolved with its outcome and position. -/
theorem resolve_of_some {m : Retained} (h : m.pendingEntry i = some e) :
    m.resolve i t p = ({ m with doubts := m.doubts.map fun x =>
      if x.creation = e.creation then resolveEntry e t p else x } : Retained).offer (resolveEntry e t p) := by
  simp [Retained.resolve, h]

theorem offer_with_room {m : Retained} {o : DoubtOutcome} {p : Pos} (h : e.resolved = some (o, p)) (room : m.room < 64) :
    m.offer e = ({ m.store (resolutionOf e o p) with doubts := m.doubts.filter fun x => x.creation ≠ e.creation },
      true) := by
  simp [Retained.offer, h, Config.recordSlots, room]

theorem offer_without_room {m : Retained} {o : DoubtOutcome} {p : Pos} (h : e.resolved = some (o, p))
    (full : 64 ≤ m.room) : m.offer e = (m, false) := by
  simp [Retained.offer, h, Config.recordSlots, Nat.not_lt.2 full]

theorem resolveDoubt_stored (h : s.retained.pendingEntry i = some e)
    (room : s.retained.records.length + s.retained.reservations.length < 64) :
    (s.resolveDoubt p i t).retained.records = s.retained.records ++ [.resolution {
      seq := s.retained.seqCounter, id := e.id, callId := e.callId, stage := e.stage
      outcome := resolveOutcome e.stage e.before t, position := p }] ∧
    (s.resolveDoubt p i t).retained.doubts = (s.retained.doubts.filter fun x => x.creation ≠ e.creation) ∧
    (s.resolveDoubt p i t).link.flags = s.link.flags ||| 0x01#5 := by
  have resolved := (resolve_of_some (t := t) (p := p) h).trans
    (offer_with_room (e := resolveEntry e t p) (o := resolveOutcome e.stage e.before t) (p := p) rfl room)
  simp only [State.resolveDoubt, resolved, if_true, raisePart_retained, raisePart_linkFlags]
  exact ⟨rfl, filter_map_resolved s.retained.doubts e (resolveEntry e t p) rfl, rfl⟩

theorem resolveDoubt_held (h : s.retained.pendingEntry i = some e)
    (full : 64 ≤ s.retained.records.length + s.retained.reservations.length) :
    (s.resolveDoubt p i t).retained.records = s.retained.records ∧ (s.resolveDoubt p i t).link.flags = s.link.flags ∧
    (s.resolveDoubt p i t).retained.doubts =
      s.retained.doubts.map fun x => if x.creation = e.creation then resolveEntry e t p else x := by
  have resolved := (resolve_of_some (t := t) (p := p) h).trans
    (offer_without_room (e := resolveEntry e t p) (o := resolveOutcome e.stage e.before t) (p := p) rfl full)
  simp [State.resolveDoubt, resolved]

end

/-! ## The ends of a sequence (R36, R47, R48) -/

section
variable {s : State} {p : Pos} {h : Header} {t : Tally} {q : Sequence}

theorem finishSequence_eq (hq : (s.unit p).seq = some q) (hh : q.header = some h) (ht : q.tally = some t) :
    s.finishSequence p = s.checkConsumption p h t := by
  simp [State.finishSequence, hq, hh, ht]

theorem checkConsumption_above (hc : h.issued.toNat < t.consumption) :
    s.checkConsumption p h t = s.reject p .inconsistent := by
  simp [State.checkConsumption, hc]

theorem checkConsumption_equal (hc : h.issued.toNat = t.consumption) : s.checkConsumption p h t = s.reject p .emptyCard := by
  simp [State.checkConsumption, hc]

theorem checkConsumption_below (hc : t.consumption < h.issued.toNat) :
    s.checkConsumption p h t = s.storeImage p h t := by
  simp [State.checkConsumption, Nat.not_lt.2 (Nat.le_of_lt hc), Nat.ne_of_lt hc]

theorem sameLists_checkConsumption (s : State) (p : Pos) (h : Header) (t : Tally) :
    SameLists s (s.checkConsumption p h t) := by
  unfold State.checkConsumption
  split
  · exact sameLists_reject s p _
  · split
    · exact sameLists_reject s p _
    · exact sameLists_storeImage s p h t

/-- A position refused a card (R36). -/
structure Rejects (p : Pos) (c : Cause) (s t : State) : Prop where
  state : (t.line p).state = .rejected
  cause : (t.line p).cause = some c
  contact : (t.line p).contact = .unpowered
  held : (t.unit p).held = none
  ctx : t.ctx p = s.ctx p

theorem reject_rejects (s : State) (p : Pos) (c : Cause) : Rejects p c s (s.reject p c) := by
  have unit := reject_unit s p c
  refine ⟨?_, ?_, ?_, ?_, ?_⟩
  case refine_5 => simp [State.reject]
  all_goals simp [State.line, unit, Position.rejected]

/-- A position READY with its card's image in force (R48). -/
structure Readies (p : Pos) (h : Header) (t : Tally) (s u : State) : Prop where
  unit : ∃ r, u.unit p = { s.unit p with
    line := { s.line p with state := .ready, rest := r }, seq := none, inForce := true
    flags := (s.unit p).flags ||| 0x004#9 }
  ctx : u.ctx p = { s.ctx p with image := some { header := h, tally := t } }

theorem storeImage_readies (s : State) (p : Pos) (h : Header) (t : Tally) : Readies p h t s (s.storeImage p h t) := by
  obtain ⟨r, unit, -, ctx, -⟩ := startRest_rest
    (((s.modCtx p fun c => { c with image := some { header := h, tally := t } }).modUnit p Position.ready).raise p
      .identified) p
  refine ⟨⟨r, unit.trans ?_⟩, ctx.trans ?_⟩
  · simp only [State.line, unit_raise, unit_modUnit, modCtx_unit]
    rfl
  · rw [raise_ctx, modUnit_ctx]
    exact ctx_modCtx s p _

/-- The rest count may start on a position that is READY. -/
theorem Readies.rests {u : State} (hr : Readies p h t s u) : Readies p h t s (u.startRest p) := by
  obtain ⟨r, unit⟩ := hr.unit
  obtain ⟨r', rest, -, ctx, -⟩ := startRest_rest u p
  exact ⟨⟨r', by rw [rest, State.line, unit]⟩, ctx.trans hr.ctx⟩

theorem sameApartFrom_checkConsumption (s : State) (p : Pos) (h : Header) (t : Tally) :
    s.sameApartFrom p (s.checkConsumption p h t) := by
  unfold State.checkConsumption
  split
  · exact sameApartFrom_reject s p _
  · split
    · exact sameApartFrom_reject s p _
    · obtain ⟨r, -, apart, -⟩ := startRest_rest
        (((s.modCtx p fun c => { c with image := some { header := h, tally := t } }).modUnit p Position.ready).raise p
          .identified) p
      exact sameApartFrom_trans (sameApartFrom_modCtx s p _)
        (sameApartFrom_trans (sameApartFrom_modUnit _ p _) (sameApartFrom_trans (sameApartFrom_raise _ p _) apart))

/-- A position FAULTED out of an identification (R31, R36). -/
structure FaultsIdentifying (p : Pos) (c : FaultCause) (failing : Option Location) (s t : State) : Prop where
  unit : ∃ r, t.unit p = { s.unit p with
    line := LineUnit.faulted c failing { s.line p with contact := .unpowered, rest := none }
    reader := r, flags := (s.unit p).flags ||| c.flag.bit, seq := none, terms := none }
  ctx : t.ctx p = { s.ctx p with field := none }
  lists : SameLists s t

theorem enterFaulted_faults {c : FaultCause} {failing : Option Location} (hs : (s.line p).state = .identifying) :
    FaultsIdentifying p c failing s (s.enterFaulted p c failing) := by
  rw [enterFaulted_identifying hs]
  refine ⟨?_, ?_, ?_⟩
  · rw [dropSequence_unit, faultEntry_unit]
    exact ⟨_, rfl⟩
  · refine (ctx_modCtx _ p _).trans ?_
    rw [modUnit_ctx, faultEntry_ctx]
  · exact (sameLists_faultEntry s p c failing).trans ((sameLists_modUnit _ p _).trans (sameLists_modCtx _ p _))

theorem FaultsIdentifying.rests {c : FaultCause} {failing : Option Location} {t : State}
    (h : FaultsIdentifying p c failing s t) : t.startRest p = t := by
  obtain ⟨r, unit⟩ := h.unit
  have state : (t.line p).state = .faulted := by rw [State.line, unit]; rfl
  exact startRest_of_state (by rw [state]; decide) (by rw [state]; decide)

theorem Rejects.rests {c : Cause} {t : State} (h : Rejects p c s t) : t.startRest p = t :=
  startRest_of_state (by rw [h.state]; decide) (by rw [h.state]; decide)

end

end Sys2Proof.Machine

namespace Sys2Proof.Machine

/-! ## Step 7 answered (R44, R45) -/

section
variable {s : State} {p : Pos} {q : Sequence} {h : Header} {t : Tally}

/-- The tally read is kept, and a doubt of the identity resolved. -/
def State.tallyKept (s : State) (p : Pos) (i : Identity) (t : Tally) : State :=
  (s.modUnit p (Position.tallyRead t)).resolveDoubt p i t

/-- The sequence record at step 9: no send of the RESTAGE yet (R45). -/
def Position.stepNine (u : Position) : Position :=
  { u with seq := u.seq.map fun q => { q with step := 9, sends := 0 } }

theorem tallyAnswered_eq (hq : (s.unit p).seq = some q) (hh : q.header = some h) :
    s.tallyAnswered p t = if t.latch = 0 then (s.tallyKept p h.id t).finishSequence p
      else ((s.tallyKept p h.id t).modUnit p Position.stepNine).requestWrite p := by
  have header : ((s.modUnit p (Position.tallyRead t)).unit p).seq.bind (·.header) = some h := by
    simp [Position.tallyRead, hq, hh]
  simp only [State.tallyAnswered, header]
  rfl

/-- What the tally kept changes: its position, and the lists of doubts and records. -/
structure KeepsTally (p : Pos) (t : Tally) (s m : State) : Prop where
  unit : m.unit p = (s.unit p).tallyRead t
  others : ∀ x, x ≠ p → m.unit x = s.unit x
  ctx : ∀ x, m.ctx x = s.ctx x
  arbiter : m.arbiter = s.arbiter
  restart : m.restart = s.restart

theorem tallyKept_keeps (s : State) (p : Pos) (i : Identity) (t : Tally) : KeepsTally p t s (s.tallyKept p i t) := by
  have r := resolveDoubt_resolves (s := s.modUnit p (Position.tallyRead t)) (p := p) (i := i) (t := t)
  exact {
    unit := (r.unit p).trans (unit_modUnit s p _)
    others := fun x hx => (r.unit x).trans (unit_modUnit_ne s hx _)
    ctx := r.ctx
    arbiter := r.arbiter
    restart := r.restart }

/-- With a latch the RESTAGE is asked for, or may not be asked for yet; without one the sequence ends. -/
theorem tallyAnswered_lists (hq : (s.unit p).seq = some q) (hh : q.header = some h) :
    SameLists (s.tallyKept p h.id t) ((s.tallyAnswered p t).startRest p) := by
  refine SameLists.trans ?_ (sameLists_startRest _ p)
  rw [tallyAnswered_eq hq hh]
  split
  · have ended : (s.tallyKept p h.id t).finishSequence p = (s.tallyKept p h.id t).checkConsumption p h t :=
      finishSequence_eq (q := { q with tally := some t })
        (by rw [(tallyKept_keeps s p h.id t).unit, Position.tallyRead, hq]; rfl) hh rfl
    rw [ended]
    exact sameLists_checkConsumption _ p h t
  · exact (sameLists_modUnit _ p _).trans (sameLists_of_grants (requestWrite_sameApartFromGrants _ p))

theorem tallyAnswered_ne (hq : (s.unit p).seq = some q) (hh : q.header = some h)
    (hf : t.latch = 0 ∨ 4 ≤ s.arbiter.held.length) {x : Pos} (hx : x ≠ p) :
    ((s.tallyAnswered p t).startRest p).unit x = s.unit x ∧ ((s.tallyAnswered p t).startRest p).ctx x = s.ctx x := by
  have kept := tallyKept_keeps s p h.id t
  obtain ⟨r, -, rest, -⟩ := startRest_rest (s.tallyAnswered p t) p
  have answered : (s.tallyAnswered p t).unit x = s.unit x ∧ (s.tallyAnswered p t).ctx x = s.ctx x := by
    rw [tallyAnswered_eq hq hh]
    split
    · have ended : (s.tallyKept p h.id t).finishSequence p = (s.tallyKept p h.id t).checkConsumption p h t :=
        finishSequence_eq (q := { q with tally := some t })
          (by rw [kept.unit, Position.tallyRead, hq]; rfl) hh rfl
      obtain ⟨others, -⟩ := sameApartFrom_checkConsumption (s.tallyKept p h.id t) p h t
      rw [ended]
      exact ⟨(others x hx).1.trans (kept.others x hx), (others x hx).2.trans (kept.ctx x)⟩
    · next hl =>
      obtain ⟨unit, ctx⟩ := requestWrite_full_ne (s := (s.tallyKept p h.id t).modUnit p Position.stepNine) (p := p)
        (by rw [modUnit_arbiter, kept.arbiter]; exact hf.resolve_left hl) hx
      exact ⟨unit.trans ((unit_modUnit_ne _ hx _).trans (kept.others x hx)), ctx.trans (kept.ctx x)⟩
  exact ⟨(rest.1 x hx).1.trans answered.1, (rest.1 x hx).2.trans answered.2⟩

end

/-- The answer to the READ TALLY of step 7 is worked on the state in which the card has answered. -/
theorem tallyRead_answered {s : State} {p : Pos} {o : Order} {c : Card} {b : Bool} {n : Nat}
    (ho : (s.line p).order = some o) (hk : o.kind = .readTally) (hp : o.purpose = .read .sequence)
    (hm : s.mayBegin p = true) (hr : (s.unit p).reader = some (.card c)) (hc : c.power = .working .readTally b n)
    (hn : n ≤ 4) :
    exec (.answerFrame p .answer) s = .next (((s.answeredBy p).tallyAnswered p c.tally).startRest p) := by
  have restart := ((mayBegin_iff s p).1 hm).2
  have answered : (s.modCard p cardFinish).answered p o (.tally c.tally) = (s.answeredBy p).tallyAnswered p c.tally := by
    simp only [State.answered, hp]
    rfl
  rw [exec_answerFrame, doAnswerFrame_tally ho hk (by simp [hp]) hr hc hn, answered]
  refine congrArg _ (restartSettle_of_none ((kept_restart (s := s) ?_).2 restart))
  rw [kept_startRest, kept_tallyAnswered]
  rfl

section
variable {s : State} {p : Pos} {q : Sequence} {h : Header} {c : Card}

/-- Once step 7 is answered with a latch set, the position is free to ask for the RESTAGE of it. -/
theorem stepNine_asks (hs : (s.line p).state = .identifying) (hc : (s.line p).contact = .powered)
    (hq : (s.unit p).seq = some q) (hm : s.mayBegin p = true) (hr : (s.unit p).reader = some (.card c))
    (hl : c.tally.latch ≠ 0) :
    AsksRestage p { q with tally := some c.tally, step := 9, sends := 0 } c.tally
      (((s.answeredBy p).tallyKept p h.id c.tally).modUnit p Position.stepNine) := by
  have kept := tallyKept_keeps (s.answeredBy p) p h.id c.tally
  have unit := kept.unit
  rw [answeredBy_unit hr] at unit
  have hs' : (s.unit p).line.state = .identifying := hs
  have hc' : (s.unit p).line.contact = .powered := hc
  obtain ⟨wait, restart⟩ := (mayBegin_iff s p).1 hm
  refine ⟨?_, ?_, rfl, hl, ?_, ?_, ?_⟩
  case refine_3 =>
    refine (mayBegin_iff _ p).2 ⟨?_, kept.restart.trans restart⟩
    rw [unit_modUnit, unit]
    exact wait
  all_goals simp [State.line, unit, Position.stepNine, Position.tallyRead, hs', hc', hq]

end

/-! ## The verify read of latch completion (R45, R46, R105 to R107) -/

section
variable {s : State} {p : Pos} {q : Sequence} {x : Terms} {f : InFlight} {t : Tally}

/-- The tally of a verify read of latch completion is shown, and the field of its write cleared. -/
def State.latchRead (s : State) (p : Pos) (t : Tally) : State :=
  (s.clearField p).modLine p fun l => { l with shownTally := some t }

theorem latchRead_unit (s : State) (p : Pos) (t : Tally) :
    (s.latchRead p t).unit p = { s.unit p with line := { s.line p with shownTally := some t } } :=
  unit_modLine (s.clearField p) p _

theorem latchRead_ctx (s : State) (p : Pos) (t : Tally) : (s.latchRead p t).ctx p = { s.ctx p with field := none } :=
  ctx_modCtx s p _

theorem sameLists_latchRead (s : State) (p : Pos) (t : Tally) : SameLists s (s.latchRead p t) := ⟨rfl, rfl, rfl⟩

theorem verified_identifying (hs : (s.line p).state = .identifying) (hf : (s.ctx p).field = some f) :
    s.verified p t = s.latchJudged p f t := by
  simp [State.verified, hf, hs]

theorem sends_identifying (hs : (s.line p).state = .identifying) (hq : (s.unit p).seq = some q) :
    s.sends p = q.sends := by
  simp [State.sends, hs, hq]

theorem sendLimit_identifying (hs : (s.line p).state = .identifying) (hx : (s.unit p).terms = some x) :
    s.sendLimit p = 1 + x.retries := by
  simp [State.sendLimit, hs, hx]

theorem latchJudged_confirmed (hj : judge f t = .confirmed) (hm : s.mayBegin p = true) :
    s.latchJudged p f t = ((s.latchRead p t).modUnit p (Position.tallyRead t)).finishSequence p := by
  have may : ((s.latchRead p t).modUnit p (Position.tallyRead t)).mayBegin p = true := by
    obtain ⟨wait, restart⟩ := (mayBegin_iff s p).1 hm
    refine (mayBegin_iff _ p).2 ⟨?_, restart⟩
    rw [unit_modUnit, latchRead_unit]
    exact wait
  simp only [State.latchJudged, hj]
  exact if_pos may

theorem latchJudged_again (hj : judge f t = .unchanged) (hl : s.sends p < s.sendLimit p) :
    s.latchJudged p f t = (s.latchRead p t).requestWrite p := by
  simp only [State.latchJudged, hj]
  exact if_pos hl

theorem latchJudged_limit (hj : judge f t = .unchanged) (hl : ¬ s.sends p < s.sendLimit p) :
    s.latchJudged p f t = (s.latchRead p t).enterFaulted p .cardFault (some (failingAt f.stage t)) := by
  simp only [State.latchJudged, hj]
  exact if_neg hl

theorem latchJudged_mismatched (hj : judge f t = .mismatched) :
    s.latchJudged p f t = (s.latchRead p t).enterFaulted p .tallyMismatch none := by
  simp only [State.latchJudged, hj]
  rfl

theorem verifyRead_answered {o : Order} {c : Card} {b : Bool} {n : Nat} (ho : (s.line p).order = some o)
    (hk : o.kind = .readTally) (hp : o.purpose = .read .verify) (hs : (s.line p).state = .identifying)
    (hf : (s.ctx p).field = some f) (hr : (s.unit p).reader = some (.card c))
    (hc : c.power = .working .readTally b n) (hn : n ≤ 4) (hm : s.mayBegin p = true) :
    exec (.answerFrame p .answer) s = .next (((s.answeredBy p).latchJudged p f c.tally).startRest p) := by
  have state : ((s.answeredBy p).line p).state = .identifying := by rw [State.line, answeredBy_unit hr]; exact hs
  have answered : (s.modCard p cardFinish).answered p o (.tally c.tally) = (s.answeredBy p).latchJudged p f c.tally := by
    simp only [State.answered, hp]
    exact verified_identifying state hf
  rw [exec_answerFrame, doAnswerFrame_tally ho hk (by simp [hp]) hr hc hn, answered]
  refine congrArg _ (restartSettle_of_none ((kept_restart (s := s) ?_).2 ((mayBegin_iff s p).1 hm).2))
  rw [kept_startRest, ← answered, kept_answered]
  rfl

end

/-! ## The RESTAGE of latch completion answered (R29, R30, R101) -/

section
variable {s : State} {p : Pos} {o : Order} {c : Card} {b : Bool} {n : Nat}

/-- With its channel given back, a position reads its card's tally (R29, R30). -/
structure ReadsTally (p : Pos) (r : ReadFor) (s t : State) : Prop where
  unit : t.unit p = { s.unit p with
    line := { s.line p with order := some (s.begunOrder p .readTally 0 .first (.read r)), rest := none } }
  ctx : t.ctx p = s.ctx p
  link : t.link = s.link
  lists : SameLists s t
  held : ∀ x ∈ t.arbiter.held, x.position ≠ p
  restart : t.restart = s.restart

theorem release_readsTally (h : s.arbiter.lawful) (hc : (s.line p).contact = .powered) {r : ReadFor}
    (hr : r ≠ .sequence) : ReadsTally p r s ((s.release p).sendRead p r .first) := by
  have back := release_givesBack (s := s) (p := p) (lawful_holds_not_waits h)
  have line : (s.release p).line p = s.line p := congrArg Position.line back.unit
  have kind : (s.release p).readKind p r = .readTally := by
    cases r with
    | sequence => exact absurd rfl hr
    | verify => rfl
    | refusal owed => rfl
  have settings : (s.release p).posSettings p = s.posSettings p := by
    simp only [State.posSettings, grants_working back.apart]
  have link : (s.release p).link = s.link := grants_link back.apart
  have restart : (s.release p).restart = s.restart := grants_restart back.apart
  rw [sendRead_powered (by rw [line]; exact hc), kind]
  exact {
    unit := by
      rw [unit_beginOrder, back.unit, line]
      simp only [State.begunOrder, settings]
    ctx := back.ctx
    link := link
    lists := (sameLists_of_grants back.apart).trans (sameLists_modLine _ p _)
    held := back.held
    restart := restart }

theorem ReadsTally.settled {r : ReadFor} {t : State} (h : ReadsTally p r s t) (hr : s.restart = .none) :
    (t.startRest p).restartSettle = t :=
  settled_of_order (by rw [State.line, h.unit]; simp) (h.restart.trans hr)

theorem restage_done {g : Byte} (ho : (s.line p).order = some o) (hk : o.kind = .restage) (hp : o.purpose = .write)
    (hr : (s.unit p).reader = some (.card c)) (hc : c.power = .working (.restage g) b n) (hn : n ≤ 15)
    (hx : restageRefusal g c.tally = none) :
    s.doAnswerFrame p .answer =
      (((((s.answeredBy p).release p).sendRead p .verify .first).startRest p).restartSettle) := by
  have answered : (s.modCard p cardFinish).answered p o .done =
      (((s.modCard p cardFinish).endOrder p).release p).sendRead p .verify .first := by
    simp only [State.answered, hp]
  rw [doAnswerFrame_card ho (by simp [hp]) hr hc hn hk (by simp [cardAnswerContent]) (readAnswer_restage_done hx),
    answered]
  rfl

theorem restage_refused {g : Byte} {x : CardRefusal} (ho : (s.line p).order = some o) (hk : o.kind = .restage)
    (hp : o.purpose = .write) (hr : (s.unit p).reader = some (.card c))
    (hc : c.power = .working (.restage g) b n) (hn : n ≤ 15) (hx : restageRefusal g c.tally = some x)
    (hs : s.restart = .none) :
    s.doAnswerFrame p .answer = ((((((s.answeredBy p).clearField p).release p).sendRead p
      (.refusal (s.unit p).wait.isSome) .first).startRest p).restartSettle) := by
  have waits : (!(s.modCard p cardFinish).mayBegin p) = (s.unit p).wait.isSome := by
    have same : ((s.modCard p cardFinish).unit p).wait = (s.unit p).wait := by rw [unit_modCard]
    have restart : (s.modCard p cardFinish).restart = .none := hs
    simp only [State.mayBegin, same, restart, decide_true, Bool.and_true, Option.not_isNone]
  have answered : (s.modCard p cardFinish).answered p o (.refused x) = (s.modCard p cardFinish).writeRefused p := by
    simp only [State.answered, hp]
  rw [doAnswerFrame_card ho (by simp [hp]) hr hc hn hk (by simp [cardAnswerContent]) (readAnswer_restage_refused hx),
    answered, State.writeRefused, waits]
  rfl

/-- The READ TALLY after a refused RESTAGE is answered: its tally is shown, and the position FAULTED (R30). -/
theorem refusalRead_answered {owed : Bool} (ho : (s.line p).order = some o) (hk : o.kind = .readTally)
    (hp : o.purpose = .read (.refusal owed)) (hs : (s.line p).state = .identifying)
    (hr : (s.unit p).reader = some (.card c)) (hc : c.power = .working .readTally b n) (hn : n ≤ 4) :
    s.doAnswerFrame p .answer = (((((s.answeredBy p).modLine p fun l =>
      { l with shownTally := some c.tally }).enterFaulted p .tallyMismatch none).startRest p).restartSettle) := by
  have state : ((s.answeredBy p).line p).state ≠ .inCall := by
    rw [State.line, answeredBy_unit hr]
    change (s.line p).state ≠ .inCall
    rw [hs]; decide
  have answered : (s.modCard p cardFinish).answered p o (.tally c.tally) = (s.answeredBy p).refusalRead p c.tally := by
    simp only [State.answered, hp]
    rfl
  rw [doAnswerFrame_tally ho hk (by simp [hp]) hr hc hn, answered, State.refusalRead, if_neg state]

end

/-- Settles O50: the card's answer read on the state in which it has finished its order, by the purpose of the order. -/
theorem tallyAnswerEndsSequence : Obligations.TallyAnswerEndsSequence := by
  unfold Obligations.TallyAnswerEndsSequence
  refine ⟨?_, ?_, ?_⟩
  · intro s p o q h c b n ho hk hp hs hcontact hq hh hm hr hc hn used outcome
    have run := tallyRead_answered ho hk hp hm hr hc hn
    have seq : ((s.answeredBy p).unit p).seq = some q := by rw [answeredBy_unit hr]; exact hq
    have lists := tallyAnswered_lists (t := c.tally) seq hh
    have kept := tallyKept_keeps (s.answeredBy p) p h.id c.tally
    have unit := kept.unit
    rw [answeredBy_unit hr] at unit
    have asks := stepNine_asks (h := h) hs hcontact hq hm hr
    refine ⟨_, run, fun hf x hx => ?_, fun hnone => ?_, fun e he room => ?_, fun e he full unique => ?_,
      fun hl full hheld hwaits => ?_, fun hl hg free empty hheld => ?_, fun hl => ?_⟩
    · obtain ⟨others, -⟩ := sameApartFrom_answeredBy s p
      obtain ⟨unit', ctx'⟩ := tallyAnswered_ne (s := s.answeredBy p) seq hh hf hx
      exact ⟨unit'.trans (others x hx).1, ctx'.trans (others x hx).2⟩
    · rw [lists.doubts, lists.records, State.tallyKept,
        resolveDoubt_of_none (s := (s.answeredBy p).modUnit p (Position.tallyRead c.tally)) hnone]
      exact ⟨rfl, rfl⟩
    · obtain ⟨records, doubts, flags⟩ := resolveDoubt_stored (p := p) (t := c.tally)
        (s := (s.answeredBy p).modUnit p (Position.tallyRead c.tally)) he room
      exact ⟨lists.records.trans records, lists.doubts.trans doubts, lists.flags.trans flags⟩
    · obtain ⟨records, flags, doubts⟩ := resolveDoubt_held (p := p) (t := c.tally)
        (s := (s.answeredBy p).modUnit p (Position.tallyRead c.tally)) he full
      refine ⟨lists.records.trans records, lists.flags.trans flags, lists.doubts.trans (doubts.trans ?_)⟩
      refine List.map_congr_left fun x hx => ?_
      by_cases hxe : x = e
      · rw [if_pos hxe, if_pos (by rw [hxe])]
        rfl
      · rw [if_neg hxe, if_neg fun h => hxe (unique x hx h)]
    · have arbiter : (((s.answeredBy p).tallyKept p h.id c.tally).modUnit p Position.stepNine).arbiter = s.arbiter :=
        kept.arbiter
      have waits := (asks hl).ends_waiting (by rw [arbiter]; exact hwaits) (by rw [arbiter]; exact hheld)
        (by rw [arbiter]; exact full)
      rw [tallyAnswered_eq seq hh, if_neg hl, waits.rests, waits.arbiter, arbiter]
      exact ⟨waits.state, waits.order, rfl, waits.seq⟩
    · have arbiter : (((s.answeredBy p).tallyKept p h.id c.tally).modUnit p Position.stepNine).arbiter = s.arbiter :=
        kept.arbiter
      have ctx : (((s.answeredBy p).tallyKept p h.id c.tally).modUnit p Position.stepNine).ctx p = s.ctx p := kept.ctx p
      have granted := (asks hl).ends_granted (by rw [arbiter]; exact hg) (by rw [arbiter]; exact free)
        (by rw [arbiter]; exact empty) (by rw [arbiter]; exact hheld)
      rw [tallyAnswered_eq seq hh, if_neg hl, granted.rests, granted.arbiter, granted.ctx, arbiter, ctx]
      exact ⟨granted.state, rfl, granted.order, rfl, granted.seq⟩
    · have ends : (s.answeredBy p).tallyAnswered p c.tally =
          ((s.answeredBy p).tallyKept p h.id c.tally).checkConsumption p h c.tally := by
        rw [tallyAnswered_eq seq hh, if_pos hl]
        exact finishSequence_eq (q := { q with tally := some c.tally })
          (by rw [unit, Position.tallyRead, hq]; rfl) hh rfl
      have ctx : ((s.answeredBy p).tallyKept p h.id c.tally).ctx p = s.ctx p := kept.ctx p
      rw [ends]
      generalize (s.answeredBy p).tallyKept p h.id c.tally = m at *
      refine ⟨fun hu => ?_, fun hu => ?_, fun hu => ?_⟩
      · have no := reject_rejects m p .inconsistent
        rw [checkConsumption_above hu, no.rests]
        exact ⟨no.state, no.cause, no.contact, no.held, no.ctx.trans ctx⟩
      · have no := reject_rejects m p .emptyCard
        rw [checkConsumption_equal hu, no.rests]
        exact ⟨no.state, no.cause, no.contact, no.held, no.ctx.trans ctx⟩
      · have ready := (storeImage_readies m p h c.tally).rests
        obtain ⟨r, ready_unit⟩ := ready.unit
        rw [checkConsumption_below hu, ready.ctx, State.line, ready_unit, State.line, unit, ctx]
        exact ⟨rfl, hcontact, rfl, rfl, rfl, rfl, rfl, rfl, rfl⟩
  · intro s p o q h u x f c b n ho hk hp hs hcontact hq hh hu hl hx hf hkind hm hheld hwaits hr hc hn used cleared judged
    have run := verifyRead_answered ho hk hp hs hf hr hc hn hm
    have answered := answeredBy_unit (s := s) (p := p) hr
    have unit := latchRead_unit (s.answeredBy p) p c.tally
    have ctx : ((s.answeredBy p).latchRead p c.tally).ctx p = cleared := latchRead_ctx (s.answeredBy p) p c.tally
    have lists := (sameLists_answeredBy s p).trans (sameLists_latchRead (s.answeredBy p) p c.tally)
    have arbiter : ((s.answeredBy p).latchRead p c.tally).arbiter = s.arbiter := rfl
    have restart : ((s.answeredBy p).latchRead p c.tally).restart = s.restart := rfl
    have may : (s.answeredBy p).mayBegin p = true := by
      obtain ⟨wait, restart⟩ := (mayBegin_iff s p).1 hm
      exact (mayBegin_iff _ p).2 ⟨by rw [answered]; exact wait, restart⟩
    have state : ((s.answeredBy p).line p).state = .identifying := by rw [State.line, answered]; exact hs
    have sends := sends_identifying (s := s.answeredBy p) (q := q) state (by rw [answered]; exact hq)
    have limit := sendLimit_identifying (s := s.answeredBy p) (x := x) state (by rw [answered]; exact hx)
    rw [State.line, answered] at unit
    have asks : AsksRestage p q u ((s.answeredBy p).latchRead p c.tally) := by
      obtain ⟨wait, free⟩ := (mayBegin_iff s p).1 hm
      have hs' : (s.unit p).line.state = .identifying := hs
      have hc' : (s.unit p).line.contact = .powered := hcontact
      refine ⟨?_, ?_, hu, hl, (mayBegin_iff _ p).2 ⟨?_, free⟩, ?_, ?_⟩
      all_goals simp [State.line, unit, hs', hc', hq, wait]
    have other {a d : Judgement} {P : Prop} (h : judged = a) (hd : judged = d) (ne : a ≠ d) : P :=
      absurd (h.symm.trans hd) ne
    cases hj : judge f c.tally with
    | confirmed =>
      have is : judged = .confirmed := hj
      rw [latchJudged_confirmed hj may, finishSequence_eq (q := { q with tally := some c.tally }) (h := h)
        (t := c.tally) (by rw [unit_modUnit, unit, Position.tallyRead, hq]; rfl) hh rfl] at run
      have read : (((s.answeredBy p).latchRead p c.tally).modUnit p (Position.tallyRead c.tally)).unit p = _ :=
        (unit_modUnit _ p _).trans (congrArg (Position.tallyRead c.tally) unit)
      have ctx' : (((s.answeredBy p).latchRead p c.tally).modUnit p (Position.tallyRead c.tally)).ctx p = cleared := ctx
      have all := (lists.trans (sameLists_modUnit _ p (Position.tallyRead c.tally))).trans
        ((sameLists_checkConsumption _ p h c.tally).trans (sameLists_startRest _ p))
      generalize ((s.answeredBy p).latchRead p c.tally).modUnit p (Position.tallyRead c.tally) = m at *
      refine ⟨_, run, all.doubts, all.records, ?_⟩
      rcases Nat.lt_trichotomy h.issued.toNat used with hc | hc | hc
      · have no := reject_rejects m p .inconsistent
        rw [checkConsumption_above hc, no.rests]
        refine ⟨by simp [no.held, is, Nat.le_of_lt hc], fun _ _ => ⟨no.state, no.cause, no.ctx.trans ctx'⟩,
          fun _ h => by omega, fun _ h => by omega, fun h => other is h (by decide), fun h => other is h (by decide),
          fun h => other is h (by decide)⟩
      · have no := reject_rejects m p .emptyCard
        rw [checkConsumption_equal hc, no.rests]
        refine ⟨by simp [no.held, is, hc], fun _ h => by omega, fun _ _ => ⟨no.state, no.cause, no.ctx.trans ctx'⟩,
          fun _ h => by omega, fun h => other is h (by decide), fun h => other is h (by decide),
          fun h => other is h (by decide)⟩
      · have ready := (storeImage_readies m p h c.tally).rests
        obtain ⟨r, ready_unit⟩ := ready.unit
        rw [checkConsumption_below hc, ready.ctx, State.line, ready_unit, State.line, read, ctx']
        refine ⟨by simp [is, Nat.not_le.2 hc, Position.tallyRead], fun _ h => by omega, fun _ h => by omega,
          fun _ _ => ⟨rfl, hcontact, rfl, rfl, rfl, rfl⟩, fun h => other is h (by decide),
          fun h => other is h (by decide), fun h => other is h (by decide)⟩
    | unchanged =>
      have is : judged = .unchanged := hj
      by_cases again : q.sends < 1 + x.retries
      · rw [latchJudged_again hj (by rw [sends, limit]; exact again)] at run
        have all := lists.trans
          ((sameLists_of_grants (requestWrite_sameApartFromGrants _ p)).trans (sameLists_startRest _ p))
        obtain ⟨cc, oo, rr, xx, qq, ww, asked⟩ := requestWrite_sameButOrder ((s.answeredBy p).latchRead p c.tally) p
        have state' : ((((s.answeredBy p).latchRead p c.tally).requestWrite p).line p).state = .identifying := by
          rw [State.line, asked, unit]; exact hs
        rw [startRest_of_state (by rw [state']; decide) (by rw [state']; decide)] at run all
        refine ⟨_, run, all.doubts, all.records, ?_, fun h => other is h (by decide), fun h => other is h (by decide),
          fun h => other is h (by decide), fun _ _ => ⟨state', ?_, fun full => ?_, fun hg free empty => ?_⟩,
          fun _ h => by omega, fun h => other is h (by decide)⟩
        · rw [asked, unit]; simp [is]
        · rw [State.line, asked, unit]
        · have waits := asks.ends_waiting hwaits hheld full
          exact ⟨waits.ctx.trans ctx, waits.seq, waits.arbiter⟩
        · have granted := asks.ends_granted hg free empty hheld
          refine ⟨granted.seq, granted.ctx.trans ?_, granted.arbiter, _, granted.order, rfl, rfl, rfl⟩
          rw [ctx]
      · rw [latchJudged_limit hj (by rw [sends, limit]; exact again)] at run
        have fault := enterFaulted_faults (s := (s.answeredBy p).latchRead p c.tally) (p := p) (c := .cardFault)
          (failing := some (failingAt f.stage c.tally)) asks.state
        obtain ⟨r, faulted⟩ := fault.unit
        rw [fault.rests] at run
        have all := lists.trans fault.lists
        refine ⟨_, run, all.doubts, all.records, ?_, fun h => other is h (by decide), fun h => other is h (by decide),
          fun h => other is h (by decide), fun _ h => absurd h again, fun _ _ => ?_, fun h => other is h (by decide)⟩
        · rw [faulted, unit]; simp [is]
        · rw [State.line, faulted, fault.ctx, State.line, unit, ctx]
          exact ⟨rfl, rfl, rfl, rfl, Bool.or_false _, rfl, rfl, rfl, rfl⟩
    | mismatched =>
      have is : judged = .mismatched := hj
      rw [latchJudged_mismatched hj] at run
      have fault := enterFaulted_faults (s := (s.answeredBy p).latchRead p c.tally) (p := p) (c := .tallyMismatch)
        (failing := none) asks.state
      obtain ⟨r, faulted⟩ := fault.unit
      rw [fault.rests] at run
      have all := lists.trans fault.lists
      refine ⟨_, run, all.doubts, all.records, ?_, fun h => other is h (by decide), fun h => other is h (by decide),
        fun h => other is h (by decide), fun h => other is h (by decide), fun h => other is h (by decide), fun _ => ?_⟩
      · rw [faulted, unit]; simp [is]
      · rw [State.line, faulted, fault.ctx, State.line, unit, ctx]
        exact ⟨rfl, rfl, rfl, rfl, rfl, rfl, rfl, rfl, rfl⟩
  · intro s p o c b n ho hs hcontact hrestart hr
    have unit := answeredBy_unit (s := s) (p := p) hr
    refine ⟨fun g hk hp hc hn lawful => ?_, fun owed hk hp hc hn => ?_⟩
    · have contact : ((s.answeredBy p).line p).contact = .powered := by rw [State.line, unit]; exact hcontact
      cases hx : restageRefusal g c.tally with
      | none =>
        have reads := release_readsTally (s := s.answeredBy p) (p := p) lawful contact (r := .verify) (by decide)
        have run := (exec_answerFrame p .answer s).trans
          (congrArg Host.Outcome.next ((restage_done ho hk hp hr hc hn hx).trans (reads.settled hrestart)))
        have finish : cardFinish c = { c with tally := formDone (.restage g) b c.tally, power := .awake } := by
          simp only [cardFinish, hc]
        refine ⟨_, _, run, by rw [State.line, reads.unit], rfl, rfl, rfl, rfl, ?_, ?_, reads.link, reads.lists.doubts,
          reads.lists.records, reads.held, fun _ => ⟨rfl, reads.ctx, ?_⟩, fun h => absurd rfl h⟩
        · rw [State.line, reads.unit, State.line, unit]; exact hs
        · rw [reads.unit, unit]
        · rw [reads.unit, unit, finish]
      | some x =>
        have reads := release_readsTally (s := (s.answeredBy p).clearField p) (p := p) lawful contact
          (r := .refusal (s.unit p).wait.isSome) (by simp)
        have run := (exec_answerFrame p .answer s).trans
          (congrArg Host.Outcome.next ((restage_refused ho hk hp hr hc hn hx hrestart).trans (reads.settled hrestart)))
        have finish : cardFinish c = { c with power := .awake } := by
          have same := formDone_of_no_forms (orderForms_restage_refused (k := g) (t := c.tally) (by simp [hx]) b)
          simp only [cardFinish, hc, same]
        refine ⟨_, _, run, by rw [State.line, reads.unit], rfl, rfl, rfl, rfl, ?_, ?_, reads.link, reads.lists.doubts,
          reads.lists.records, reads.held, nofun, fun _ => ⟨rfl, reads.ctx.trans (ctx_modCtx _ p _), ?_⟩⟩
        · rw [State.line, reads.unit, clearField_line, State.line, unit]; exact hs
        · rw [reads.unit, clearField_unit, unit]
        · rw [reads.unit, clearField_unit, unit, finish]
    · let m := (s.answeredBy p).modLine p fun l => { l with shownTally := some c.tally }
      have read : m.unit p = { (s.answeredBy p).unit p with
          line := { (s.answeredBy p).line p with shownTally := some c.tally } } := unit_modLine _ p _
      rw [State.line, unit] at read
      have state : (m.line p).state = .identifying := by rw [State.line, read]; exact hs
      have fault := enterFaulted_faults (s := m) (p := p) (c := .tallyMismatch) (failing := none) state
      obtain ⟨r, faulted⟩ := fault.unit
      have kept : (m.enterFaulted p .tallyMismatch none).kept = s.kept := by
        rw [kept_enterFaulted]; rfl
      have run := (exec_answerFrame p .answer s).trans
        (congrArg Host.Outcome.next (refusalRead_answered ho hk hp hs hr hc hn))
      change _ = Host.Outcome.next (((m.enterFaulted p .tallyMismatch none).startRest p).restartSettle) at run
      rw [fault.rests, restartSettle_of_none ((kept_restart kept).2 hrestart)] at run
      have lists := (sameLists_answeredBy s p).trans ((sameLists_modLine _ p _).trans fault.lists)
      refine ⟨_, run, ?_⟩
      rw [State.line, faulted, fault.ctx, State.line, read]
      exact ⟨rfl, rfl, rfl, rfl, rfl, rfl, Bool.or_false _, rfl, rfl, rfl, rfl, rfl, lists.doubts, lists.records⟩

end Sys2Proof.Machine

namespace Sys2Proof.Machine

/-! ## The state after reset (R16, R160) -/

theorem reset_unit (p : Pos) : State.reset.unit p = Position.start true none := Vector.getElem_replicate p.isLt

theorem reset_line (p : Pos) : State.reset.line p = LineUnit.start true false := congrArg Position.line (reset_unit p)

theorem cleared_ctx (p : Pos) : Retained.cleared.ctx p = Context.cleared := Vector.getElem_replicate p.isLt

theorem reset_ctx (p : Pos) : State.reset.ctx p = Context.cleared := cleared_ctx p

theorem defaults_posns (p : Pos) : Settings.defaults.posns[p.val]'p.isLt =
    { inService := true, notify := true, lineClass := .short } := Vector.getElem_replicate p.isLt

theorem defaults_series (i : Fin 16) : Settings.defaults.series[i.val]'i.isLt = none := Vector.getElem_replicate i.isLt

theorem start_fresh (inService : Bool) (x : Option Seated) : (Position.start inService x).fresh inService := by
  refine ⟨rfl, rfl, rfl, rfl, rfl, rfl, rfl, rfl, rfl, rfl, rfl, rfl, rfl, rfl, rfl, rfl, rfl, rfl, rfl, rfl⟩

/-- No request waits in the part for its reply. -/
theorem reset_requestsHeld : State.reset.requestsHeld = 0 := by
  have owed (p : Pos) : State.reset.owedAt p = 0 := by
    simp only [State.owedAt, reset_unit, reset_ctx]
    rfl
  have none : (positions.map State.reset.owedAt).sum = 0 := List.sum_eq_zero (by
    intro n hn
    obtain ⟨p, -, rfl⟩ := List.mem_map.1 hn
    exact owed p)
  rw [State.requestsHeld, none]
  rfl

theorem defaults_tablesLawful : Settings.defaults.tablesLawful := by
  refine ⟨⟨by decide, nofun, List.Pairwise.nil⟩, ?_⟩
  intro i j a b ha
  rw [defaults_series] at ha
  cases ha

theorem cleared_roomLawful : Retained.cleared.roomLawful := by
  refine ⟨by decide, List.nodup_nil, fun r => ⟨nofun, fun h => ?_⟩⟩
  rw [cleared_ctx] at h
  exact absurd rfl h.1

/-- Settles O4: each field read off the reset state, and each law from what it leaves empty. -/
theorem resetState : Obligations.ResetState := by
  unfold Obligations.ResetState
  refine ⟨rfl, rfl, rfl, defaults_series, rfl, defaults_posns, rfl, rfl, rfl,
    fun p => by rw [reset_unit]; exact start_fresh true none, reset_ctx, rfl, rfl, rfl, rfl, rfl, rfl, rfl, rfl, rfl,
    rfl, rfl, rfl, rfl, rfl, ?_, ?_, ?_, ?_, ?_, ?_, cleared_roomLawful, ?_, ?_,
    ⟨defaults_tablesLawful, defaults_tablesLawful, nofun⟩, ?_, ?_⟩
  · exact ⟨Nat.zero_le _, by decide⟩
  · exact fun h => absurd h (by decide)
  · intro p h
    rw [reset_line] at h
    cases h
  · exact List.nodup_singleton _
  · rw [reset_requestsHeld]
    exact Nat.zero_le _
  · exact ⟨by decide, List.nodup_nil⟩
  · exact ⟨by decide, by decide, by decide, by decide⟩
  · intro p
    have ctx : State.reset.retained.ctx p = Context.cleared := cleared_ctx p
    rw [ctx]
    exact ⟨by decide, fun h => absurd rfl h⟩
  · intro p q i h
    rw [reset_unit] at h
    cases h
  · intro p
    rw [reset_unit, reset_ctx]
    exact ⟨nofun, fun h => absurd rfl h⟩

end Sys2Proof.Machine

namespace Sys2Proof.Machine

/-! ## The raisings of step 7 (R136, R154, R157, R160, R161) -/

section
variable (s : State)

/-- The part with these flags raised since start-up, and the one notice of them where there are any (R137, R150). -/
def State.flagged (s : State) (f : BitVec 5) : State :=
  { s with link := { s.link with flags := f, outbound := if f = 0#5 then [] else [.partNotice] } }

theorem bit_join_ne (f : BitVec 5) (x : PartFlag) : f ||| x.bit ≠ 0#5 := by
  revert f
  cases x <;> decide

theorem flagged_raisePartIf (f : BitVec 5) (b : Bool) (x : PartFlag) :
    (s.flagged f).raisePartIf b x = s.flagged (f ||| if b then x.bit else 0#5) := by
  cases b with
  | false => simp [State.raisePartIf]
  | true =>
    have notices : (s.flagged f).link.outbound ++ (s.flagged f).partNoticeOf x = [.partNotice] := by
      unfold State.partNoticeOf State.flagged
      by_cases hf : f = 0#5 <;> simp [hf]
    have raised := raisePart_eq (s.flagged f) x
    rw [notices] at raised
    rw [State.raisePartIf, if_pos rfl, raised, if_pos rfl, State.flagged, State.flagged, if_neg (bit_join_ne f x)]

/-- The flags that step 7 raises, by what start-up has found. -/
def State.startFlags (s : State) (x : StartUp) : BitVec 5 :=
  (if s.storeCheck then 0#5 else 0x04#5) ||| (if x.lost then 0x08#5 else 0#5) |||
    (if x.keyChanged then 0x10#5 else 0#5) ||| (if s.retained.records = [] then 0#5 else 0x01#5)

theorem flagged_startRaisings (x : StartUp) : (s.flagged 0#5).startRaisings x = s.flagged (s.startFlags x) := by
  have store : (if !s.storeCheck then PartFlag.storeInvalid.bit else 0#5) = if s.storeCheck then 0#5 else 0x04#5 := by
    cases s.storeCheck <;> rfl
  have records : (if (decide (s.retained.records ≠ [])) = true then PartFlag.recordsWaiting.bit else 0#5) =
      if s.retained.records = [] then 0#5 else 0x01#5 := by
    by_cases h : s.retained.records = [] <;> simp [h, PartFlag.bit]
  unfold State.startRaisings
  rw [flagged_raisePartIf, flagged_raisePartIf, flagged_raisePartIf, flagged_raisePartIf]
  change s.flagged (_ ||| _ ||| _ ||| _ ||| (if (decide (s.retained.records ≠ [])) = true then _ else _)) = _
  rw [records]
  change s.flagged (0#5 ||| (if !s.storeCheck then _ else _) ||| _ ||| _ ||| _) = _
  rw [store, BitVec.zero_or]
  rfl

theorem startedWith_flagged (m : Retained) : s.startedWith m = (s.startedWith m).flagged 0#5 := rfl

/-- The part at the end of step 7, no held insertion acted on yet. -/
theorem startRaisings_eq (m : Retained) (x : StartUp) :
    (s.startedWith m).startRaisings x = (s.startedWith m).flagged ((s.startedWith m).startFlags x) :=
  flagged_startRaisings (s.startedWith m) x

end

/-! ## Cleared memory has no call to close (R96, R160) -/

theorem startClose_of_ended {m : Retained} {p : Pos} (h : (m.ctx p).ended) (e : EndCause) : m.startClose e p = m := by
  obtain ⟨state, field⟩ := h
  rw [Retained.startClose, if_pos state]
  refine modCtx_retained_self ?_
  rw [← field]

theorem startCloses_of_ended {m : Retained} (h : ∀ p, (m.ctx p).ended) (ps : List Pos) : m.startCloses ps = m := by
  unfold Retained.startCloses
  generalize (if m.restartMarker then EndCause.restart else EndCause.powerLoss) = e
  induction ps with
  | nil => rfl
  | cons p ps ih => rw [List.foldl_cons, startClose_of_ended (h p), ih]

theorem cleared_ended (p : Pos) : (Retained.cleared.ctx p).ended := by
  rw [cleared_ctx]
  exact ⟨rfl, rfl⟩

theorem cleared_started : Retained.cleared.started = Retained.cleared := by
  rw [Retained.started, startCloses_of_ended cleared_ended]
  rfl

theorem cleared_startSome (n : Nat) : Retained.cleared.startSome n = Retained.cleared :=
  startCloses_of_ended cleared_ended _

/-! ## The insertions held until the end of start-up (R18, R37, R161) -/

/-- An insertion acted on with its first WAKE begun. -/
structure Inserted (p : Pos) (s t : State) : Prop where
  state : (t.line p).state = .identifying
  contact : (t.line p).contact = .waking
  flags : (t.unit p).flags = (s.unit p).flags ||| 0x001#9
  order : ∃ o : Order, (t.line p).order = some o ∧ o.kind = .wake ∧ o.purpose = .firstWake ∧ o.begun = true

theorem insert_inserted {s : State} {p : Pos} (hm : s.mayBegin p = true) : Inserted p s (s.insert p) := by
  have unit := insert_unit s p
  rw [hm] at unit
  refine ⟨?_, ?_, ?_, ⟨s.begunOrder p .wake 0 .first .firstWake, ?_, rfl, rfl, rfl⟩⟩
  all_goals simp [State.line, unit, State.identifyingUnit]

/-- A raising of INSERTED queues a notice (R150), where the queue has none of the position. -/
def State.notifies (s : State) (p : Pos) : Bool :=
  (s.posSettings p).notify && decide ((s.unit p).flags &&& 0x001#9 = 0#9)

/-- Insertions acted on one after another. -/
structure InsertsAll (l : List Pos) (s t : State) : Prop where
  inserted : ∀ p ∈ l, Inserted p s t
  others : ∀ p, p ∉ l → t.unit p = s.unit p
  kept : t.kept = s.kept
  restart : t.restart = s.restart
  retained : t.retained = s.retained
  arbiter : t.arbiter = s.arbiter
  flags : t.link.flags = s.link.flags
  outbound : t.link.outbound = s.link.outbound ++ (l.filter s.notifies).map .positionNotice

theorem foldl_insert_insertsAll (l : List Pos) :
    ∀ s : State, l.Nodup → s.restart = .none → (∀ p, (s.unit p).wait = none) →
    (∀ p ∈ l, Message.positionNotice p ∉ s.link.outbound) → InsertsAll l s (l.foldl State.insert s) := by
  induction l with
  | nil =>
    intro s _ _ _ _
    exact ⟨nofun, fun _ _ => rfl, rfl, rfl, rfl, rfl, rfl, by simp⟩
  | cons p l ih =>
    intro s hl hr hw hn
    obtain ⟨hp, hl⟩ := List.nodup_cons.1 hl
    have may : s.mayBegin p = true := (mayBegin_iff s p).2 ⟨hw p, hr⟩
    have first := insert_inserted may
    have apart := sameApartFrom_insert s p
    have unit := insert_unit s p
    have restart : (s.insert p).restart = s.restart := by rw [apart.2]
    have working : (s.insert p).working = s.working := kept_working (kept_insert s p)
    have notice : s.noticeOf p .inserted = if s.notifies p then [.positionNotice p] else [] := by
      have fresh := hn p (by simp)
      refine if_congr ?_ rfl rfl
      rw [State.notifies, Bool.and_eq_true, decide_eq_true_eq]
      exact ⟨fun ⟨raised, notify, _⟩ => ⟨notify, raised⟩, fun ⟨notify, raised⟩ => ⟨raised, notify, fresh⟩⟩
    have outbound : (s.insert p).link.outbound = s.link.outbound ++ if s.notifies p then [.positionNotice p] else [] := by
      rw [insert_outbound, notice]
    have rest := ih (s.insert p) hl (restart.trans hr)
      (fun q => by
        by_cases hq : q = p
        · rw [hq, unit]; exact hw p
        · rw [(apart.1 q hq).1]; exact hw q)
      (fun q hq => by
        rw [outbound, List.mem_append]
        rintro (h | h)
        · exact hn q (List.mem_cons_of_mem p hq) h
        · split at h
          · simp only [List.mem_singleton, Message.positionNotice.injEq] at h
            exact hp (h ▸ hq)
          · cases h)
    have same {q : Pos} (hq : q ≠ p) : (s.insert p).notifies q = s.notifies q := by
      simp only [State.notifies, State.posSettings, (apart.1 q hq).1, working]
    rw [List.foldl_cons]
    refine ⟨fun q hq => ?_, fun q hq => ?_, rest.kept.trans (kept_insert s p), rest.restart.trans restart,
      rest.retained.trans (insert_retained s p), rest.arbiter.trans (insert_arbiter s p),
      rest.flags.trans (insert_linkFlags s p), ?_⟩
    · obtain rfl | hq := List.mem_cons.1 hq
      · have still := rest.others q hp
        obtain ⟨h1, h2, h3, h4⟩ := first
        refine ⟨?_, ?_, ?_, ?_⟩ <;> simp only [State.line, still]
        exacts [h1, h2, h3, h4]
      · have ne : q ≠ p := fun h => hp (h ▸ hq)
        obtain ⟨h1, h2, h3, h4⟩ := rest.inserted q hq
        exact ⟨h1, h2, by rw [h3, (apart.1 q ne).1], h4⟩
    · have ne : q ≠ p := fun h => hq (h ▸ List.mem_cons_self)
      rw [rest.others q fun h => hq (List.mem_cons_of_mem p h), (apart.1 q ne).1]
    · have filters : l.filter (s.insert p).notifies = l.filter s.notifies :=
        List.filter_congr fun q hq => same fun h => hp (h ▸ hq)
      rw [rest.outbound, outbound, filters, List.filter_cons, List.append_assoc]
      split <;> rfl

end Sys2Proof.Machine

namespace Sys2Proof.Machine

/-! ## POWER_ON (R16, R35, R96, R137, R154, R157, R160, R161) -/

section
variable (s : State)

/-- The supply comes on with the backup cell having kept retained memory, or not (R160). -/
def State.supplied (s : State) (kept : Bool) : State := s.modRetained fun m => { m with check := m.check && kept }

theorem doPowerOn_off {s : State} (h : s.powered = false) (kept : Bool) (pause : Option Nat) :
    s.doPowerOn kept pause = (s.supplied kept).startBlocks.startOn pause := if_pos h

theorem doPowerOn_goes_on {s : State} {x : StartUp} (h : s.powered = true) (hs : s.starting = some x) (kept : Bool) :
    s.doPowerOn kept none = s.startEnd := by
  rw [State.doPowerOn, if_neg (by simp [h]), if_pos (by simp [hs])]
  rfl

theorem doPowerOn_started {s : State} (h : s.powered = true) (hs : s.starting = none) (kept : Bool)
    (pause : Option Nat) : s.doPowerOn kept pause = s := by
  rw [State.doPowerOn, if_neg (by simp [h]), if_neg (by simp [hs])]

/-- Steps 1 to 4 set the blocks (R161). -/
theorem startBlocks_blocksStartedFrom (kept : Bool) : s.blocksStartedFrom (s.supplied kept).startBlocks := by
  refine ⟨rfl, rfl, ?_, fun p => ?_, rfl, rfl, rfl, rfl, rfl, rfl, rfl, rfl, rfl, rfl, rfl, rfl⟩
  · change Unlocked.mode _ = _
    unfold Unlocked.mode
    rfl
  · rw [startBlocks_unit]
    exact start_fresh _ _

theorem startBlocks_reader (p : Pos) : (s.startBlocks.unit p).reader.isSome = (s.unit p).reader.isSome := by
  rw [startBlocks_unit]
  exact Option.isSome_map

/-- No debounce is complete when the blocks are at their start. -/
theorem startBlocks_insertionHeld (p : Pos) : s.startBlocks.insertionHeld p = false := by
  have absent : (s.startBlocks.line p).present = false := by
    rw [State.line, startBlocks_unit]
    rfl
  rw [State.insertionHeld, absent, Bool.and_false]

theorem startBlocks_startEnd : s.startBlocks.startEnd =
    (s.startBlocks.startedWith s.startRetained.started).flagged
      ((s.startBlocks.startedWith s.startRetained.started).startFlags
        { lost := !s.retained.check, keyChanged := false }) := by
  have none : positions.filter s.startBlocks.insertionHeld = [] :=
    List.filter_eq_nil_iff.2 fun p _ => by simp [startBlocks_insertionHeld]
  rw [startEnd_eq (x := { lost := !s.retained.check, keyChanged := false }) rfl, none, List.foldl_nil, startRaisings_eq]
  rfl

/-- A restart marker cleared and every context closed (R96, R125, R162). -/
def Retained.closedDown (m : Retained) : Prop := m.restartMarker = false ∧ ∀ p, (m.ctx p).ended

theorem started_closedDown (m : Retained) : m.started.closedDown := ⟨rfl, started_ended m⟩

/-- Retained memory whose check word does not hold, or which the cell has not kept, is cleared (R160). -/
theorem supplied_startRetained {s : State} {kept : Bool} (h : (s.retained.check && kept) = false) :
    (s.supplied kept).startRetained = Retained.cleared := by
  rw [State.startRetained, if_neg]
  exact Bool.eq_false_iff.1 h

/-- The supply comes on and the routine runs to its end. -/
theorem startUp_startedFrom (kept : Bool) {m : Retained} (hm : m.closedDown) (f : BitVec 5) :
    s.startedFrom (((s.supplied kept).startBlocks.startedWith m).flagged f) :=
  ⟨startBlocks_blocksStartedFrom s kept, rfl, rfl, hm.2, hm.1⟩

/-- The supply comes on and the routine stops in its step 5. -/
theorem startUp_stoppedFrom (kept : Bool) (f : Retained → Retained) :
    s.stoppedFrom ((s.supplied kept).startBlocks.modRetained f) :=
  ⟨startBlocks_blocksStartedFrom s kept, rfl, rfl, rfl⟩

/-- A key that has not changed raises no flag. -/
theorem startFlags_sameKey (s : State) (kept : Bool) : s.startFlags { lost := !kept, keyChanged := false } =
    (if s.storeCheck then 0#5 else 0x04#5) ||| (if kept then 0#5 else 0x08#5) |||
      (if s.retained.records = [] then 0#5 else 0x01#5) := by
  cases kept <;> simp [State.startFlags]

/-- Only the part's own notice is queued when the raisings are done. -/
theorem positionNotice_not_mem_flagged (m : Retained) (f : BitVec 5) (p : Pos) :
    Message.positionNotice p ∉ ((s.startedWith m).flagged f).link.outbound := by
  change _ ∉ (if f = 0#5 then [] else [Message.partNotice])
  split <;> simp

/-- Insertions acted on after the raisings. -/
theorem flagged_insertsAll {s : State} (waits : ∀ p, (s.unit p).wait = none) (m : Retained) (f : BitVec 5)
    {l : List Pos} (hl : l.Nodup) :
    InsertsAll l ((s.startedWith m).flagged f) (l.foldl State.insert ((s.startedWith m).flagged f)) :=
  foldl_insert_insertsAll l _ hl rfl waits fun p _ => positionNotice_not_mem_flagged s m f p

/-- The routine's end acts on the insertions held, after its raisings (R161). -/
theorem startEnd_insertsAll {s : State} {x : StartUp} (hs : s.starting = some x) (waits : ∀ p, (s.unit p).wait = none) :
    InsertsAll (positions.filter s.insertionHeld)
      ((s.startedWith s.retained.started).flagged ((s.startedWith s.retained.started).startFlags x)) s.startEnd := by
  have nodup : (positions.filter s.insertionHeld).Nodup := (List.nodup_finRange 32).filter _
  have all := flagged_insertsAll waits s.retained.started ((s.startedWith s.retained.started).startFlags x) nodup
  rw [startEnd_eq hs, startRaisings_eq]
  exact all

end

/-- Settles O5: the routine's end is its raisings, then the insertions held, one after another. -/
theorem powerOnStartsUp : Obligations.PowerOnStartsUp := by
  unfold Obligations.PowerOnStartsUp
  intro kept s
  refine ⟨fun on ended pause => ?_, fun off => ?_, fun off n => ?_, fun x on going waits => ?_⟩
  · rw [exec_powerOn, doPowerOn_started on ended]
  · have closed := started_closedDown (s.supplied kept).startRetained
    have lost : (s.retained.check && kept) = false →
        (s.supplied kept).startRetained.started = Retained.cleared := fun h => by
      rw [supplied_startRetained h, cleared_started]
    have reader := startBlocks_reader (s.supplied kept)
    have ran := startBlocks_startEnd (s.supplied kept)
    generalize (s.supplied kept).startRetained.started = m at closed lost ran
    exact ⟨_, congrArg Host.Outcome.next ((doPowerOn_off off kept none).trans ran),
      startUp_startedFrom s kept closed _, rfl, rfl, reader, lost, startFlags_sameKey _ _, rfl⟩
  · refine ⟨_, congrArg Host.Outcome.next (doPowerOn_off off kept (some n)), startUp_stoppedFrom s kept _, rfl, rfl,
      rfl, fun h => ?_⟩
    change Retained.startSome (s.supplied kept).startRetained n = _
    rw [supplied_startRetained h, cleared_startSome]
  · intro held
    have closed := started_closedDown s.retained
    have all := startEnd_insertsAll going waits
    generalize s.retained.started = m at closed all
    generalize hf : (s.startedWith m).startFlags x = f at all
    obtain ⟨inserted, others, same, restart, retained, arbiter, flags, outbound⟩ := all
    rw [show m = s.startEnd.retained from retained.symm] at closed hf
    obtain ⟨marker, ended⟩ := closed
    have isHeld {p : Pos} : p ∈ positions.filter s.insertionHeld ↔ held p = true :=
      List.mem_filter.trans (and_iff_right (mem_positions p))
    refine ⟨_, congrArg Host.Outcome.next (doPowerOn_goes_on on going kept), congrArg Kept.starting same,
      restart, congrArg Kept.hold same, congrArg Kept.received same, congrArg Kept.outstanding same,
      congrArg Kept.transmitting same, congrArg Kept.rate same, congrArg Kept.working same, congrArg Kept.mode same,
      arbiter, congrArg Kept.key same, congrArg Kept.pending same, marker, ended, flags.trans hf.symm, ?_,
      fun p hp => others p (by rw [isHeld, hp]; exact Bool.false_ne_true), fun p hp => ?_⟩
    · have order : (positions.filter fun p => s.notifies p && held p) = positions.filter fun p =>
          held p && (s.posSettings p).notify && decide ((s.unit p).flags &&& 0x001#9 = 0#9) :=
        List.filter_congr fun p _ => (Bool.and_comm _ _).trans (Bool.and_assoc (held p) _ _).symm
      rw [outbound, show s.startEnd.link.flags = f from flags, List.filter_filter, ← order]
      rfl
    · obtain ⟨state, contact, raised, order⟩ := inserted p (isHeld.2 hp)
      exact ⟨state, contact, raised, order⟩

end Sys2Proof.Machine

namespace Sys2Proof.Machine

/-! ## What a command of this family runs -/

theorem exec_seriesLoad (s : State) : exec .seriesLoad s = .next s.doSeriesLoad := rfl
theorem exec_seriesRead (s : State) : exec .seriesRead s = .next s.doSeriesRead := rfl
theorem exec_blockAdd (s : State) : exec .blockAdd s = .next s.doBlockAdd := rfl
theorem exec_blockRemove (s : State) : exec .blockRemove s = .next s.doBlockRemove := rfl
theorem exec_blockClear (s : State) : exec .blockClear s = .next s.doBlockClear := rfl
theorem exec_blockRead (s : State) : exec .blockRead s = .next s.doBlockRead := rfl
theorem exec_openCall (s : State) : exec .openCall s = .next s.doOpen := rfl

/-! ## The series table (R50 to R52) -/

theorem seriesIndex_above {b : Byte} (h : 15 < b.toNat) : seriesIndex b = none := dif_neg (by omega)

theorem seriesIndex_fin {b : Byte} {i : Fin 16} (h : i.val = b.toNat) : seriesIndex b = some i := by
  have small : b.toNat < 16 := h ▸ i.isLt
  rw [seriesIndex, dif_pos small]
  exact congrArg some (Fin.ext h.symm)

theorem codeElsewhere_iff (t : Vector (Option SeriesFields) 16) (i : Fin 16) (code : Half) :
    codeElsewhere t i code = true ↔ ∃ (j : Fin 16) (e : SeriesFields), j ≠ i ∧ t[j.val]'j.isLt = some e ∧ e.code = code := by
  simp [codeElsewhere, List.any_eq_true, List.mem_finRange]

section
variable {s : State} {r : Request} {index action : Byte} {code : Half} {weight : Byte} {maxIssued : Half}
  {retries accepting : Byte}

/-- SERIES LOAD past the protection check, its index above 15. -/
theorem doSeriesLoad_noEntry (hf : s.front .identification = some r)
    (hb : r.body = .seriesLoad index action code weight maxIssued retries accepting) (hg : s.guardRefusal = none)
    (hi : seriesIndex index = none) :
    s.doSeriesLoad = s.replied .identification 0x20#8 r (.refusal .range) := by
  have pass : (s.takeFront .identification).guardRefusal = none := hg
  simp only [State.doSeriesLoad, hf, hb, guarded_pass pass, hi, answer_takeFront]
  rfl

/-- SERIES LOAD past the protection check, on an entry of the table. -/
theorem doSeriesLoad_entry (hf : s.front .identification = some r)
    (hb : r.body = .seriesLoad index action code weight maxIssued retries accepting) (hg : s.guardRefusal = none)
    {i : Fin 16} (hi : seriesIndex index = some i) :
    (seriesLoaded s.working.series i action code weight maxIssued retries accepting = none →
      s.doSeriesLoad = s.replied .identification 0x20#8 r (.refusal .range)) ∧
    (∀ e, seriesLoaded s.working.series i action code weight maxIssued retries accepting = some e →
      s.doSeriesLoad = ({ s with working := { s.working with series := s.working.series.set i.val e i.isLt } }.replied
        .identification 0x20#8 r .ok)) := by
  have pass : (s.takeFront .identification).guardRefusal = none := hg
  refine ⟨fun hl => ?_, fun e hl => ?_⟩
  · simp only [State.doSeriesLoad, hf, hb, guarded_pass pass, hi, takeFront_working, hl, answer_takeFront]
    rfl
  · simp only [State.doSeriesLoad, hf, hb, guarded_pass pass, hi, takeFront_working, hl, State.writeSeries, answer_eq]
    rfl

theorem yesNoOf_of_ne {b : Byte} (h0 : b ≠ 0#8) (h1 : b ≠ 1#8) : yesNoOf b = none := by simp [yesNoOf, h0, h1]

end

/-- Settles O15: by the index, then by what the action, the code and the yes-or-no byte make of the entry. -/
theorem seriesLoadOutcomes : Obligations.SeriesLoadOutcomes := by
  unfold Obligations.SeriesLoadOutcomes
  intro s r index action code weight maxIssued retries accepting hf hb hg hs
  have pass := guardRefusal_none hg hs
  refine ⟨fun above => ?_, fun i hi => ?_⟩
  · rw [exec_seriesLoad, doSeriesLoad_noEntry hf hb pass (seriesIndex_above above)]
  obtain ⟨refused, loaded⟩ := doSeriesLoad_entry hf hb pass (seriesIndex_fin hi)
  have elsewhere := codeElsewhere_iff s.working.series i code
  have run := exec_seriesLoad s
  refine ⟨fun h0 => ?_, fun h1 held => ?_, fun h1 free yesNo => ?_, fun h1 a0 a1 => ?_, fun h0 h1 => ?_⟩
  · rw [run, loaded none (by simp [seriesLoaded, h0])]
  · rw [run, refused]
    simp only [seriesLoaded, h1, elsewhere.2 held]
    cases yesNoOf accepting <;> simp
  · rw [run, loaded]
    have unheld : codeElsewhere s.working.series i code = false := by rw [← Bool.not_eq_true, elsewhere]; exact free
    rcases yesNo with rfl | rfl <;> simp [seriesLoaded, h1, unheld, yesNoOf]
  · rw [run, refused (by simp [seriesLoaded, h1, yesNoOf_of_ne a0 a1])]
  · rw [run, refused (by simp [seriesLoaded, h0, h1])]

/-- Settles O16: by the index. -/
theorem seriesReadReplies : Obligations.SeriesReadReplies := by
  unfold Obligations.SeriesReadReplies
  intro s r index hf hb
  refine ⟨fun above => ?_, fun i hi => ?_⟩
  · simp only [exec_seriesRead, State.doSeriesRead, hf, hb, seriesIndex_above above, answer_takeFront]
    rfl
  · simp only [exec_seriesRead, State.doSeriesRead, hf, hb, seriesIndex_fin hi, answer_takeFront]
    rfl

end Sys2Proof.Machine

namespace Sys2Proof.Machine

/-! ## Ranges as intervals (R53) -/

/-- First serial not above last. -/
@[reducible] def Range.valid (x : Range) : Prop := x.first.toNat ≤ x.last.toNat

/-- A range stands before another of the list, with a serial between them that neither covers where their series is one. -/
@[reducible] def Range.precedes (a b : Range) : Prop :=
  a.series.toNat < b.series.toNat ∨ (a.series.toNat = b.series.toNat ∧ a.last.toNat + 1 < b.first.toNat)

/-- A serial of a series lies in the range. -/
@[reducible] def Range.holds (x : Range) (i : Identity) : Prop :=
  i.series = x.series ∧ x.first.toNat ≤ i.serial.toNat ∧ i.serial.toNat ≤ x.last.toNat

theorem covers_iff (x : Range) (i : Identity) : x.covers i = true ↔ x.holds i := by
  simp only [Range.covers, Bool.and_eq_true, decide_eq_true_eq, and_assoc, eq_comm (a := x.series)]

theorem touches_iff (a b : Range) : a.touches b = true ↔
    a.series.toNat = b.series.toNat ∧ a.first.toNat ≤ b.last.toNat + 1 ∧ b.first.toNat ≤ a.last.toNat + 1 := by
  simp [Range.touches, and_assoc, BitVec.toNat_inj]

theorem meets_iff (a b : Range) : a.meets b = true ↔
    a.series.toNat = b.series.toNat ∧ a.first.toNat ≤ b.last.toNat ∧ b.first.toNat ≤ a.last.toNat := by
  simp [Range.meets, and_assoc, BitVec.toNat_inj]

theorem before_iff (a b : Range) : a.before b = true ↔
    a.series.toNat < b.series.toNat ∨ (a.series.toNat = b.series.toNat ∧ a.first.toNat < b.first.toNat) := by
  simp [Range.before, BitVec.toNat_inj]

theorem splits_iff (span x : Range) : splits span x = true ↔
    x.series = span.series ∧ x.first.toNat < span.first.toNat ∧ span.last.toNat < x.last.toNat := by
  simp [splits, and_assoc]

theorem blocked_iff (bs : List Range) (i : Identity) : blocked bs i = true ↔ ∃ x ∈ bs, x.holds i := by
  simp [blocked, covers_iff]

theorem precedes_iff {a b : Range} (_ : a.valid) (_ : b.valid) :
    (a.before b = true ∧ a.touches b = false) ↔ a.precedes b := by
  rw [← Bool.not_eq_true, before_iff, touches_iff] 
  omega

/-- Of two ranges that do not touch, one precedes the other. -/
theorem precedes_or_precedes {a b : Range} (_ : a.valid) (_ : b.valid) (h : ¬ a.touches b = true) :
    a.precedes b ∨ b.precedes a := by
  rw [touches_iff] at h
  omega

theorem touches_comm (a b : Range) : a.touches b = true ↔ b.touches a = true := by
  rw [touches_iff, touches_iff]
  omega

theorem precedes_trans {a b c : Range} (_ : b.valid) (_ : a.precedes b) (_ : b.precedes c) : a.precedes c := by
  omega

/-- The list of R53, in intervals. -/
theorem blocksCanonical_iff (bs : List Range) :
    blocksCanonical bs ↔ bs.length ≤ 256 ∧ (∀ x ∈ bs, x.valid) ∧ bs.Pairwise Range.precedes := by
  unfold blocksCanonical
  refine and_congr_right fun _ => and_congr_right fun valid => ⟨fun h => ?_, fun h => ?_⟩
  · exact h.imp_of_mem fun ha hb => (precedes_iff (valid _ ha) (valid _ hb)).1
  · exact h.imp_of_mem fun ha hb => (precedes_iff (valid _ ha) (valid _ hb)).2

theorem canonical_apart {bs : List Range} (h : blocksCanonical bs) {y z : Range} (hy : y ∈ bs) (hz : z ∈ bs)
    (ne : y ≠ z) : ¬ y.touches z = true := by
  have apart : bs.Pairwise fun a b => ¬ a.touches b = true := h.2.2.imp fun h => by simp [h.2]
  have symm : Std.Symm fun a b : Range => ¬ a.touches b = true := ⟨fun a b h => mt (touches_comm b a).1 h⟩
  exact apart.forall hy hz ne

/-- A list covers what its ranges with a property and those without it cover. -/
theorem blocked_filter_or (bs : List Range) (f : Range → Bool) (i : Identity) :
    (blocked (bs.filter fun z => !f z) i = true ∨ ∃ z ∈ bs.filter f, z.holds i) ↔ blocked bs i = true := by
  simp only [blocked_iff, List.mem_filter, ← exists_or, ← or_and_right, ← and_or_left, Bool.not_eq_true']
  exact exists_congr fun z => by cases f z <;> simp

/-! ## BLOCK ADD on the list (R54) -/

theorem insertRange_perm (x : Range) (bs : List Range) : (insertRange x bs).Perm (x :: bs) := by
  induction bs with
  | nil => exact .refl _
  | cons y bs ih =>
    unfold insertRange
    split
    · exact .refl _
    · exact (ih.cons y).trans (.swap x y bs)

/-- A range that touches none of the list finds its place in it. -/
theorem insertRange_precedes {x : Range} (hx : x.valid) {bs : List Range} (valid : ∀ y ∈ bs, y.valid)
    (apart : ∀ y ∈ bs, ¬ y.touches x = true) (sorted : bs.Pairwise Range.precedes) :
    (insertRange x bs).Pairwise Range.precedes := by
  induction bs with
  | nil => exact List.pairwise_singleton _ x
  | cons y bs ih =>
    rw [List.forall_mem_cons] at valid apart
    rw [List.pairwise_cons] at sorted
    have either := precedes_or_precedes valid.1 hx apart.1
    unfold insertRange
    split
    · next first =>
      have xy : x.precedes y := either.resolve_left fun h => by
        have := valid.1
        rw [before_iff] at first
        omega
      exact .cons (List.forall_mem_cons.2 ⟨xy, fun z hz => precedes_trans valid.1 xy (sorted.1 z hz)⟩)
        (List.pairwise_cons.2 sorted)
    · next later =>
      have yx : y.precedes x := either.resolve_right fun h => later ((precedes_iff hx valid.1).2 h).1
      refine .cons (fun z hz => ?_) (ih valid.2 apart.2 sorted.2)
      obtain rfl | hz := List.mem_cons.1 ((insertRange_perm x bs).mem_iff.1 hz)
      · exact yx
      · exact sorted.1 z hz

theorem insertRange_length (x : Range) (bs : List Range) : (insertRange x bs).length = bs.length + 1 :=
  (insertRange_perm x bs).length_eq

theorem blocked_insertRange (x : Range) (bs : List Range) (i : Identity) :
    blocked (insertRange x bs) i = true ↔ blocked bs i = true ∨ x.holds i := by
  simp only [blocked_iff, (insertRange_perm x bs).mem_iff, List.mem_cons, or_and_right, exists_or, exists_eq_left,
    or_comm]

theorem insertRange_canonical {x : Range} (hx : x.valid) {bs : List Range} (room : bs.length < 256)
    (valid : ∀ y ∈ bs, y.valid) (apart : ∀ y ∈ bs, ¬ y.touches x = true) (sorted : bs.Pairwise Range.precedes) :
    blocksCanonical (insertRange x bs) := by
  refine (blocksCanonical_iff _).2 ⟨(insertRange_length x bs).trans_le room, fun y hy => ?_,
    insertRange_precedes hx valid apart sorted⟩
  obtain rfl | hy := List.mem_cons.1 ((insertRange_perm x bs).mem_iff.1 hy)
  · exact hx
  · exact valid y hy

theorem join_series (a b : Range) : (a.join b).series = a.series := rfl

theorem join_first (a b : Range) : (a.join b).first.toNat = min a.first.toNat b.first.toNat := by
  unfold Range.join
  dsimp only
  split <;> omega

theorem join_last (a b : Range) : (a.join b).last.toNat = max a.last.toNat b.last.toNat := by
  unfold Range.join
  dsimp only
  split <;> omega

theorem join_valid {a b : Range} (_ : a.valid) : (a.join b).valid := by
  rw [Range.valid, join_first, join_last]
  omega

/-- Two ranges that touch join to the range that covers what they cover. -/
theorem join_holds {a b : Range} (_ : a.valid) (_ : b.valid) (h : b.touches a = true) (i : Identity) :
    (a.join b).holds i ↔ a.holds i ∨ b.holds i := by
  rw [touches_iff, BitVec.toNat_inj] at h
  by_cases series : i.series = a.series
  · simp only [Range.holds, join_series, join_first, join_last, h.1, series, true_and]
    omega
  · simp [Range.holds, join_series, h.1, series]

/-- A range touches the joint of two that touch when it touches one of them. -/
theorem touches_join {a b y : Range} (_ : a.valid) (_ : b.valid) (_ : y.valid) (h : b.touches a = true) :
    y.touches (a.join b) = true ↔ y.touches a = true ∨ y.touches b = true := by
  rw [touches_iff] at h
  rw [touches_iff, touches_iff, touches_iff, join_series, join_first, join_last]
  omega

/-- What joining a list of ranges over `a` leaves: all that they cover, and apart from what each of them is apart from. -/
theorem foldl_join {l : List Range} (hl : ∀ x ∈ l, x.valid) : ∀ {a : Range}, a.valid → (∀ x ∈ l, x.touches a = true) →
    (l.foldl Range.join a).valid ∧
    (∀ i, (l.foldl Range.join a).holds i ↔ a.holds i ∨ ∃ x ∈ l, x.holds i) ∧
    (∀ y : Range, y.valid → ¬ y.touches a = true → (∀ x ∈ l, ¬ y.touches x = true) →
      ¬ y.touches (l.foldl Range.join a) = true) := by
  induction l with
  | nil => exact fun ha _ => ⟨ha, fun i => by simp, fun y _ h _ => h⟩
  | cons x l ih =>
    intro a ha touch
    rw [List.forall_mem_cons] at hl touch
    have joined (y : Range) (hy : y.valid) := touches_join ha hl.1 hy touch.1
    obtain ⟨valid, holds, apart⟩ := ih hl.2 (join_valid (b := x) ha) fun y hy =>
      (joined y (hl.2 y hy)).2 (.inl (touch.2 y hy))
    refine ⟨valid, fun i => ?_, fun y hy ya yl => ?_⟩
    · rw [List.foldl_cons, holds, join_holds ha hl.1 touch.1]
      simp [or_assoc]
    · rw [List.forall_mem_cons] at yl
      exact apart y hy (fun h => ((joined y hy).1 h).elim ya yl.1) yl.2

theorem no_touching_iff (bs : List Range) (x : Range) :
    (bs.filter fun y => y.touches x) = [] ↔ ¬ ∃ y ∈ bs, y.touches x = true := by simp

theorem addRange_none {bs : List Range} {x : Range} :
    addRange bs x = none ↔ (¬ ∃ y ∈ bs, y.touches x = true) ∧ 256 ≤ bs.length := by
  rw [← no_touching_iff]
  unfold addRange Config.blockRanges
  dsimp only
  split
  · next empty => split <;> simp [empty] <;> omega
  · next some => simp [some]

/-- What BLOCK ADD makes of the list (R54): the ranges that touch the new one are joined with it, the others stay. -/
theorem addRange_some {bs cs : List Range} {x : Range} (h : blocksCanonical bs) (hx : x.valid)
    (hc : addRange bs x = some cs) :
    blocksCanonical cs ∧ (∀ i, blocked cs i = true ↔ blocked bs i = true ∨ x.holds i) ∧
      ((∃ y ∈ bs, y.touches x = true) → cs.length ≤ bs.length) ∧
      ((¬ ∃ y ∈ bs, y.touches x = true) → cs.length = bs.length + 1) := by
  obtain ⟨short, valid, sorted⟩ := (blocksCanonical_iff bs).1 h
  unfold addRange Config.blockRanges at hc
  dsimp only at hc
  split at hc
  · next empty =>
    have alone := (no_touching_iff bs x).1 empty
    obtain ⟨room, rfl⟩ : bs.length < 256 ∧ insertRange x bs = cs := by simpa using hc
    exact ⟨insertRange_canonical hx room valid (fun y hy h => alone ⟨y, hy, h⟩) sorted, blocked_insertRange x bs,
      fun h => absurd h alone, fun _ => insertRange_length x bs⟩
  · next joins =>
    obtain ⟨y, hy, touch⟩ := not_not.1 (mt (no_touching_iff bs x).2 joins)
    cases hc
    have kept : ∀ z ∈ bs.filter fun z => !z.touches x, z ∈ bs ∧ ¬ z.touches x = true := fun z hz => by
      simpa using hz
    have gone : ∀ z ∈ bs.filter fun z => z.touches x, z ∈ bs ∧ z.touches x = true := fun z hz => List.mem_filter.1 hz
    obtain ⟨joined, holds, apart⟩ :=
      foldl_join (fun z hz => valid z (gone z hz).1) hx fun z hz => (gone z hz).2
    have shorter : (bs.filter fun z => !z.touches x).length < bs.length :=
      List.length_filter_lt_length_iff_exists.2 ⟨y, hy, by simp [touch]⟩
    refine ⟨insertRange_canonical joined (by omega) (fun z hz => valid z (kept z hz).1) (fun z hz => ?_)
      (sorted.filter _), fun i => ?_, fun _ => ?_, fun h => absurd ⟨y, hy, touch⟩ h⟩
    · refine apart z (valid z (kept z hz).1) (kept z hz).2 fun w hw => canonical_apart h (kept z hz).1 (gone w hw).1 ?_
      rintro rfl
      exact (kept z hz).2 (gone z hw).2
    · rw [blocked_insertRange, holds, ← or_assoc, or_right_comm, blocked_filter_or]
    · rw [insertRange_length]; exact shorter

/-! ## BLOCK REMOVE on the list (R55) -/

/-- A range within another: of its series and inside its serials. -/
@[reducible] def Range.within (x y : Range) : Prop :=
  x.series = y.series ∧ y.first.toNat ≤ x.first.toNat ∧ x.first.toNat ≤ x.last.toNat ∧ x.last.toNat ≤ y.last.toNat

theorem pred_toNat {n k : Quad} (h : k.toNat < n.toNat) : (n - 1#32).toNat = n.toNat - 1 := by bv_omega

theorem succ_toNat {n k : Quad} (h : n.toNat < k.toNat) : (n + 1#32).toNat = n.toNat + 1 := by bv_omega

theorem cutRange_apart {span x : Range} (h : ¬ x.meets span = true) : cutRange span x = [x] := if_neg h

/-- The pieces that a span leaves of a range: what lies below it and what lies above. -/
theorem mem_cutRange {span x y : Range} (h : x.meets span = true) : y ∈ cutRange span x ↔
    (x.first.toNat < span.first.toNat ∧ y = { x with last := span.first - 1#32 }) ∨
    (span.last.toNat < x.last.toNat ∧ y = { x with first := span.last + 1#32 }) := by
  unfold cutRange
  rw [if_pos h, List.mem_append]
  split <;> split <;> simp_all

theorem cutRange_within {span x y : Range} (_ : span.valid) (hx : x.valid) (h : y ∈ cutRange span x) : y.within x := by
  by_cases meets : x.meets span = true
  · rw [mem_cutRange meets] at h
    rw [meets_iff] at meets
    rcases h with ⟨below, rfl⟩ | ⟨above, rfl⟩
    · have := pred_toNat below
      refine ⟨rfl, ?_, ?_, ?_⟩ <;> dsimp only <;> omega
    · have := succ_toNat above
      refine ⟨rfl, ?_, ?_, ?_⟩ <;> dsimp only <;> omega
  · rw [cutRange_apart meets, List.mem_singleton] at h
    subst h
    exact ⟨rfl, le_rfl, hx, le_rfl⟩

/-- The pieces cover what the range covers outside the span. -/
theorem cutRange_holds {span x : Range} (_ : span.valid) (_ : x.valid) (i : Identity) :
    (∃ y ∈ cutRange span x, y.holds i) ↔ x.holds i ∧ ¬ span.holds i := by
  by_cases meets : x.meets span = true
  · simp only [mem_cutRange meets, or_and_right, exists_or, and_assoc, exists_and_left, exists_eq_left]
    rw [meets_iff, BitVec.toNat_inj] at meets
    by_cases series : i.series = x.series
    · simp only [Range.holds, series, meets.1, true_and]
      have below := pred_toNat (n := span.first) (k := x.first)
      have above := succ_toNat (n := span.last) (k := x.last)
      omega
    · simp [Range.holds, series]
  · simp only [cutRange_apart meets, List.mem_singleton, exists_eq_left, iff_self_and]
    rw [meets_iff, BitVec.toNat_inj] at meets
    intro hi h
    exact meets ⟨hi.1.symm.trans h.1, by omega⟩

/-- The pieces stand in the order of the list. -/
theorem cutRange_sorted {span : Range} (_ : span.valid) (x : Range) : (cutRange span x).Pairwise Range.precedes := by
  unfold cutRange
  split
  · split
    · split
      · have := pred_toNat ‹x.first.toNat < span.first.toNat›
        have := succ_toNat ‹span.last.toNat < x.last.toNat›
        refine List.pairwise_pair.2 (.inr ⟨rfl, ?_⟩)
        dsimp only
        omega
      · exact List.pairwise_singleton _ _
    · split
      · exact List.pairwise_singleton _ _
      · exact .nil
  · exact List.pairwise_singleton _ _

/-- A range that is not split leaves one piece at most. -/
theorem cutRange_length_of_not_splits {span x : Range} (h : ¬ splits span x = true) : (cutRange span x).length ≤ 1 := by
  by_cases meets : x.meets span = true
  · rw [splits_iff] at h
    rw [meets_iff, BitVec.toNat_inj] at meets
    unfold cutRange
    split
    · split <;> split <;> simp
      exact h ⟨meets.1, ‹_›, ‹_›⟩
    · simp
  · simp [cutRange_apart meets]

theorem cutRange_splits {span x : Range} (hs : span.valid) (h : splits span x = true) : cutRange span x =
    [{ x with last := span.first - 1#32 }, { x with first := span.last + 1#32 }] := by
  rw [splits_iff] at h
  have meets : x.meets span = true := by
    rw [meets_iff, BitVec.toNat_inj]
    exact ⟨h.1, by omega⟩
  unfold cutRange
  rw [if_pos meets, if_pos h.2.1, if_pos h.2.2]
  rfl

theorem flatMap_length_le {α β : Type} {f : α → List β} {l : List α} (h : ∀ x ∈ l, (f x).length ≤ 1) :
    (l.flatMap f).length ≤ l.length := by
  induction l with
  | nil => exact le_rfl
  | cons x l ih =>
    rw [List.forall_mem_cons] at h
    have := ih h.2
    rw [List.flatMap_cons, List.length_append, List.length_cons]
    omega

/-- A range beside one that the span splits is not met by the span. -/
theorem cutRange_beside {span x y : Range} (h : splits span y = true) (apart : x.precedes y ∨ y.precedes x) :
    cutRange span x = [x] := by
  rw [splits_iff, ← BitVec.toNat_inj] at h
  refine cutRange_apart ?_
  rw [meets_iff]
  omega

/-- A split leaves one range more: the span meets no other. -/
theorem flatMap_cut_of_splits {span y : Range} {bs : List Range} (h : blocksCanonical bs) (hs : span.valid) (hy : y ∈ bs)
    (hsplit : splits span y = true) : (bs.flatMap (cutRange span)).length = bs.length + 1 := by
  obtain ⟨-, -, sorted⟩ := (blocksCanonical_iff bs).1 h
  obtain ⟨l, r, rfl⟩ := List.append_of_mem hy
  obtain ⟨-, right, left⟩ := List.pairwise_append.1 sorted
  have below : l.flatMap (cutRange span) = l := by
    conv_rhs => rw [← List.flatMap_singleton' l]
    exact List.flatMap_congr fun x hx => cutRange_beside hsplit (.inl (left x hx y List.mem_cons_self))
  have above : r.flatMap (cutRange span) = r := by
    conv_rhs => rw [← List.flatMap_singleton' r]
    exact List.flatMap_congr fun x hx => cutRange_beside hsplit (.inr ((List.pairwise_cons.1 right).1 x hx))
  rw [List.flatMap_append, List.flatMap_cons, below, above, cutRange_splits hs hsplit]
  simp only [List.length_append, List.length_cons, List.length_nil]
  omega

theorem removeSpan_none {bs : List Range} {span : Range} :
    removeSpan bs span = none ↔ (∃ y ∈ bs, splits span y = true) ∧ 256 ≤ bs.length := by
  simp [removeSpan, Config.blockRanges, exists_and_right, ← and_assoc]

/-- What BLOCK REMOVE makes of the list (R55): what each range covers outside the span, in place. -/
theorem removeSpan_some {bs cs : List Range} {span : Range} (h : blocksCanonical bs) (hs : span.valid)
    (hc : removeSpan bs span = some cs) :
    blocksCanonical cs ∧ (∀ i, blocked cs i = true ↔ blocked bs i = true ∧ ¬ span.holds i) ∧
      ((¬ ∃ y ∈ bs, splits span y = true) → cs.length ≤ bs.length) ∧
      ((∃ y ∈ bs, splits span y = true) → cs.length = bs.length + 1) := by
  obtain ⟨short, valid, sorted⟩ := (blocksCanonical_iff bs).1 h
  have room : ¬ ((∃ y ∈ bs, splits span y = true) ∧ 256 ≤ bs.length) := by
    rw [← removeSpan_none, hc]
    exact Option.some_ne_none cs
  obtain rfl : bs.flatMap (cutRange span) = cs := by
    unfold removeSpan at hc
    split at hc
    · cases hc
    · exact Option.some.inj hc
  have shorter (whole : ¬ ∃ y ∈ bs, splits span y = true) : (bs.flatMap (cutRange span)).length ≤ bs.length :=
    flatMap_length_le fun y hy => cutRange_length_of_not_splits fun h => whole ⟨y, hy, h⟩
  have longer : (∃ y ∈ bs, splits span y = true) → (bs.flatMap (cutRange span)).length = bs.length + 1 :=
    fun ⟨y, hy, hsplit⟩ => flatMap_cut_of_splits h hs hy hsplit
  have within {x y : Range} (hx : x ∈ bs) (hy : y ∈ cutRange span x) : y.within x := cutRange_within hs (valid x hx) hy
  refine ⟨(blocksCanonical_iff _).2 ⟨?_, fun y hy => ?_, ?_⟩, fun i => ?_, shorter, longer⟩
  · by_cases split : ∃ y ∈ bs, splits span y = true
    · have := longer split
      have := not_and.1 room split
      omega
    · exact (shorter split).trans short
  · obtain ⟨x, hx, hy⟩ := List.mem_flatMap.1 hy
    exact (within hx hy).2.2.1
  · refine List.pairwise_flatMap.2 ⟨fun x hx => ?_, sorted.imp_of_mem fun ha hb hab x hx y hy => ?_⟩
    · exact cutRange_sorted hs x
    · obtain ⟨sa, -, va, la⟩ := within ha hx
      obtain ⟨sb, fb, -, -⟩ := within hb hy
      rw [Range.precedes, sa, sb]
      omega
  · have pieces (x : Range) (hx : x ∈ bs) := cutRange_holds hs (valid x hx) i
    calc blocked (bs.flatMap (cutRange span)) i = true
        ↔ ∃ x ∈ bs, ∃ y ∈ cutRange span x, y.holds i := by
          simp only [blocked, List.any_flatMap, List.any_eq_true, covers_iff]
      _ ↔ ∃ x ∈ bs, x.holds i ∧ ¬ span.holds i := exists_congr fun x => and_congr_right (pieces x)
      _ ↔ blocked bs i = true ∧ ¬ span.holds i := by simp only [blocked_iff, exists_and_right, ← and_assoc]

/-! ## The requests on the block list (R54 to R56) -/

/-- The state in which the list is written, and its count in the reply. -/
theorem blocksChanged_some (s : State) (r : Request) (bs : List Range) :
    (s.takeFront .identification).blocksChanged r (some bs) =
      ({ s with working := { s.working with blocks := bs } } : State).replied .identification r.body.typeCode r
        (.count bs.length) := rfl

section
variable {s : State} {r : Request} {x : Range}

/-- BLOCK ADD past the protection check. -/
theorem doBlockAdd_eq (hf : s.front .identification = some r) (hb : r.body = .blockAdd x)
    (hg : s.guardRefusal = none) : s.doBlockAdd =
      if Range.empty x then s.replied .identification 0x22#8 r (.refusal .range)
      else (s.takeFront .identification).blocksChanged r (addRange s.working.blocks x) := by
  have pass : (s.takeFront .identification).guardRefusal = none := hg
  simp only [State.doBlockAdd, hf, hb, guarded_pass pass, answer_takeFront, takeFront_working]
  rfl

/-- BLOCK REMOVE past the protection check. -/
theorem doBlockRemove_eq (hf : s.front .identification = some r) (hb : r.body = .blockRemove x)
    (hg : s.guardRefusal = none) : s.doBlockRemove =
      if Range.empty x then s.replied .identification 0x23#8 r (.refusal .range)
      else (s.takeFront .identification).blocksChanged r (removeSpan s.working.blocks x) := by
  have pass : (s.takeFront .identification).guardRefusal = none := hg
  simp only [State.doBlockRemove, hf, hb, guarded_pass pass, answer_takeFront, takeFront_working]
  rfl

theorem Range.empty_iff (x : Range) : Range.empty x = true ↔ x.last.toNat < x.first.toNat := by simp [Range.empty]

theorem Range.not_empty_iff (x : Range) : ¬ Range.empty x = true ↔ x.valid := by
  rw [Range.empty_iff, not_lt]

end

/-- Settles O17: what `addRange` answers says which of the three replies goes out. -/
theorem blockAddCoversRange : Obligations.BlockAddCoversRange := by
  unfold Obligations.BlockAddCoversRange
  intro s r x hf hb hg hs canonical touching
  have run := (exec_blockAdd s).trans (congrArg Host.Outcome.next (doBlockAdd_eq hf hb (guardRefusal_none hg hs)))
  have code : r.body.typeCode = 0x22#8 := by rw [hb]; rfl
  refine ⟨fun empty => ?_, fun valid apart full => ?_, fun valid room => ?_⟩
  · rw [run, if_pos ((Range.empty_iff x).2 empty)]
  · rw [run, if_neg ((Range.not_empty_iff x).2 valid), addRange_none.2 ⟨apart, full.ge⟩, ← code]
    rfl
  · cases hc : addRange s.working.blocks x with
    | none =>
      obtain ⟨apart, full⟩ := addRange_none.1 hc
      exact absurd (room.resolve_left apart) (Nat.not_lt.2 full)
    | some bs =>
      rw [run, if_neg ((Range.not_empty_iff x).2 valid), hc, blocksChanged_some, code]
      exact ⟨bs, rfl, (addRange_some canonical valid hc).2⟩

/-- Settles O18: what `removeSpan` answers says which of the three replies goes out. -/
theorem blockRemoveUncoversSpan : Obligations.BlockRemoveUncoversSpan := by
  unfold Obligations.BlockRemoveUncoversSpan
  intro s r x hf hb hg hs canonical split
  have run := (exec_blockRemove s).trans (congrArg Host.Outcome.next (doBlockRemove_eq hf hb (guardRefusal_none hg hs)))
  have code : r.body.typeCode = 0x23#8 := by rw [hb]; rfl
  have split_iff : split ↔ ∃ y ∈ s.working.blocks, splits x y = true :=
    exists_congr fun y => and_congr_right fun _ => (splits_iff x y).symm
  refine ⟨fun empty => ?_, fun valid cut full => ?_, fun valid room => ?_⟩
  · rw [run, if_pos ((Range.empty_iff x).2 empty)]
  · rw [run, if_neg ((Range.not_empty_iff x).2 valid), removeSpan_none.2 ⟨split_iff.1 cut, full.ge⟩, ← code]
    rfl
  · rw [split_iff] at room ⊢
    cases hc : removeSpan s.working.blocks x with
    | none =>
      obtain ⟨cut, full⟩ := removeSpan_none.1 hc
      exact absurd (room.resolve_left fun h => h cut) (Nat.not_lt.2 full)
    | some bs =>
      rw [run, if_neg ((Range.not_empty_iff x).2 valid), hc, blocksChanged_some, code]
      exact ⟨bs, rfl, (removeSpan_some canonical valid hc).2⟩

/-- Settles O19: an empty list is written, and up to 8 ranges of the list are carried. -/
theorem blockClearAndRead : Obligations.BlockClearAndRead := by
  unfold Obligations.BlockClearAndRead
  intro s r hf
  refine ⟨fun hb hg hs => ?_, fun start hb => ?_⟩
  · have pass : (s.takeFront .identification).guardRefusal = none := guardRefusal_none hg hs
    simp only [exec_blockClear, State.doBlockClear, hf, hb, guarded_pass pass, blocksChanged_some]
    rfl
  · simp only [exec_blockRead, State.doBlockRead, hf, hb, answer_takeFront, carriedRanges]
    rfl

end Sys2Proof.Machine

namespace Sys2Proof.Machine

/-! ## A card refused by a step, or by OPEN (R36, R57) -/

/-- What a refusal leaves, from `s` to `t`: the position REJECTED with its cause, its shown identity as it stood. -/
structure CardRefused (p : Pos) (x : Cause) (shown : Option Identity) (s t : State) : Prop where
  same : s.sameApartFrom p t
  retained : t.retained = s.retained
  line : (t.line p).state = .rejected ∧ (t.line p).cause = some x ∧ (t.line p).contact = .unpowered ∧
    (t.line p).order = none ∧ (t.line p).shownId = shown
  unit : (t.unit p).held = none ∧ (t.unit p).seq = none ∧ (t.unit p).terms = none ∧ (t.unit p).inForce = false ∧
    (t.unit p).flags = (s.unit p).flags ||| 0x008#9
  outbound : t.link.outbound = s.link.outbound ++ s.noticeOf p .rejected

theorem reject_refuses (s : State) (p : Pos) (x : Cause) : CardRefused p x (s.line p).shownId s (s.reject p x) := by
  have unit := reject_unit s p x
  have flags : (((s.contactOff p .unpowered).modUnit p (Position.rejected x)).unit p).flags = (s.unit p).flags := by
    simp [Position.rejected]
  have kept : ((s.contactOff p .unpowered).modUnit p (Position.rejected x)).kept = s.kept := by simp
  have settings : ((s.contactOff p .unpowered).modUnit p (Position.rejected x)).posSettings p = s.posSettings p := by
    simp only [State.posSettings, kept_working kept]
  refine ⟨sameApartFrom_reject s p x, by simp [State.reject], ?_, ?_, ?_⟩
  · rw [State.line, unit]; exact ⟨rfl, rfl, rfl, rfl, rfl⟩
  · rw [unit]; exact ⟨rfl, rfl, rfl, rfl, rfl⟩
  · rw [State.reject, raise_outbound, noticeOf_congr flags settings (by simp)]
    simp

/-! ## OPEN refused (R57, R75, R131) -/

theorem doOpen_eq {s : State} {r : Request} {p : Pos} {threshold : Half} (hf : s.front .callTable = some r)
    (hb : r.body = .openCall threshold) (hp : posOf r.pos = some p) (hc : (s.ctx p).completionDue = false) :
    s.doOpen = (s.takeFront .callTable).takeOpen p r threshold.toNat := by
  have due : ((s.takeFront .callTable).ctx p).completionDue = false := hc
  simp only [State.doOpen, hf, hb, hp, completeIfDue_of_not due]

theorem openReady_of_not_ready {s : State} {p : Pos} (h : (s.line p).state ≠ .ready) : s.openReady p = none := by
  unfold State.openReady
  split
  · contradiction
  · rfl

section
variable {s : State} {p : Pos} {i : Image} {x : Terms} (ho : s.openReady p = some (i, x)) {r : Request} {n : Nat}
include ho

theorem takeOpen_blocked (hb : blocked s.working.blocks i.header.id = true) :
    s.takeOpen p r n = (s.reject p .blocked).answer r (.refusal .blocked) := by
  simp [State.takeOpen, ho, hb]

theorem takeOpen_full (hb : blocked s.working.blocks i.header.id = false) (hm : s.retained.mayReserve = false) :
    s.takeOpen p r n = s.answer r (.refusal .recordsFull) := by
  simp [State.takeOpen, ho, hb, hm]

end

theorem completionDue_of_noCall {c : Context} (h : c.state = .noCall) : c.completionDue = false := by
  simp [Context.completionDue, h]

/-- Settles O25: by what OPEN finds of a READY position, then by the block list and the record list. -/
theorem openRefused : Obligations.OpenRefused := by
  unfold Obligations.OpenRefused
  intro s r p threshold hf hb hp
  have code : r.body.typeCode = 0x30#8 := by rw [hb]; rfl
  have run (hc : (s.ctx p).completionDue = false) := (exec_openCall s).trans (congrArg _ (doOpen_eq hf hb hp hc))
  refine ⟨fun state due => ?_, fun i x state call image terms => ?_⟩
  · have notReady : (s.takeFront .callTable).openReady p = none := openReady_of_not_ready state
    rw [run due, State.takeOpen, notReady, ← code]
    rfl
  have ready : (s.takeFront .callTable).openReady p = some (i, x) := by
    have : s.openReady p = some (i, x) := by simp only [State.openReady, state, call, image, terms]
    exact this
  have go := run (completionDue_of_noCall call)
  refine ⟨fun listed => ?_, fun clear full => ?_⟩
  · rw [takeOpen_blocked ready listed] at go
    obtain ⟨same, retained, ⟨hs, hc, hpow, -, hid⟩, ⟨hheld, -, hterms, hforce, hflags⟩, outbound⟩ :=
      reject_refuses (s.takeFront .callTable) p .blocked
    refine ⟨_, go, sameApartFrom_trans same (sameApartFrom_send _ p _), retained, hs, hc, hpow, hid, hheld, hterms, hforce,
      hflags, ?_⟩
    rw [answer_outbound, outbound, code]
    rfl
  · have noRoom : s.retained.mayReserve = false := by simpa [Retained.mayReserve, Retained.room, Config.openSlots] using full
    rw [go, takeOpen_full ready clear noRoom, ← code]
    rfl

/-! ## The answer of a card to READ HEAD (R3, R5, R170) -/

theorem halfOf_halfBytes (h : Half) : halfOf (h.extractLsb' 8 8) (h.extractLsb' 0 8) = h := by
  unfold halfOf
  rw [BitVec.extractLsb'_append_extractLsb'_eq_extractLsb' (by decide)]
  simp

theorem quadOf_quadBytes (q : Quad) : quadOf ((q.extractLsb' 16 16).extractLsb' 8 8) ((q.extractLsb' 16 16).extractLsb' 0 8)
    ((q.extractLsb' 0 16).extractLsb' 8 8) ((q.extractLsb' 0 16).extractLsb' 0 8) = q := by
  unfold quadOf
  rw [halfOf_halfBytes, halfOf_halfBytes, BitVec.extractLsb'_append_extractLsb'_eq_extractLsb' (by decide)]
  simp

theorem readAnswer_headerBytes (h : Header) : readAnswer .readHead (0#8 :: headerBytes h) = some (.header h) := by
  change some (Answer.header ⟨⟨halfOf _ _, quadOf _ _ _ _⟩, halfOf _ _, halfOf _ _⟩) = _
  rw [halfOf_halfBytes, halfOf_halfBytes, halfOf_halfBytes, quadOf_quadBytes]

/-! ## Steps 3 to 6 (R39 to R42) -/

section
variable {t : Vector (Option SeriesFields) 16} {code : Half} {e : SeriesFields}

/-- An entry's values lie in their valid ranges (R39). -/
theorem valid_iff (e : SeriesFields) : e.valid = true ↔
    (1 ≤ e.weight.toNat ∧ e.weight.toNat ≤ 100) ∧ (1 ≤ e.maxIssued.toNat ∧ e.maxIssued.toNat ≤ 4095) := by
  simp [SeriesFields.valid, and_assoc]

theorem seriesTerms_unknown (h : seriesEntry t code = none) : seriesTerms t code = .error .seriesUnknown := by
  simp [seriesTerms, h]

theorem seriesTerms_withdrawn (h : seriesEntry t code = some e) (ha : e.accepting = false) :
    seriesTerms t code = .error .withdrawn := by
  simp [seriesTerms, h, ha]

theorem seriesTerms_invalid (h : seriesEntry t code = some e) (ha : e.accepting = true) (hv : ¬ e.valid = true) :
    seriesTerms t code = .error .seriesInvalid := by
  simp [seriesTerms, h, ha, hv]

theorem seriesTerms_ok (h : seriesEntry t code = some e) (ha : e.accepting = true) (hv : e.valid = true) :
    seriesTerms t code = .ok e.terms := by
  simp [seriesTerms, h, ha, hv]

end

section
variable {s : State} {p : Pos} {h : Header} {x : Terms}

theorem heldElsewhere_iff (s : State) (p : Pos) (i : Identity) :
    s.heldElsewhere p i = true ↔ ∃ q, q ≠ p ∧ (s.unit q).held = some i := by
  simp [State.heldElsewhere, List.any_eq_true, mem_positions]

theorem checkCard_unserved {c : Cause} (ht : seriesTerms s.working.series h.id.series = .error c) :
    s.checkCard p h = s.reject p c := by
  simp [State.checkCard, ht]

theorem checkCard_refused {c : Cause} (ht : seriesTerms s.working.series h.id.series = .ok x)
    (hc : s.cardRefused p h x = some c) : s.checkCard p h = s.reject p c := by
  simp [State.checkCard, ht, hc]

theorem checkCard_accepted (ht : seriesTerms s.working.series h.id.series = .ok x) (hc : s.cardRefused p h x = none) :
    s.checkCard p h = (s.modUnit p (Position.accepted h x)).nextRead p := by
  simp [State.checkCard, ht, hc]

end

/-! ## Step 2 answered (R36, R38) -/

/-- Outcome of a step of the sequence that goes on, from `s` to `t`: a read of kind `k` begun, the record as `z`. -/
structure ReadBegun (p : Pos) (k : OrderKind) (z : Sequence) (s t : State) : Prop where
  same : s.sameApartFrom p t
  ctx : t.ctx p = s.ctx p
  link : t.link = s.link
  state : (t.line p).state = .identifying
  seq : (t.unit p).seq = some z
  order : ∃ e : Order, (t.line p).order = some e ∧ e.kind = k ∧ e.begun = true ∧ e.retry = false ∧
    e.purpose = .read .sequence

section
variable {s : State} {p : Pos} {o : Order} {q : Sequence} {c : Card} {b : Bool} {n : Nat}

/-- The answer to READ HEAD is worked on the state in which the card has finished its order. -/
theorem headerRead_answered (ho : (s.line p).order = some o) (hk : o.kind = .readHead) (hp : o.purpose = .read .sequence)
    (hm : s.mayBegin p = true) (hr : (s.unit p).reader = some (.card c)) (hc : c.power = .working .readHead b n)
    (hn : n ≤ 4) :
    exec (.answerFrame p .answer) s = .next (((s.answeredBy p).headerAnswered p c.header).startRest p) := by
  have restart := ((mayBegin_iff s p).1 hm).2
  have answered : (s.modCard p cardFinish).answered p o (.header c.header) =
      (s.answeredBy p).headerAnswered p c.header := by
    simp only [State.answered, hp]
    rfl
  rw [exec_answerFrame, doAnswerFrame_card ho (by simp [hp]) hr hc hn hk (by simp [cardAnswerContent, headerBytes, headerSpan,
    identityBytes, halfBytes, quadBytes]) (readAnswer_headerBytes c.header), answered]
  refine congrArg _ (restartSettle_of_none ((kept_restart (s := s) ?_).2 restart))
  rw [kept_startRest, kept_headerAnswered]
  rfl

/-- The next read of the sequence goes out on POWERED contacts. -/
theorem nextRead_sends (hm : s.mayBegin p = true) (hc : (s.line p).contact = .powered) (hq : (s.unit p).seq = some q) :
    (s.nextRead p).startRest p =
      s.beginOrder p (if q.step = 2 then .readHead else .readTally) 0 .first (.read .sequence) := by
  have kind : s.readKind p .sequence = if q.step = 2 then .readHead else .readTally := by simp [State.readKind, hq]
  rw [State.nextRead, if_pos hm, sendRead_powered hc, startRest_of_order (by simp [State.line]), kind]

theorem headerAnswered_good {h : Header} (good : crc (headerSpan h) = h.check) :
    s.headerAnswered p h = (s.modUnit p (Position.headerRead h)).checkCard p h := by
  simp [State.headerAnswered, Header.checkGood, good]

theorem headerAnswered_again {h : Header} (bad : ¬ crc (headerSpan h) = h.check) (hq : (s.unit p).seq = some q)
    (hr : q.reread = false) : s.headerAnswered p h =
      (s.modUnit p fun u => { u with seq := u.seq.map fun q => { q with reread := true } }).nextRead p := by
  simp [State.headerAnswered, Header.checkGood, bad, hq, hr]

theorem headerAnswered_bad {h : Header} (bad : ¬ crc (headerSpan h) = h.check) (hq : (s.unit p).seq = some q)
    (hr : q.reread = true) : s.headerAnswered p h = s.reject p .header := by
  simp [State.headerAnswered, Header.checkGood, bad, hq, hr]

end

/-- A state on which a step of the sequence is worked: from `s` only what position p holds of the card has changed, and the
next order may go out. -/
structure AtStep (p : Pos) (s m : State) : Prop where
  same : s.sameApartFrom p m
  retained : m.retained = s.retained
  link : m.link = s.link
  flags : (m.unit p).flags = (s.unit p).flags
  state : (m.line p).state = .identifying
  contact : (m.line p).contact = .powered
  wait : (m.unit p).wait = none
  restart : m.restart = .none

namespace AtStep
variable {p : Pos} {s m : State}

theorem answeredBy {c : Card} (hs : (s.line p).state = .identifying) (hc : (s.line p).contact = .powered)
    (hm : s.mayBegin p = true) (hr : (s.unit p).reader = some (.card c)) : AtStep p s (s.answeredBy p) := by
  have unit := answeredBy_unit hr
  obtain ⟨wait, restart⟩ := (mayBegin_iff s p).1 hm
  exact ⟨sameApartFrom_answeredBy s p, rfl, rfl, by rw [unit], by rw [State.line, unit]; exact hs,
    by rw [State.line, unit]; exact hc, by rw [unit]; exact wait, restart⟩

theorem modUnit {f : Position → Position} (h : AtStep p s m)
    (hf : ∀ u, (f u).flags = u.flags ∧ (f u).line.state = u.line.state ∧ (f u).line.contact = u.line.contact ∧
      (f u).wait = u.wait := by exact fun u => ⟨rfl, rfl, rfl, rfl⟩) : AtStep p s (m.modUnit p f) := by
  obtain ⟨flags, state, contact, wait⟩ := hf (m.unit p)
  refine ⟨sameApartFrom_trans h.same (sameApartFrom_modUnit m p f), h.retained, h.link, ?_, ?_, ?_, ?_, h.restart⟩
  · rw [unit_modUnit, flags, h.flags]
  · rw [line_modUnit, state]; exact h.state
  · rw [line_modUnit, contact]; exact h.contact
  · rw [unit_modUnit, wait, h.wait]

theorem refuses (h : AtStep p s m) (x : Cause) :
    CardRefused p x (m.line p).shownId s ((m.reject p x).startRest p) := by
  have refused := reject_refuses m p x
  have rests : (m.reject p x).startRest p = m.reject p x :=
    startRest_of_state (by rw [refused.line.1]; decide) (by rw [refused.line.1]; decide)
  have settings : m.posSettings p = s.posSettings p := by
    have : m.working = s.working := by rw [h.same.2]
    rw [State.posSettings, this, State.posSettings]
  rw [rests]
  obtain ⟨same, retained, line, ⟨held, seq, terms, force, flags⟩, outbound⟩ := refused
  rw [noticeOf_congr h.flags settings (by rw [h.link]), h.link] at outbound
  exact ⟨sameApartFrom_trans h.same same, retained.trans h.retained, line,
    ⟨held, seq, terms, force, by rw [flags, h.flags]⟩, outbound⟩

theorem reads (h : AtStep p s m) {z : Sequence} (hz : (m.unit p).seq = some z) :
    ReadBegun p (if z.step = 2 then .readHead else .readTally) z s ((m.nextRead p).startRest p) ∧
      ((m.nextRead p).startRest p).unit p =
        { m.unit p with line := ((m.nextRead p).startRest p).line p } ∧
      (((m.nextRead p).startRest p).line p).shownId = (m.line p).shownId := by
  rw [nextRead_sends ((mayBegin_iff m p).2 ⟨h.wait, h.restart⟩) h.contact hz]
  refine ⟨⟨sameApartFrom_trans h.same (sameApartFrom_beginOrder m p _ _ _ _), congrArg (Retained.ctx · p) h.retained,
    h.link, ?_, ?_, ?_⟩, ?_, ?_⟩
  · simpa [State.line] using h.state
  · simpa using hz
  · simp [State.line, State.begunOrder, Attempt.isRetry]
  · simp [State.line]
  · simp [State.line]

end AtStep

/-- The state in which a good header has been recorded and its identity shown, on which steps 3 to 6 are made (R38). -/
def State.headerTaken (s : State) (p : Pos) (h : Header) : State := (s.answeredBy p).modUnit p (Position.headerRead h)

theorem cardRefused_overIssue {s : State} {p : Pos} {h : Header} {x : Terms}
    (hi : h.issued.toNat = 0 ∨ x.maxIssued < h.issued.toNat) : s.cardRefused p h x = some .overIssue := if_pos hi

/-- Steps 5 and 6, on a card that step 4 has passed (R41, R42). -/
theorem cardRefused_issued {s : State} {p : Pos} {h : Header} {x : Terms}
    (hi : ¬ (h.issued.toNat = 0 ∨ x.maxIssued < h.issued.toNat)) : s.cardRefused p h x =
      if blocked s.working.blocks h.id = true then some .blocked
      else if s.heldElsewhere p h.id = true then some .duplicate else none := if_neg hi

/-- Settles O49: a bad header is read again or refused; a good one is taken, and the card is then refused or its tally
read by what steps 3 to 6 find. -/
theorem headerAnswerChecksCard : Obligations.HeaderAnswerChecksCard := by
  unfold Obligations.HeaderAnswerChecksCard
  intro s p o q c b n ho hk hp hs hpow hq hstep hm hr hc hn h good entry duplicate refused reads
  have run := headerRead_answered ho hk hp hm hr hc hn
  have unit := answeredBy_unit hr
  have taken : AtStep p s (s.answeredBy p) := .answeredBy hs hpow hm hr
  have seq : ((s.answeredBy p).unit p).seq = some q := by rw [unit]; exact hq
  have refuses {x : Cause} {i : Option Identity} {t : State} (ht : exec (.answerFrame p .answer) s = .next t)
      (ended : CardRefused p x i s t) : refused x i := by
    obtain ⟨same, retained, ⟨state, cause, contact, order, shown⟩, ⟨held, seq, terms, -, flags⟩, outbound⟩ := ended
    exact ⟨t, ht, same, congrArg (Retained.ctx · p) retained, state, cause, contact, order, shown, held, seq, terms,
      flags, outbound⟩
  have goesOn {k : OrderKind} {z : Sequence} {t : State} (ht : exec (.answerFrame p .answer) s = .next t)
      (begun : ReadBegun p k z s t) : reads k z t :=
    ⟨ht, begun.same, begun.ctx, begun.link, begun.state, begun.seq, begun.order⟩
  have read : AtStep p s (s.headerTaken p h) := taken.modUnit
  have shown : ((s.headerTaken p h).line p).shownId = some h.id := by rw [State.headerTaken, line_modUnit]; rfl
  have checks (ok : good) : exec (.answerFrame p .answer) s = .next (((s.headerTaken p h).checkCard p h).startRest p) := by
    rw [run, headerAnswered_good ok]
    rfl
  have stops (ok : good) {x : Cause} (hx : (s.headerTaken p h).checkCard p h = (s.headerTaken p h).reject p x) :
      refused x (some h.id) := by
    have ended := read.refuses x
    rw [shown] at ended
    exact refuses ((checks ok).trans (by rw [hx])) ended
  refine ⟨fun bad first => ?_, fun bad again => ?_, fun ok unknown => ?_, fun e ok known => ?_⟩
  · rw [headerAnswered_again bad seq first] at run
    have reread : AtStep p s ((s.answeredBy p).modUnit p fun u =>
      { u with seq := u.seq.map fun q => { q with reread := true } }) := taken.modUnit
    have begun := (reread.reads (z := { q with reread := true }) (by rw [unit_modUnit, seq]; rfl)).1
    rw [if_pos hstep] at begun
    exact ⟨_, goesOn run begun⟩
  · rw [headerAnswered_bad bad seq again] at run
    have ended := taken.refuses .header
    rw [State.line, unit] at ended
    exact refuses run ended
  · exact stops ok (checkCard_unserved (seriesTerms_unknown unknown))
  intro valid tooMany
  have served (on : e.accepting = true) (hv : valid) :
      seriesTerms (s.headerTaken p h).working.series h.id.series = .ok e.terms :=
    seriesTerms_ok known on ((valid_iff e).2 hv)
  have elsewhere : (s.headerTaken p h).heldElsewhere p h.id = true ↔ duplicate := by
    rw [heldElsewhere_iff]
    exact exists_congr fun x => and_congr_right fun hx => by rw [(read.same.1 x hx).1]
  have passes (fits : ¬ tooMany) (clear : blocked s.working.blocks h.id = false) :
      (s.headerTaken p h).cardRefused p h e.terms =
        if (s.headerTaken p h).heldElsewhere p h.id = true then some .duplicate else none :=
    (cardRefused_issued fits).trans (if_neg (ne_true_of_eq_false clear))
  refine ⟨fun off => ?_, fun on bad => ?_, fun on hv above => ?_, fun on hv fits listed => ?_,
    fun on hv fits clear twice => ?_, fun on hv fits clear alone => ?_⟩
  · exact stops ok (checkCard_unserved (seriesTerms_withdrawn known off))
  · exact stops ok (checkCard_unserved (seriesTerms_invalid known on (mt (valid_iff e).1 bad)))
  · exact stops ok (checkCard_refused (served on hv) (cardRefused_overIssue above))
  · exact stops ok (checkCard_refused (served on hv) ((cardRefused_issued fits).trans (if_pos listed)))
  · exact stops ok (checkCard_refused (served on hv) ((passes fits clear).trans (if_pos (elsewhere.2 twice))))
  · have run := checks ok
    rw [checkCard_accepted (served on hv) ((passes fits clear).trans (if_neg (mt elsewhere.1 alone)))] at run
    have accepted := read.modUnit (f := Position.accepted h e.terms)
    have seven : (((s.headerTaken p h).modUnit p (Position.accepted h e.terms)).unit p).seq =
        some { q with header := some h, step := 7 } := by
      rw [unit_modUnit, State.headerTaken, unit_modUnit, Position.accepted, Position.headerRead, seq]
      rfl
    obtain ⟨begun, left, identity⟩ := accepted.reads seven
    refine ⟨_, goesOn run begun, ?_, ?_, ?_⟩
    · rw [left, unit_modUnit]; rfl
    · rw [identity, line_modUnit]; exact shown
    · rw [left, unit_modUnit]; rfl

end Sys2Proof.Machine

namespace Sys2Proof.Machine

/-! ## What the laws of the present-card set and of the terms speak of (R39, R43) -/

/-- Weight and retries of an open call. -/
def Context.callTerms (c : Context) : Option (Nat × Nat) := if c.state = .noCall then none else some (c.weight, c.retries)

/-- What a position holds of a card and of a call: the identity in the present-card set, the held terms, the terms of its
open call. -/
structure Holding where
  held : Option Identity
  terms : Option Terms
  call : Option (Nat × Nat)

def State.holding (s : State) (p : Pos) : Holding :=
  { held := (s.unit p).held, terms := (s.unit p).terms, call := (s.ctx p).callTerms }

/-- A weight and retries in the ranges of R39. -/
@[reducible] def termsInRange (weight retries : Nat) : Prop := 1 ≤ weight ∧ weight ≤ 100 ∧ retries ≤ 3

/-- The two laws, on what the positions hold. -/
structure CardsLawful (s : State) : Prop where
  once : ∀ p q i, (s.holding p).held = some i → (s.holding q).held = some i → p = q
  terms : ∀ p x, (s.holding p).terms = some x → termsInRange x.weight x.retries
  call : ∀ p w r, (s.holding p).call = some (w, r) → termsInRange w r

theorem cardsLawful_iff (s : State) : CardsLawful s ↔ s.presentSetLawful ∧ s.termsLawful := by
  have open_iff (p : Pos) : (∀ w r, (s.ctx p).callTerms = some (w, r) → termsInRange w r) ↔
      ((s.ctx p).state ≠ .noCall → termsInRange (s.ctx p).weight (s.ctx p).retries) := by
    unfold Context.callTerms
    split <;> simp_all
  refine ⟨fun h => ⟨h.once, fun p => ⟨h.terms p, (open_iff p).1 (h.call p)⟩⟩, fun ⟨once, terms⟩ => ⟨once, fun p => ?_,
    fun p => (open_iff p).2 (terms p).2⟩⟩
  exact (terms p).1

/-- At each position `y` holds what `x` holds of a card and of a call, or less. -/
structure Holding.within (y x : Holding) : Prop where
  held : y.held = none ∨ y.held = x.held
  terms : y.terms = none ∨ y.terms = x.terms
  call : y.call = none ∨ y.call = x.call

theorem within_refl (x : Holding) : x.within x := ⟨.inr rfl, .inr rfl, .inr rfl⟩

theorem within_of_eq {x y : Holding} (h : y = x) : y.within x := h ▸ within_refl y

/-- Where no position holds more, the laws stay. -/
theorem CardsLawful.less {s t : State} (h : CardsLawful s) (hl : ∀ p, (t.holding p).within (s.holding p)) :
    CardsLawful t where
  once p q i hp hq := by
    have fromP := (hl p).held.resolve_left (by rw [hp]; exact Option.some_ne_none i)
    have fromQ := (hl q).held.resolve_left (by rw [hq]; exact Option.some_ne_none i)
    exact h.once p q i (fromP ▸ hp) (fromQ ▸ hq)
  terms p x hx := by
    have from_s := (hl p).terms.resolve_left (by rw [hx]; exact Option.some_ne_none x)
    exact h.terms p x (from_s ▸ hx)
  call p w r hx := by
    have from_s := (hl p).call.resolve_left (by rw [hx]; exact Option.some_ne_none _)
    exact h.call p w r (from_s ▸ hx)

/-! ## What leaves every holding as it was -/

section
variable (s : State)

theorem holding_congr {s t : State} (hu : t.units = s.units) (hc : t.retained.ctxs = s.retained.ctxs) :
    t.holding = s.holding := by
  funext p
  simp only [State.holding, State.unit, State.ctx, Retained.ctx, hu, hc]

@[simp] theorem holding_setUnit {p : Pos} {u : Position} (hh : u.held = (s.unit p).held) (ht : u.terms = (s.unit p).terms) :
    (s.setUnit p u).holding = s.holding := by
  funext q
  by_cases hq : q = p
  · subst hq; simp [State.holding, hh, ht]
  · simp [State.holding, unit_setUnit_ne s hq]

@[simp] theorem holding_modUnit {p : Pos} {f : Position → Position} (hh : (f (s.unit p)).held = (s.unit p).held)
    (ht : (f (s.unit p)).terms = (s.unit p).terms) : (s.modUnit p f).holding = s.holding := holding_setUnit s hh ht

@[simp] theorem holding_modLine (p : Pos) (f : LineUnit → LineUnit) : (s.modLine p f).holding = s.holding :=
  holding_modUnit s rfl rfl

@[simp] theorem holding_modCard (p : Pos) (f : Card → Card) : (s.modCard p f).holding = s.holding :=
  holding_modUnit s rfl rfl

@[simp] theorem holding_modCtx {p : Pos} {f : Context → Context} (h : (f (s.ctx p)).callTerms = (s.ctx p).callTerms) :
    (s.modCtx p f).holding = s.holding := by
  funext q
  by_cases hq : q = p
  · subst hq; simp [State.holding, h]
  · simp [State.holding, ctx_modCtx_ne s hq]

/-- A change of a context that leaves its state and its terms. -/
@[simp] theorem holding_modCtx_terms {p : Pos} {f : Context → Context} (hs : (f (s.ctx p)).state = (s.ctx p).state)
    (hw : (f (s.ctx p)).weight = (s.ctx p).weight) (hr : (f (s.ctx p)).retries = (s.ctx p).retries) :
    (s.modCtx p f).holding = s.holding :=
  holding_modCtx s (by simp only [Context.callTerms, hs, hw, hr])

@[simp] theorem holding_modLink (f : Link → Link) : (s.modLink f).holding = s.holding := rfl
@[simp] theorem holding_send (m : Message) : (s.send m).holding = s.holding := rfl
@[simp] theorem holding_answer (r : Request) (b : ReplyBody) : (s.answer r b).holding = s.holding := rfl
@[simp] theorem holding_answerAt (p : Pos) (x y : Byte) (b : ReplyBody) : (s.answerAt p x y b).holding = s.holding := rfl
@[simp] theorem holding_takeFront (o : Owner) : (s.takeFront o).holding = s.holding := rfl
@[simp] theorem holding_withdraw (p : Pos) : (s.withdraw p).holding = s.holding := rfl

@[simp] theorem holding_contactOff (p : Pos) (c : Contact) : (s.contactOff p c).holding = s.holding := by
  rw [contactOff_eq]
  exact holding_setUnit s rfl rfl

@[simp] theorem holding_beginOrder (p : Pos) (k : OrderKind) (g : Stage) (a : Attempt) (x : Purpose) :
    (s.beginOrder p k g a x).holding = s.holding := holding_modLine s p _

@[simp] theorem holding_beginWake (p : Pos) (a : Attempt) (x : Purpose) : (s.beginWake p a x).holding = s.holding := by
  rw [State.beginWake, holding_beginOrder, State.contactOn, holding_modUnit s rfl rfl]

@[simp] theorem holding_endOrder (p : Pos) : (s.endOrder p).holding = s.holding := holding_modLine s p _
@[simp] theorem holding_contactAwake (p : Pos) : (s.contactAwake p).holding = s.holding := holding_modLine s p _
@[simp] theorem holding_clearWork (p : Pos) : (s.clearWork p).holding = s.holding := holding_modUnit s rfl rfl
@[simp] theorem holding_clearWait (p : Pos) : (s.clearWait p).holding = s.holding := holding_modUnit s rfl rfl
@[simp] theorem holding_clearField (p : Pos) : (s.clearField p).holding = s.holding := holding_modCtx s rfl
@[simp] theorem holding_joinWaiting (r : WriteRequest) : (s.joinWaiting r).holding = s.holding :=
  holding_modLine _ r.position _

@[simp] theorem holding_sendRead (p : Pos) (r : ReadFor) (a : Attempt) : (s.sendRead p r a).holding = s.holding := by
  unfold State.sendRead
  split <;> simp

@[simp] theorem holding_nextRead (p : Pos) : (s.nextRead p).holding = s.holding := by
  unfold State.nextRead
  split <;> simp

@[simp] theorem holding_raise (p : Pos) (f : PosFlag) : (s.raise p f).holding = s.holding := by
  funext q
  by_cases hq : q = p
  · subst hq; simp [State.holding]
  · simp [State.holding, unit_raise_ne s hq]

@[simp] theorem holding_raisePart (f : PartFlag) : (s.raisePart f).holding = s.holding := by
  funext q
  simp [State.holding]

@[simp] theorem holding_startRest (p : Pos) : (s.startRest p).holding = s.holding := by
  unfold State.startRest
  split <;> simp

/-! ### Write channels -/

@[simp] theorem countSend_held (r : Requester) (u : Position) : (u.countSend r).held = u.held := by cases r <;> rfl
@[simp] theorem countSend_terms (r : Requester) (u : Position) : (u.countSend r).terms = u.terms := by cases r <;> rfl

@[simp] theorem holding_grantTo (r : WriteRequest) : (s.grantTo r).holding = s.holding := by
  by_cases hc : (s.line r.position).contact = .powered
  · cases ht : s.tallyBefore r with
    | none => simp [State.grantTo, hc, ht]
    | some t =>
      rw [grantTo_sent hc ht]
      simp only [State.grantSent, holding_beginOrder, holding_modUnit, countSend_held, countSend_terms,
        holding_modCtx_terms]
      rfl
  · simp [grantTo_given_up hc]

@[simp] theorem holding_grantLoop (n : Nat) : ∀ s : State, (s.grantLoop n).holding = s.holding := by
  induction n with
  | zero => exact fun s => rfl
  | succ n ih =>
    intro s
    unfold State.grantLoop
    split
    · rfl
    · split
      · rw [ih, holding_grantTo]; rfl
      · rfl

@[simp] theorem holding_grantAll : s.grantAll.holding = s.holding := holding_grantLoop _ s

@[simp] theorem holding_requestWrite (p : Pos) : (s.requestWrite p).holding = s.holding := by
  unfold State.requestWrite
  split
  · rfl
  · split
    · rfl
    · split <;> simp

@[simp] theorem holding_release (p : Pos) : (s.release p).holding = s.holding := by
  unfold State.release
  split
  · exact holding_grantAll _
  · rfl

@[simp] theorem holding_dropUnsent (p : Pos) : (s.dropUnsent p).holding = s.holding := by
  unfold State.dropUnsent
  split <;> simp

@[simp] theorem holding_stopWork (p : Pos) : (s.stopWork p).holding = s.holding := by
  unfold State.stopWork State.abandonOrder
  split <;> simp

/-! ### Charges (R60, R63, R66) -/

@[simp] theorem settleHead_callTerms (c : Context) (a : Nat) : (c.settleHead a).callTerms = c.callTerms := by
  unfold Context.settleHead
  split <;> rfl

@[simp] theorem cancelHead_callTerms (c : Context) : c.cancelHead.callTerms = c.callTerms := by
  unfold Context.cancelHead
  split <;> rfl

@[simp] theorem cancelSecond_callTerms (c : Context) : c.cancelSecond.callTerms = c.callTerms := by
  unfold Context.cancelSecond
  split <;> rfl

@[simp] theorem confirm_callTerms (f : InFlight) (t : Tally) (c : Context) : (c.confirm f t).callTerms = c.callTerms := by
  unfold Context.confirm
  split <;> rfl

@[simp] theorem holding_lowCompare (p : Pos) : (s.lowCompare p).holding = s.holding := by
  unfold State.lowCompare
  dsimp only
  split <;> simp

@[simp] theorem holding_replyCharge (p : Pos) (h : Charge) (o : ChargeOutcome) (n : Nat) (l : Option Location) :
    (s.replyCharge p h o n l).holding = s.holding := rfl

@[simp] theorem holding_settleOwn (p : Pos) : (s.settleOwn p).holding = s.holding := by
  unfold State.settleOwn
  split
  · dsimp only
    split <;> simp
  · rfl

@[simp] theorem holding_cutHead (p : Pos) (o : ChargeOutcome) (l : Option Location) :
    (s.cutHead p o l).holding = s.holding := by
  unfold State.cutHead
  split
  · rfl
  · split <;> simp

@[simp] theorem holding_cutBehind (n : Nat) (p : Pos) : ∀ s : State, (State.cutBehind n s p).holding = s.holding := by
  induction n with
  | zero => exact fun s => rfl
  | succ n ih =>
    intro s
    unfold State.cutBehind
    split
    · rw [ih]; simp
    · rfl

@[simp] theorem holding_beginStep (p : Pos) : (s.beginStep p).holding = s.holding := by
  unfold State.beginStep
  split <;> simp

@[simp] theorem holding_workQueue (n : Nat) (p : Pos) : ∀ s : State, (State.workQueue n s p).holding = s.holding := by
  induction n with
  | zero => exact fun s => rfl
  | succ n ih =>
    intro s
    unfold State.workQueue
    split
    · rfl
    · split
      · dsimp only
        split
        · simp
        · split
          · rw [ih]; simp
          · simp
      · rfl

@[simp] theorem holding_continueHead (p : Pos) : (s.continueHead p).holding = s.holding := by
  unfold State.continueHead
  split
  · rfl
  · split
    · split
      · simp
      · split <;> simp
      · split <;> simp
      · simp
      · rfl
    · rfl

/-! ### Identification, the test and the reader -/

@[simp] theorem holding_storeImage (p : Pos) (h : Header) (t : Tally) : (s.storeImage p h t).holding = s.holding := by
  rw [State.storeImage, holding_startRest, holding_raise, holding_modUnit _ rfl rfl, holding_modCtx_terms _ rfl rfl rfl]

@[simp] theorem holding_resolveDoubt (p : Pos) (i : Identity) (t : Tally) : (s.resolveDoubt p i t).holding = s.holding := by
  unfold State.resolveDoubt
  dsimp only
  have resolved : ({ s with retained := (s.retained.resolve i t p).1 } : State).holding = s.holding :=
    holding_congr rfl (resolve_ctxs _ i t p)
  split
  · rw [holding_raisePart, resolved]
  · exact resolved

@[simp] theorem holding_beginTestFrame (p : Pos) (k : OrderKind) (a : Attempt) (x : Option Quad) :
    (s.beginTestFrame p k a x).holding = s.holding := by
  have sent (u : Option PosTest → Option PosTest) :
      ((s.modUnit p fun v => { v with test := u v.test }).beginOrder p k 0 a .test).holding = s.holding := by simp
  unfold State.beginTestFrame
  dsimp only
  split
  · rw [holding_modLine]; exact sent _
  · exact sent _

@[simp] theorem holding_finishTest : s.finishTest.holding = s.holding := by
  unfold State.finishTest
  split
  · rfl
  · split <;> rfl

@[simp] theorem holding_blinkEnd (p : Pos) : (s.blinkEnd p).holding = s.holding := by
  unfold State.blinkEnd
  dsimp only
  split <;> simp

theorem holding_foldl {α : Type} {f : State → α → State} (h : ∀ s a, (f s a).holding = s.holding) (l : List α) :
    ∀ s : State, (l.foldl f s).holding = s.holding := by
  induction l with
  | nil => exact fun s => rfl
  | cons a l ih => exact fun s => (ih _).trans (h s a)

end

/-! ## A card or a call given up -/

namespace CardsLawful
variable {s : State} {p : Pos}

theorem same {t : State} (h : CardsLawful s) (e : t.holding = s.holding := by simp) : CardsLawful t :=
  h.less fun p => within_of_eq (congrFun e p)

theorem modLine {f : LineUnit → LineUnit} (h : CardsLawful s) : CardsLawful (s.modLine p f) := h.same
theorem raise {f : PosFlag} (h : CardsLawful s) : CardsLawful (s.raise p f) := h.same
theorem startRest (h : CardsLawful s) : CardsLawful (s.startRest p) := h.same
theorem beginWake {a : Attempt} {x : Purpose} (h : CardsLawful s) : CardsLawful (s.beginWake p a x) := h.same
theorem clearField (h : CardsLawful s) : CardsLawful (s.clearField p) := h.same
theorem requestWrite (h : CardsLawful s) : CardsLawful (s.requestWrite p) := h.same
theorem continueHead (h : CardsLawful s) : CardsLawful (s.continueHead p) := h.same
theorem answer {r : Request} {b : ReplyBody} (h : CardsLawful s) : CardsLawful (s.answer r b) := h.same
theorem answerAt {x y : Byte} {b : ReplyBody} (h : CardsLawful s) : CardsLawful (s.answerAt p x y b) := h.same

/-- A position gives up held terms, or the identity and the terms. -/
theorem modUnit_less {f : Position → Position} (h : CardsLawful s)
    (hf : ∀ u, ((f u).held = none ∨ (f u).held = u.held) ∧ (f u).terms = none) : CardsLawful (s.modUnit p f) :=
  h.less fun q => by
    by_cases hq : q = p
    · subst hq
      simp only [State.holding, unit_modUnit, modUnit_ctx]
      exact ⟨(hf _).1, .inl (hf _).2, .inr rfl⟩
    · simp only [State.holding, unit_modUnit_ne s hq, modUnit_ctx]
      exact within_refl _

/-- A position gives up its card. -/
theorem dropCard {f : Position → Position} (h : CardsLawful s)
    (hf : ∀ u, (f u).held = none ∧ (f u).terms = none := by exact fun _ => ⟨rfl, rfl⟩) : CardsLawful (s.modUnit p f) :=
  h.modUnit_less fun u => ⟨.inl (hf u).1, (hf u).2⟩

/-- Retained memory with the calls that it had, or fewer. -/
theorem retained {m : Retained} (h : CardsLawful s)
    (hm : ∀ q, (m.ctx q).state = .noCall ∨ (m.ctx q).callTerms = (s.ctx q).callTerms) :
    CardsLawful { s with retained := m } :=
  h.less fun q => ⟨.inr rfl, .inr rfl, (hm q).imp_left fun e => if_pos e⟩

theorem closeCall {e : EndCause} {l : Option Location} (h : CardsLawful s) : CardsLawful (s.closeCall p e l) := by
  by_cases none : (s.ctx p).state = .noCall
  · rw [closeCall_of_noCall none]; exact h
  · have closed := closeCall_closed none e l
    obtain ⟨f, unit, -⟩ := closed.unit
    obtain ⟨b, ctx⟩ := closed.ctx
    refine h.less fun q => ?_
    by_cases hq : q = p
    · subst hq
      simp only [State.holding, unit, ctx]
      exact ⟨.inr rfl, .inr rfl, .inl rfl⟩
    · obtain ⟨sameUnit, sameCtx⟩ := closed.others q hq
      simp only [State.holding, sameUnit, sameCtx]
      exact within_refl _

theorem completeRequested (h : CardsLawful s) : CardsLawful (s.completeRequested p) :=
  h.closeCall.modLine.startRest

theorem completeIfDue (h : CardsLawful s) : CardsLawful (s.completeIfDue p) := by
  unfold State.completeIfDue
  split
  · exact h.completeRequested
  · exact h

theorem dropSequence (h : CardsLawful s) : CardsLawful (s.dropSequence p) := by
  unfold State.dropSequence
  exact clearField (h.modUnit_less fun _ => ⟨.inr rfl, rfl⟩)

theorem enterFaulted {c : FaultCause} {l : Option Location} (h : CardsLawful s) : CardsLawful (s.enterFaulted p c l) := by
  unfold State.enterFaulted
  dsimp only
  split
  · exact h
  · split
    · exact h.same.dropSequence
    · exact h.same.closeCall
    · exact h.same

theorem lineFailure (h : CardsLawful s) : CardsLawful (s.lineFailure p) := h.enterFaulted

theorem attemptFailed {o : Order} (h : CardsLawful s) : CardsLawful (s.attemptFailed p o) := by
  unfold State.attemptFailed
  split
  · exact h.same
  · split
    · exact h.lineFailure
    · exact h.same
  · split
    · exact h.lineFailure
    · exact h.same
  · split
    · exact h.lineFailure
    · exact h.same
  · split
    · exact h.lineFailure
    · exact h.same
  · exact h

theorem beginIdentification (h : CardsLawful s) : CardsLawful (s.beginIdentification p) := by
  have identifying : CardsLawful ((s.contactOff p .unpowered).modUnit p Position.identifying) := dropCard h.same
  unfold State.beginIdentification
  dsimp only
  split
  · exact identifying.beginWake
  · exact identifying

theorem insert (h : CardsLawful s) : CardsLawful (s.insert p) := h.beginIdentification.raise

theorem reject {c : Cause} (h : CardsLawful s) : CardsLawful (s.reject p c) := (dropCard h.same).raise

/-! ### A card taken, and a call opened (R39, R42, R77) -/

/-- One position changes what it holds, to what is lawful beside the others. -/
theorem changedAt {t : State} (h : CardsLawful s) (others : ∀ q, q ≠ p → t.holding q = s.holding q)
    (alone : ∀ q i, q ≠ p → (t.holding p).held = some i → (s.holding q).held ≠ some i)
    (terms : ∀ x, (t.holding p).terms = some x → termsInRange x.weight x.retries)
    (call : ∀ w r, (t.holding p).call = some (w, r) → termsInRange w r) : CardsLawful t where
  once a b i ha hb := by
    by_cases ap : a = p <;> by_cases bp : b = p
    · exact ap.trans bp.symm
    · exact absurd (others b bp ▸ hb) (alone b i bp (ap ▸ ha))
    · exact absurd (others a ap ▸ ha) (alone a i ap (bp ▸ hb))
    · exact h.once a b i (others a ap ▸ ha) (others b bp ▸ hb)
  terms q x hx := by
    by_cases hq : q = p
    · exact terms x (hq ▸ hx)
    · exact h.terms q x (others q hq ▸ hx)
  call q w r hc := by
    by_cases hq : q = p
    · exact call w r (hq ▸ hc)
    · exact h.call q w r (others q hq ▸ hc)

/-- A position takes an identity that no other holds, and terms in range. -/
theorem accepted {x : Header} {y : Terms} (h : CardsLawful s) (free : s.heldElsewhere p x.id = false)
    (range : termsInRange y.weight y.retries) : CardsLawful (s.modUnit p (Position.accepted x y)) := by
  have here : (s.modUnit p (Position.accepted x y)).holding p =
      { held := some x.id, terms := some y, call := (s.holding p).call } := by simp [State.holding, Position.accepted]
  refine h.changedAt (p := p) (fun q hq => by simp [State.holding, unit_modUnit_ne s hq]) ?_ ?_ ?_
  · rw [here]
    rintro q i hq ⟨rfl⟩ held
    exact absurd ((heldElsewhere_iff s p x.id).2 ⟨q, hq, held⟩) (ne_true_of_eq_false free)
  · rw [here]
    rintro z ⟨rfl⟩
    exact range
  · rw [here]
    exact h.call p

/-- A call opened takes the held terms of its position. -/
theorem openCall {i : Image} {x : Terms} {n : Nat} (h : CardsLawful s) (hx : (s.unit p).terms = some x) :
    CardsLawful (s.modRetained fun m => m.openCall p i x n) := by
  have here : (s.modRetained fun m => m.openCall p i x n).holding p =
      { s.holding p with call := some (x.weight, x.retries) } := by
    simp [State.holding, State.ctx, Retained.openCall, Context.opened, Context.callTerms]
  refine h.changedAt (p := p) (fun q hq => ?_) ?_ ?_ ?_
  · simp only [State.holding, State.ctx, modRetained_retained, Retained.openCall, ctx_modCtx_retained_ne _ hq]
    rfl
  · rw [here]
    exact fun q i hq hp held => hq (h.once q p i held hp)
  · rw [here]
    exact h.terms p
  · rw [here]
    rintro w r ⟨⟩
    exact h.terms p x hx

theorem seriesTerms_inRange {t : Vector (Option SeriesFields) 16} {code : Half} {x : Terms}
    (h : seriesTerms t code = .ok x) : termsInRange x.weight x.retries := by
  unfold seriesTerms at h
  split at h
  · cases h
  · next e _ =>
    split at h
    · cases h
    · split at h
      · cases h
      · next valid =>
        cases h
        obtain ⟨⟨low, high⟩, -⟩ := (valid_iff e).1 (by simpa using valid)
        exact ⟨low, high, Nat.min_le_right _ _⟩

theorem checkCard {x : Header} (h : CardsLawful s) : CardsLawful (s.checkCard p x) := by
  cases ht : seriesTerms s.working.series x.id.series with
  | error c => rw [checkCard_unserved ht]; exact h.reject
  | ok y =>
    cases hc : s.cardRefused p x y with
    | some c => rw [checkCard_refused ht hc]; exact h.reject
    | none =>
      have free : s.heldElsewhere p x.id = false := by
        unfold State.cardRefused at hc
        split at hc
        · cases hc
        · split at hc
          · cases hc
          · split at hc
            · cases hc
            · next free => exact Bool.not_eq_true _ ▸ free
      rw [checkCard_accepted ht hc]
      exact same (h.accepted free (seriesTerms_inRange ht))

theorem headerAnswered {x : Header} (h : CardsLawful s) : CardsLawful (s.headerAnswered p x) := by
  unfold State.headerAnswered
  split
  · exact checkCard (h.same (holding_modUnit s rfl rfl))
  · split
    · exact h.reject
    · exact h.same

theorem openAccepted {r : Request} {i : Image} {x : Terms} {n : Nat} (h : CardsLawful s)
    (hx : (s.unit p).terms = some x) : CardsLawful (s.openAccepted p r i x n) :=
  answer (same (h.openCall hx) (by rw [holding_lowCompare, holding_modLine]))

theorem takeOpen {r : Request} {n : Nat} (h : CardsLawful s) : CardsLawful (s.takeOpen p r n) := by
  unfold State.takeOpen
  split
  · exact h.same
  · next i x ready =>
    have terms : (s.unit p).terms = some x := by
      unfold State.openReady at ready
      split at ready
      · cases ready; assumption
      · cases ready
    split
    · exact h.reject.answer
    · split
      · exact h.same
      · exact h.openAccepted terms

/-! ### Answers (R26, R29, R30, R37, R44 to R48) -/

theorem checkConsumption {x : Header} {t : Tally} (h : CardsLawful s) : CardsLawful (s.checkConsumption p x t) := by
  unfold State.checkConsumption
  split
  · exact h.reject
  · split
    · exact h.reject
    · exact h.same

theorem finishSequence (h : CardsLawful s) : CardsLawful (s.finishSequence p) := by
  unfold State.finishSequence
  split
  · exact h.checkConsumption
  · exact h

theorem tallyRead {t : Tally} (h : CardsLawful s) : CardsLawful (s.modUnit p (Position.tallyRead t)) :=
  h.same (holding_modUnit s rfl rfl)

theorem resolveDoubt {i : Identity} {t : Tally} (h : CardsLawful s) : CardsLawful (s.resolveDoubt p i t) := h.same

theorem tallyAnswered {t : Tally} (h : CardsLawful s) : CardsLawful (s.tallyAnswered p t) := by
  unfold State.tallyAnswered
  dsimp only
  split
  · split
    · exact h.tallyRead.resolveDoubt.finishSequence
    · exact h.tallyRead.finishSequence
  · split
    · exact requestWrite (h.tallyRead.resolveDoubt.same (holding_modUnit _ rfl rfl))
    · exact requestWrite (h.tallyRead.same (holding_modUnit _ rfl rfl))

theorem callJudged {f : InFlight} {t : Tally} (h : CardsLawful s) : CardsLawful (s.callJudged p f t) := by
  have confirmed : CardsLawful (s.modCtx p (Context.confirm f t)) := h.same
  unfold State.callJudged
  split
  · exact continueHead (confirmed.same (holding_modUnit _ rfl rfl))
  · split
    · exact h.same
    · exact h.clearField.enterFaulted
  · exact enterFaulted (h.same (holding_modCtx_terms s rfl rfl rfl))

theorem latchJudged {f : InFlight} {t : Tally} (h : CardsLawful s) : CardsLawful (s.latchJudged p f t) := by
  unfold State.latchJudged
  dsimp only
  split
  · split
    · exact h.clearField.modLine.tallyRead.finishSequence
    · exact h.clearField.modLine.tallyRead
  · split
    · exact h.same
    · exact h.clearField.modLine.enterFaulted
  · exact h.clearField.modLine.enterFaulted

theorem verified {t : Tally} (h : CardsLawful s) : CardsLawful (s.verified p t) := by
  unfold State.verified
  split
  · exact h
  · split
    · exact h.callJudged
    · exact h.latchJudged

theorem refusalRead {t : Tally} (h : CardsLawful s) : CardsLawful (s.refusalRead p t) := by
  unfold State.refusalRead
  dsimp only
  split
  · exact enterFaulted (h.same (holding_modCtx_terms s rfl rfl rfl))
  · exact h.modLine.enterFaulted

theorem wokenForRead {r : ReadFor} {a : Attempt} (h : CardsLawful s) : CardsLawful (s.wokenForRead p r a) := by
  unfold State.wokenForRead
  split
  · exact h
  · exact h.same

theorem wokenForRequest (h : CardsLawful s) : CardsLawful (s.wokenForRequest p) := by
  unfold State.wokenForRequest
  split <;> exact h.same

theorem answered {o : Order} {a : Answer} (h : CardsLawful s) : CardsLawful (s.answered p o a) := by
  have ended : CardsLawful (s.endOrder p) := h.same
  have woken : CardsLawful ((s.endOrder p).contactAwake p) := h.same
  unfold State.answered
  dsimp only
  split
  · split
    · exact woken.same (by simp [State.firstWoken])
    · exact ended.reject
  · split
    · exact woken.wokenForRead
    · exact ended.lineFailure
  · split
    · exact woken.wokenForRequest
    · exact ended.lineFailure
  · exact h.same
  · exact h.same (by simp [State.writeRefused])
  · exact ended.headerAnswered
  · exact ended.tallyAnswered
  · exact ended.verified
  · exact ended.refusalRead
  · exact h

theorem takeAnswer {bs : List Byte} (h : CardsLawful s) : CardsLawful (s.takeAnswer p bs) := by
  unfold State.takeAnswer
  split
  · exact h
  · split
    · exact h
    · split
      · exact h
      · exact h.attemptFailed
      · split
        · exact h
        · split
          · exact h.answered
          · exact h.attemptFailed

theorem arrives {a : Arrival} {x : List Byte × State} (h : CardsLawful s) (hx : s.arrives p a = some x) :
    CardsLawful x.2 := by
  unfold State.arrives at hx
  split at hx
  · obtain ⟨bs, -, rfl⟩ := Option.map_eq_some_iff.1 hx
    exact h.same
  · cases hx; exact h.same
  · cases hx; exact h

/-! ### The self-test and the requests of a position -/

theorem foldl {α : Type} {f : State → α → State} (hf : ∀ {s a}, CardsLawful s → CardsLawful (f s a)) (l : List α) :
    ∀ {s : State}, CardsLawful s → CardsLawful (l.foldl f s) := by
  induction l with
  | nil => exact fun h => h
  | cons a l ih => exact fun h => ih (hf h)

theorem test {x : Option TestRun} (h : CardsLawful s) : CardsLawful { s with test := x } := h.same rfl

theorem leaveTest (h : CardsLawful s) : CardsLawful (s.leaveTest p) := by
  have left : CardsLawful (s.modUnit p Position.leaveTest) := h.same (holding_modUnit s rfl rfl)
  unfold State.leaveTest
  dsimp only
  split
  · exact left.insert
  · exact left

theorem fixCode {c : Byte} (h : CardsLawful s) : CardsLawful (s.fixCode p c) :=
  same (leaveTest h.test) (holding_finishTest _)

theorem echoFailed {o : Order} {c : Byte} (h : CardsLawful s) : CardsLawful (s.echoFailed p o c) := by
  unfold State.echoFailed
  split
  · exact h.fixCode
  · exact h.same

theorem goOff (h : CardsLawful s) : CardsLawful (s.goOff p) := by
  unfold State.goOff
  exact clearField (dropCard h.same)

theorem takeReset {r : Request} (h : CardsLawful s) : CardsLawful (s.takeReset p r) := by
  unfold State.takeReset
  split
  · exact h.same
  · exact same h.completeIfDue (by rw [holding_modUnit _ rfl rfl, holding_stopWork])

theorem resetEffect (h : CardsLawful s) : CardsLawful (s.resetEffect p) := by
  unfold State.resetEffect
  split
  · exact h
  · exact h
  · exact h.modLine
  · exact h.beginIdentification
  · exact h.beginIdentification
  · exact h.beginIdentification
  · exact h.beginIdentification
  · exact h.closeCall.beginIdentification

theorem clearWait (h : CardsLawful s) : CardsLawful (s.clearWait p) := h.same

theorem resetAct (h : CardsLawful s) : CardsLawful (s.resetAct p) := h.clearWait.resetEffect

theorem configureAct (h : CardsLawful s) : CardsLawful (s.configureAct p) := by
  unfold State.configureAct
  split
  · exact h.clearWait
  · exact h.clearWait.goOff

theorem comeIntoService (h : CardsLawful s) : CardsLawful (s.comeIntoService p) := by
  unfold State.comeIntoService
  split
  · exact h.insert
  · exact h.modLine

theorem configured {r : Request} {x : PosSettings} (h : CardsLawful s) : CardsLawful (s.configured p r x) := by
  have written : CardsLawful (s.writeSettings p x) := h.same rfl
  unfold State.configured
  dsimp only
  split
  · exact written.comeIntoService.answer
  · exact written.answer
  · exact written.answer
  · split
    · exact written.same
    · exact written.goOff.answer

theorem takeConfigure {r : Request} {i n c : Byte} (h : CardsLawful s) : CardsLawful (s.takeConfigure p r i n c) := by
  unfold State.takeConfigure
  split
  · exact h.same
  · dsimp only
    split
    · exact h.completeIfDue.answer
    · exact h.completeIfDue.configured

/-! ### RESTART, presence and the requests of the call table -/

theorem restartReady (h : CardsLawful s) : CardsLawful (s.restartReady p) := by
  unfold State.restartReady
  split
  · dsimp only
    split <;> exact h.same
  · exact h

theorem restartCloseAt (h : CardsLawful s) : CardsLawful (s.restartCloseAt p) := by
  unfold State.restartCloseAt
  split
  · exact h.completeRequested
  · exact h.closeCall.restartReady

theorem restartSettle (h : CardsLawful s) : CardsLawful s.restartSettle := by
  unfold State.restartSettle
  split
  · exact foldl restartCloseAt _ (h.same rfl)
  · exact h

theorem stopArbiter (h : CardsLawful s) : CardsLawful s.stopArbiter :=
  h.same (holding_foldl (fun s p => holding_dropUnsent s p) _ _)

theorem abortTest (h : CardsLawful s) : CardsLawful s.abortTest := test (foldl leaveTest _ h)

theorem takeRestart {r : Request} (h : CardsLawful s) : CardsLawful (s.takeRestart r) := by
  unfold State.takeRestart
  exact restartSettle (abortTest (stopArbiter (h.same rfl)))

theorem teardown (h : CardsLawful s) : CardsLawful (s.teardown p) := by
  have emptied : CardsLawful (((s.dropUnsent p).contactOff p .unpowered).modUnit p Position.emptied) := dropCard h.same
  unfold State.teardown
  dsimp only
  split
  · exact closeCall emptied.same
  · exact emptied.same

theorem dueFirst (h : CardsLawful s) : CardsLawful (s.dueFirst p).1 := by
  unfold State.dueFirst
  dsimp only
  split
  · split
    · exact h.completeIfDue.resetAct
    · exact h.completeIfDue
  · split
    · exact h.completeIfDue.configureAct
    · exact h.completeIfDue
  · exact h.completeIfDue

theorem removed (h : CardsLawful s) : CardsLawful (s.removed p) := by
  unfold State.removed
  dsimp only
  split
  · exact h.modLine.teardown
  · exact h.modLine

theorem replyIf {x : Option (Byte × Byte)} (h : CardsLawful s) : CardsLawful (s.replyIf p x) := by
  unfold State.replyIf
  split
  · exact h.same
  · exact h

theorem closeHead (h : CardsLawful s) : CardsLawful (s.closeHead p) := by
  unfold State.closeHead
  split
  · exact h.completeRequested
  · split
    · exact h
    · exact h.same

theorem takeClose {r : Request} (h : CardsLawful s) : CardsLawful (s.takeClose p r) := by
  unfold State.takeClose
  split
  · exact h.same
  · next calling =>
    dsimp only
    split
    · exact h.same
    · refine closeHead (h.same ?_)
      rw [holding_cutBehind, holding_modCtx, holding_modUnit s rfl rfl]
      have := not_not.1 calling
      simp [Context.callTerms, this]

end CardsLawful

end Sys2Proof.Machine

namespace Sys2Proof.Machine

/-! ## The tables (R51, R53) -/

theorem tablesLawful_congr {s t : State} (h : s.tablesLawful) (hw : t.working.blocks = s.working.blocks := by rfl)
    (hs : t.working.series = s.working.series := by rfl) (hst : t.stored = s.stored := by rfl)
    (hsv : t.save = s.save := by rfl) : t.tablesLawful := by
  obtain ⟨working, stored, save⟩ := h
  exact ⟨by rw [Settings.tablesLawful, hw, hs]; exact working, by rw [hst]; exact stored, by rw [hsv]; exact save⟩

theorem tablesLawful_of_kept {s t : State} (hk : t.kept = s.kept) (h : s.tablesLawful) : t.tablesLawful :=
  tablesLawful_congr h (by rw [kept_working hk]) (by rw [kept_working hk]) (kept_stored hk) (kept_save hk)

section
variable {t : Vector (Option SeriesFields) 16} {i : Fin 16} {action : Byte} {code : Half} {weight : Byte} {maxIssued : Half}
  {retries accepting : Byte}

/-- An entry that SERIES LOAD loads has the code given, which no other entry holds (R51). -/
theorem seriesLoaded_code {a : SeriesFields}
    (hl : seriesLoaded t i action code weight maxIssued retries accepting = some (some a)) :
    a.code = code ∧ ¬ codeElsewhere t i code = true := by
  unfold seriesLoaded at hl
  split at hl
  · cases hl
  · split at hl
    · split at hl
      · cases hl
      · split at hl
        · cases hl
        · next free => cases hl; exact ⟨rfl, free⟩
    · cases hl

theorem seriesUnique_loaded {x : Option SeriesFields} (h : seriesUnique t)
    (hl : seriesLoaded t i action code weight maxIssued retries accepting = some x) :
    seriesUnique (t.set i.val x i.isLt) := by
  have read (j : Fin 16) : (t.set i.val x i.isLt)[j.val]'j.isLt = if j = i then x else t[j.val]'j.isLt := by
    simp [Vector.getElem_set, Fin.ext_iff, eq_comm]
  have own {j : Fin 16} {a b : SeriesFields} (ha : x = some a) (hj : j ≠ i) (hb : t[j.val]'j.isLt = some b) :
      a.code ≠ b.code := fun e => by
    obtain ⟨code_eq, free⟩ := seriesLoaded_code (ha ▸ hl)
    exact free ((codeElsewhere_iff t i code).2 ⟨j, b, hj, hb, e.symm.trans code_eq⟩)
  intro j k a b ha hb e
  rw [read] at ha hb
  split at ha <;> split at hb
  · next hj hk => exact hj.trans hk.symm
  · next hk => exact absurd e (own ha hk hb)
  · next hj _ => exact absurd e.symm (own hb hj ha)
  · exact h j k a b ha hb e

end

/-! ## What every step keeps -/

/-- The three laws of O60. -/
structure TablesAndCards (s : State) : Prop where
  tables : s.tablesLawful
  cards : CardsLawful s

/-- From `s` to `t` nothing but the link port has changed. -/
def State.linkOnly (s t : State) : Prop := ∃ l, t = { s with link := l }

section
variable (s : State)

theorem linkOnly_refl : s.linkOnly s := ⟨s.link, rfl⟩

theorem linkOnly_trans {s t u : State} (h : s.linkOnly t) (h' : t.linkOnly u) : s.linkOnly u := by
  obtain ⟨l, rfl⟩ := h
  obtain ⟨k, rfl⟩ := h'
  exact ⟨k, rfl⟩

theorem linkOnly_modLink (f : Link → Link) : s.linkOnly (s.modLink f) := ⟨_, rfl⟩
theorem linkOnly_send (m : Message) : s.linkOnly (s.send m) := ⟨_, rfl⟩
theorem linkOnly_answer (o : Owner) (r : Request) (b : ReplyBody) : s.linkOnly ((s.takeFront o).answer r b) := ⟨_, rfl⟩
theorem linkOnly_raisePart (f : PartFlag) : s.linkOnly (s.raisePart f) := ⟨_, raisePart_eq s f⟩

theorem linkOnly_dispatch (type tag pos : Byte) (payload : List Byte) : s.linkOnly (s.dispatch type tag pos payload) := by
  unfold State.dispatch
  split
  · exact linkOnly_send s _
  · split
    · exact linkOnly_send s _
    · split
      · exact linkOnly_send s _
      · split
        · exact linkOnly_send s _
        · exact linkOnly_modLink s _

theorem linkOnly_frameComplete (f : LinkFrame) : s.linkOnly (s.frameComplete f) := by
  unfold State.frameComplete
  split
  · split
    · exact linkOnly_refl s
    · split
      · unfold State.holdDiscard
        split
        · exact linkOnly_raisePart s _
        · exact linkOnly_refl s
      · exact linkOnly_trans (linkOnly_modLink s _) (linkOnly_dispatch _ _ _ _ _)
  · exact linkOnly_refl s

theorem linkOnly_bytesArrive (bs : List Byte) : s.linkOnly (s.bytesArrive bs) := by
  have all (fs : List LinkFrame) : ∀ u : State, u.linkOnly (fs.foldl State.frameComplete u) := by
    induction fs with
    | nil => exact linkOnly_refl
    | cons f fs ih => exact fun u => linkOnly_trans (linkOnly_frameComplete u f) (ih _)
  exact linkOnly_trans (linkOnly_modLink s _) (all _ _)

theorem linkOnly_doFrameReceived (bs : List Byte) : s.linkOnly (s.doFrameReceived bs) := by
  unfold State.doFrameReceived
  split
  · exact linkOnly_bytesArrive s bs
  · exact linkOnly_refl s

theorem linkOnly_doFrameGapTimeout (bs : List Byte) : s.linkOnly (s.doFrameGapTimeout bs) := by
  unfold State.doFrameGapTimeout
  split
  · exact linkOnly_trans (linkOnly_bytesArrive s bs) (linkOnly_modLink _ _)
  · exact linkOnly_refl s

theorem linkOnly_doLengthByteOutOfRange (b : Byte) : s.linkOnly (s.doLengthByteOutOfRange b) := by
  unfold State.doLengthByteOutOfRange
  split
  · exact linkOnly_modLink s _
  · exact linkOnly_refl s

theorem linkOnly_doMessageTransmitStart : s.linkOnly s.doMessageTransmitStart := by
  unfold State.doMessageTransmitStart
  split
  · exact linkOnly_modLink s _
  · exact linkOnly_refl s

theorem linkOnly_doMessageSent : s.linkOnly s.doMessageSent := by
  unfold State.doMessageSent
  split
  · exact linkOnly_refl s
  · exact linkOnly_modLink s _

theorem linkOnly_doStatus : s.linkOnly s.doStatus := by
  unfold State.doStatus
  split
  · exact linkOnly_refl s
  · split
    · exact linkOnly_answer s _ _ _
    · exact linkOnly_refl s

theorem linkOnly_doQuery : s.linkOnly s.doQuery := by
  unfold State.doQuery
  split
  · exact linkOnly_refl s
  · split
    · exact linkOnly_answer s _ _ _
    · exact linkOnly_refl s

theorem linkOnly_doSeriesRead : s.linkOnly s.doSeriesRead := by
  unfold State.doSeriesRead
  split
  · exact linkOnly_refl s
  · split
    · dsimp only
      split <;> exact linkOnly_answer s _ _ _
    · exact linkOnly_refl s

theorem linkOnly_doBlockRead : s.linkOnly s.doBlockRead := by
  unfold State.doBlockRead
  split
  · exact linkOnly_refl s
  · split
    · exact linkOnly_answer s _ _ _
    · exact linkOnly_refl s

theorem linkOnly_doDoubtRead : s.linkOnly s.doDoubtRead := by
  unfold State.doDoubtRead
  split
  · exact linkOnly_refl s
  · split
    · exact linkOnly_answer s _ _ _
    · exact linkOnly_refl s

end

namespace TablesAndCards
variable {s : State} {p : Pos}

theorem linkOnly {t : State} (h : TablesAndCards s) (ht : s.linkOnly t) : TablesAndCards t := by
  obtain ⟨l, rfl⟩ := ht
  exact ⟨tablesLawful_congr h.tables, h.cards.same rfl⟩

/-- An operation that leaves the settings, the store and the SAVE keeps the tables' law. -/
theorem kept {t : State} (h : TablesAndCards s) (hc : CardsLawful t) (hk : t.kept = s.kept := by simp) : TablesAndCards t :=
  ⟨tablesLawful_of_kept hk h.tables, hc⟩

theorem takeFront {o : Owner} (h : TablesAndCards s) : TablesAndCards (s.takeFront o) := h.linkOnly ⟨_, rfl⟩

theorem answer {r : Request} {b : ReplyBody} (h : TablesAndCards s) : TablesAndCards (s.answer r b) := h.linkOnly ⟨_, rfl⟩

theorem guarded {r : Request} {f : State → State} (h : TablesAndCards s) (hf : TablesAndCards (f s)) :
    TablesAndCards (s.guarded r f) := by
  unfold State.guarded
  split
  · exact h.answer
  · exact hf

/-- The working settings are written, with lawful tables. -/
theorem writeWorking {x : Settings} (h : TablesAndCards s) (hx : x.tablesLawful) :
    TablesAndCards { s with working := x } :=
  ⟨⟨hx, h.tables.2⟩, h.cards.same rfl⟩

/-! ### Requests on the tables -/

theorem doSeriesLoad (h : TablesAndCards s) : TablesAndCards s.doSeriesLoad := by
  unfold State.doSeriesLoad
  split
  · exact h
  · split
    · refine h.takeFront.guarded ?_
      split
      · exact h.takeFront.answer
      · split
        · exact h.takeFront.answer
        · next hl =>
          exact answer (h.takeFront.writeWorking ⟨h.tables.1.1, seriesUnique_loaded h.tables.1.2 hl⟩)
    · exact h

theorem blocksChanged {r : Request} {bs : Option (List Range)} (h : TablesAndCards s)
    (hb : ∀ cs, bs = some cs → blocksCanonical cs) : TablesAndCards (s.blocksChanged r bs) := by
  unfold State.blocksChanged
  split
  · exact h.answer
  · next cs => exact answer (h.writeWorking ⟨hb cs rfl, h.tables.1.2⟩)

theorem doBlockAdd (h : TablesAndCards s) : TablesAndCards s.doBlockAdd := by
  unfold State.doBlockAdd
  split
  · exact h
  · split
    · refine h.takeFront.guarded ?_
      split
      · exact h.takeFront.answer
      · next valid =>
        exact h.takeFront.blocksChanged fun cs hc => (addRange_some h.tables.1.1 ((Range.not_empty_iff _).1 valid) hc).1
    · exact h

theorem doBlockRemove (h : TablesAndCards s) : TablesAndCards s.doBlockRemove := by
  unfold State.doBlockRemove
  split
  · exact h
  · split
    · refine h.takeFront.guarded ?_
      split
      · exact h.takeFront.answer
      · next valid =>
        exact h.takeFront.blocksChanged fun cs hc => (removeSpan_some h.tables.1.1 ((Range.not_empty_iff _).1 valid) hc).1
    · exact h

theorem blocksCanonical_nil : blocksCanonical [] := by simp [blocksCanonical]

theorem doBlockClear (h : TablesAndCards s) : TablesAndCards s.doBlockClear := by
  unfold State.doBlockClear
  split
  · exact h
  · split
    · exact h.takeFront.guarded (h.takeFront.blocksChanged fun cs hc => by cases hc; exact blocksCanonical_nil)
    · exact h

end TablesAndCards

end Sys2Proof.Machine

namespace Sys2Proof.Machine

@[simp] theorem holding_queueNotice (s : State) (p : Pos) : (s.queueNotice p).holding = s.holding := by
  unfold State.queueNotice
  split <;> rfl

@[simp] theorem holding_queuePartNotice (s : State) : s.queuePartNotice.holding = s.holding := by
  unfold State.queuePartNotice
  split <;> rfl

@[simp] theorem holding_acknowledge (s : State) (p : Pos) (m v : BitVec 9) : (s.acknowledge p m v).holding = s.holding := by
  have acked : (s.modUnit p fun u => { u with flags := ackFlags (s.unit p).flags m v }).holding = s.holding :=
    holding_modUnit s rfl rfl
  unfold State.acknowledge
  dsimp only
  split
  · rw [holding_queueNotice, acked]
  · exact acked

@[simp] theorem holding_acknowledgePart (s : State) (m v : BitVec 5) : (s.acknowledgePart m v).holding = s.holding := by
  unfold State.acknowledgePart
  dsimp only
  split
  · rw [holding_queuePartNotice]; rfl
  · rfl

@[simp] theorem holding_enterTest (s : State) (p : Pos) : (s.enterTest p).holding = s.holding := by
  rw [State.enterTest, holding_beginTestFrame, holding_modUnit s rfl rfl]

namespace CardsLawful
variable {s : State} {p : Pos}

theorem takeCharge {r : Request} {n : Nat} (h : CardsLawful s) : CardsLawful (s.takeCharge p r n) := by
  unfold State.takeCharge
  split
  · exact h.answer
  · split
    · exact h.answer
    · exact startRest (h.same (by rw [holding_workQueue, State.joinQueue, holding_modLine, holding_modCtx s rfl]))

theorem takenRecords {n : Nat} (h : CardsLawful s) : CardsLawful { s with retained := (s.retained.takeRecords n).2.1 } :=
  h.same (holding_congr rfl (offerHeld_ctxs _ _))

theorem startTest {r : Request} {m : Quad} (h : CardsLawful s) : CardsLawful (s.startTest r m) :=
  same (foldl (fun x => x.same (holding_enterTest _ _)) _ h.test) (holding_finishTest _)

theorem seated {x : Option Seated} {cs : List Card} (h : CardsLawful s) :
    CardsLawful { s.modUnit p (fun u => { u with reader := x }) with cardsOut := cs } :=
  same (s := s.modUnit p fun u => { u with reader := x }) (h.same (holding_modUnit s rfl rfl)) rfl

theorem doLoopCurrentChange {x : LoopChange} (h : CardsLawful s) : CardsLawful (s.doLoopCurrentChange p x) := by
  unfold State.doLoopCurrentChange
  split
  · dsimp only
    split
    · exact h.seated.modLine
    · exact h.seated
  · split
    · exact h
    · dsimp only
      split
      · exact modLine (h.seated.same (holding_blinkEnd _ _))
      · exact h.seated
  · exact h

theorem doInsertion (h : CardsLawful s) : CardsLawful (s.doInsertion p) := by
  unfold State.doInsertion
  dsimp only
  split
  · split
    · exact h.modLine.insert
    · exact h.modLine
  · exact h

theorem doRemoval (h : CardsLawful s) : CardsLawful (s.doRemoval p) := by
  unfold State.doRemoval
  dsimp only
  split
  · exact h.dueFirst.removed.replyIf.restartSettle
  · exact h

theorem doRestCountExpiry (h : CardsLawful s) : CardsLawful (s.doRestCountExpiry p) := by
  unfold State.doRestCountExpiry
  split
  · split
    · exact h
    · exact h.same
  · exact h

theorem modCard {f : Card → Card} (h : CardsLawful s) : CardsLawful (s.modCard p f) := h.same

theorem doOrderFrameEnd {x : Passage} {b : Bool} (h : CardsLawful s) : CardsLawful (s.doOrderFrameEnd p x b) := by
  unfold State.doOrderFrameEnd
  split
  · exact h
  · split
    · exact h
    · dsimp only
      split
      · exact h.modLine
      · exact h.modLine.modCard

theorem doAnswerFrame {a : Arrival} (h : CardsLawful s) : CardsLawful (s.doAnswerFrame p a) := by
  unfold State.doAnswerFrame
  split
  · exact h
  · next hx => exact (h.arrives hx).takeAnswer.startRest.restartSettle

theorem doAnswerTimeout (h : CardsLawful s) : CardsLawful (s.doAnswerTimeout p) := by
  unfold State.doAnswerTimeout
  split
  · exact h
  · split
    · exact h
    · exact h.modCard.attemptFailed.startRest.restartSettle

theorem doLoopbackReturn {bs : List Byte} (h : CardsLawful s) : CardsLawful (s.doLoopbackReturn p bs) := by
  unfold State.doLoopbackReturn
  split
  · split
    · exact h.same
    · exact h.fixCode
  · exact h

theorem doLoopbackTimeout (h : CardsLawful s) : CardsLawful (s.doLoopbackTimeout p) := by
  unfold State.doLoopbackTimeout
  split
  · exact h.fixCode
  · exact h

theorem doEchoAnswer {bs : List Byte} (h : CardsLawful s) : CardsLawful (s.doEchoAnswer p bs) := by
  unfold State.doEchoAnswer
  split
  · split
    · exact h
    · exact h.fixCode
    · exact h.echoFailed
  · exact h

theorem doEchoTimeout (h : CardsLawful s) : CardsLawful (s.doEchoTimeout p) := by
  unfold State.doEchoTimeout
  split
  · split
    · exact h.echoFailed
    · exact h
  · exact h

theorem doResetPositionAct (h : CardsLawful s) : CardsLawful (s.doResetPositionAct p) := by
  unfold State.doResetPositionAct
  split
  · split
    · exact h.resetAct.answerAt
    · exact h
  · exact h

theorem doConfigureAct (h : CardsLawful s) : CardsLawful (s.doConfigureAct p) := by
  unfold State.doConfigureAct
  split
  · split
    · exact h.configureAct.answerAt
    · exact h
  · exact h

end CardsLawful

/-! ## The commands -/

namespace TablesAndCards
variable {s : State} {p : Pos}

/-! ### Requests on the calls, the positions and the lists -/

/-- What a request, taken from its queue, does to the calls and the cards alone. -/
theorem taken {t : State} (o : Owner) (h : TablesAndCards s) (hc : CardsLawful (s.takeFront o) → CardsLawful t)
    (hk : t.kept = (s.takeFront o).kept := by simp) : TablesAndCards t := h.takeFront.kept (hc h.takeFront.cards) hk

theorem doAcknowledge (h : TablesAndCards s) : TablesAndCards s.doAcknowledge := by
  unfold State.doAcknowledge
  split
  · exact h
  · split
    · unfold State.takeAcknowledge
      split
      · exact h.taken .linkPort fun c => c.same
      · exact h.taken .linkPort fun c => c.same
    · exact h

theorem doOpen (h : TablesAndCards s) : TablesAndCards s.doOpen := by
  unfold State.doOpen
  split
  · exact h
  · split
    · exact h.taken .callTable fun c => c.completeIfDue.takeOpen
    · exact h

theorem doCharge (h : TablesAndCards s) : TablesAndCards s.doCharge := by
  unfold State.doCharge
  split
  · exact h
  · split
    · exact h.taken .callTable fun c => c.takeCharge
    · exact h

theorem doClose (h : TablesAndCards s) : TablesAndCards s.doClose := by
  unfold State.doClose
  split
  · exact h
  · split
    · exact h.taken .callTable fun c => c.takeClose
    · exact h

theorem doResetPosition (h : TablesAndCards s) : TablesAndCards (s.doResetPosition p) := by
  unfold State.doResetPosition
  split
  · split
    · exact h.taken (.lineUnit (posByte p)) fun c => c.takeReset
    · exact h
  · exact h

theorem doTakeRecords (h : TablesAndCards s) : TablesAndCards s.doTakeRecords := by
  unfold State.doTakeRecords
  split
  · exact h
  · split
    · next r _ _ n _ =>
      have carried : TablesAndCards { s.takeFront .recordList with
          retained := ((s.takeFront .recordList).retained.takeRecords (takeCount n.toNat)).2.1 } :=
        h.taken .recordList (fun c => c.takenRecords) rfl
      dsimp only
      split
      · exact answer (carried.linkOnly (linkOnly_raisePart _ _))
      · exact carried.answer
    · exact h

theorem doDoubtDiscard (h : TablesAndCards s) : TablesAndCards s.doDoubtDiscard := by
  unfold State.doDoubtDiscard
  split
  · exact h
  · split
    · dsimp only
      split
      · exact h.taken .doubtList fun c => c.same rfl
      · split
        · exact h.takeFront.answer
        · exact h.takeFront.answer
    · exact h

theorem doSelfTest (h : TablesAndCards s) : TablesAndCards s.doSelfTest := by
  unfold State.doSelfTest
  split
  · exact h
  · dsimp only
    split
    · split
      · exact h.takeFront.answer
      · split
        · exact h.takeFront
        · exact h.taken .selfTest fun c => c.startTest
    · exact h

/-- What changes neither a holding nor a table. -/
theorem others {t : State} (h : TablesAndCards s) (hh : t.holding = s.holding := by rfl)
    (hb : t.working.blocks = s.working.blocks := by rfl) (hs : t.working.series = s.working.series := by rfl)
    (hst : t.stored = s.stored := by rfl) (hsv : t.save = s.save := by rfl) : TablesAndCards t :=
  ⟨tablesLawful_congr h.tables hb hs hst hsv, h.cards.same hh⟩

theorem configured {r : Request} {x : PosSettings} (h : TablesAndCards s) : TablesAndCards (s.configured p r x) := by
  have written : TablesAndCards (s.writeSettings p x) := h.others
  refine written.kept h.cards.configured ?_
  unfold State.configured
  dsimp only
  split
  · simp
  · simp
  · simp
  · split <;> simp

theorem takeConfigure {r : Request} {i n c : Byte} (h : TablesAndCards s) :
    TablesAndCards (s.takeConfigure p r i n c) := by
  have due : TablesAndCards (s.completeIfDue p) := h.kept h.cards.completeIfDue
  unfold State.takeConfigure
  split
  · exact h.answer
  · dsimp only
    split
    · exact due.answer
    · exact due.configured

theorem doConfigure (h : TablesAndCards s) : TablesAndCards (s.doConfigure p) := by
  unfold State.doConfigure
  split
  · split
    · exact h.takeFront.takeConfigure
    · exact h
  · exact h

/-! ### Requests on the settings, the SAVE and the key -/

theorem setMode {m : Mode} (h : TablesAndCards s) : TablesAndCards (s.setMode m) := by
  unfold State.setMode
  split <;> exact h.others

theorem doProtect (h : TablesAndCards s) : TablesAndCards s.doProtect := by
  unfold State.doProtect
  split
  · exact h
  · split
    · split
      · exact h.takeFront.answer
      · unfold State.takeProtect
        split
        · exact h.takeFront.answer
        · exact h.takeFront.setMode.answer
    · exact h

/-- A SAVE copies the working tables. -/
theorem beginSave {r : Request} {n : Nat} {x : Rate} (h : TablesAndCards s) : TablesAndCards (s.beginSave r n x) where
  tables := by
    obtain ⟨working, stored, -⟩ := h.tables
    exact ⟨working, stored, fun y hy => by cases hy; exact working⟩
  cards := h.cards.same rfl

theorem doSave (h : TablesAndCards s) : TablesAndCards s.doSave := by
  unfold State.doSave
  split
  · exact h
  · split
    · refine h.takeFront.guarded ?_
      split
      · exact h.takeFront.answer
      · split
        · exact h.takeFront.answer
        · exact h.takeFront.beginSave
    · exact h

theorem doSaveWriteComplete (h : TablesAndCards s) : TablesAndCards s.doSaveWriteComplete := by
  unfold State.doSaveWriteComplete
  split
  · exact h
  · next x hx =>
    obtain ⟨working, -, save⟩ := h.tables
    exact ⟨⟨working, save x hx, nofun⟩, h.cards.same rfl⟩

theorem doKeyInputChange {b : Bool} (h : TablesAndCards s) : TablesAndCards (s.doKeyInputChange b) := by
  unfold State.doKeyInputChange
  split
  · exact h
  · exact h.others

theorem keyChanged (h : TablesAndCards s) : TablesAndCards s.keyChanged := by
  unfold State.keyChanged
  split
  · exact h.others
  · exact h.linkOnly (linkOnly_raisePart s _)

theorem doKeyDebounceExpiry (h : TablesAndCards s) : TablesAndCards s.doKeyDebounceExpiry := by
  have settled {k : Key} : TablesAndCards { s with key := k } := h.others
  unfold State.doKeyDebounceExpiry
  dsimp only
  split
  · split
    · exact settled.keyChanged
    · exact settled
  · exact h

/-! ### RESTART, start-up, and the loss of main supply (R153, R161) -/

theorem takeRestart {r : Request} (h : TablesAndCards s) : TablesAndCards (s.takeRestart r) := by
  have settling : TablesAndCards { (s.answer r .ok).modLink (fun l => { l with hold := true }) with restart := .settling } :=
    h.others
  unfold State.takeRestart
  exact settling.kept settling.cards.stopArbiter.abortTest.restartSettle

theorem doRestart (h : TablesAndCards s) : TablesAndCards s.doRestart := by
  unfold State.doRestart
  split
  · split
    · exact h.takeFront.takeRestart
    · exact h
  · exact h

theorem startSettings_tablesLawful (h : s.tablesLawful) : s.startSettings.tablesLawful := by
  unfold State.startSettings
  split
  · exact h.2.1
  · exact defaults_tablesLawful

/-- Start-up finds the calls as they were, or none where retained memory was lost (R160). -/
theorem startRetained_ctx (s : State) (q : Pos) :
    (s.startRetained.ctx q).state = .noCall ∨ (s.startRetained.ctx q).callTerms = (s.ctx q).callTerms := by
  unfold State.startRetained
  split
  · exact .inr rfl
  · rw [cleared_ctx]; exact .inl rfl

theorem startBlocks (h : TablesAndCards s) : TablesAndCards s.startBlocks where
  tables := ⟨startSettings_tablesLawful h.tables, h.tables.2.1, nofun⟩
  cards := (h.cards.retained (startRetained_ctx s)).less fun p => by
    simp only [State.holding, startBlocks_unit]
    exact ⟨.inl rfl, .inl rfl, .inr rfl⟩

/-- The closes of start-up leave each call as it was, or end it. -/
theorem foldl_startClose_ctx (e : EndCause) (q : Pos) (ps : List Pos) : ∀ m : Retained,
    ((ps.foldl (fun n p => n.startClose e p) m).ctx q).state = .noCall ∨
      (ps.foldl (fun n p => n.startClose e p) m).ctx q = m.ctx q := by
  induction ps with
  | nil => exact fun m => .inr rfl
  | cons p ps ih =>
    intro m
    by_cases hq : q = p
    · subst hq
      exact .inl (foldl_startClose_ended e q (q :: ps) m (.inl List.mem_cons_self)).1
    · have := ih (m.startClose e p)
      rwa [startClose_ctx_ne m e hq] at this

theorem startSome {n : Nat} (h : TablesAndCards s) : TablesAndCards (s.modRetained fun m => m.startSome n) :=
  h.kept (h.cards.retained fun q => (foldl_startClose_ctx _ q _ _).imp_right (congrArg Context.callTerms))

theorem raisePartIf {b : Bool} {f : PartFlag} (h : TablesAndCards s) : TablesAndCards (s.raisePartIf b f) := by
  unfold State.raisePartIf
  split
  · exact h.linkOnly (linkOnly_raisePart s f)
  · exact h

theorem startedWith_started (h : TablesAndCards s) : TablesAndCards (s.startedWith s.retained.started) :=
  others (s := { s with retained := s.retained.started })
    (h.kept (h.cards.retained fun q => .inl (started_ended s.retained q).1))

theorem insertAll (l : List Pos) : ∀ {s : State}, TablesAndCards s → TablesAndCards (l.foldl State.insert s) := by
  induction l with
  | nil => exact fun h => h
  | cons p l ih => exact fun h => ih (h.kept h.cards.insert)

theorem startEnd (h : TablesAndCards s) : TablesAndCards s.startEnd := by
  cases hs : s.starting with
  | none => simpa only [State.startEnd, hs] using h
  | some x =>
    rw [startEnd_eq hs]
    exact insertAll _ h.startedWith_started.raisePartIf.raisePartIf.raisePartIf.raisePartIf

theorem startOn {pause : Option Nat} (h : TablesAndCards s) : TablesAndCards (s.startOn pause) := by
  cases pause with
  | none => exact h.startEnd
  | some n => exact h.startSome

theorem startUp {pause : Option Nat} (h : TablesAndCards s) : TablesAndCards (s.startUp pause) := h.startBlocks.startOn

theorem doPartRestart {pause : Option Nat} (h : TablesAndCards s) : TablesAndCards (s.doPartRestart pause) := by
  have settled : TablesAndCards s.restartSettle := h.kept h.cards.restartSettle
  unfold State.doPartRestart
  split
  · exact startUp settled.others
  · exact h

theorem doPowerOn {b : Bool} {pause : Option Nat} (h : TablesAndCards s) : TablesAndCards (s.doPowerOn b pause) := by
  unfold State.doPowerOn
  split
  · exact startUp h.others
  · split
    · exact h.startOn
    · exact h

theorem doMainSupplyLoss {points : List Nat} (h : TablesAndCards s) : TablesAndCards (s.doMainSupplyLoss points) := by
  cases on : s.powered with
  | false => simpa [State.doMainSupplyLoss, on] using h
  | true =>
    have unit := doMainSupplyLoss_unit on points
    have same : (s.doMainSupplyLoss points).retained = s.retained ∧ (s.doMainSupplyLoss points).stored = s.stored ∧
        (s.doMainSupplyLoss points).working = Settings.defaults ∧ (s.doMainSupplyLoss points).save = none := by
      simp [State.doMainSupplyLoss, on]
    obtain ⟨retained, stored, working, save⟩ := same
    refine ⟨⟨working ▸ defaults_tablesLawful, stored ▸ h.tables.2.1, by rw [save]; nofun⟩, h.cards.less fun p => ?_⟩
    simp only [State.holding, unit, State.ctx, retained]
    exact ⟨.inl rfl, .inl rfl, .inr rfl⟩

end TablesAndCards

/-! ## Every step -/

theorem tick_tablesAndCards {s : State} (h : TablesAndCards s) : TablesAndCards s.tick := by
  cases on : s.powered with
  | false => rw [tick_off on]; exact h
  | true =>
    have ticked : s.tick.holding = s.holding := funext fun p => by
      simp only [State.holding, tick_unit on]
      rw [tick_on on]
      rfl
    rw [tick_on on] at ticked ⊢
    exact h.others ticked

theorem exec_tablesAndCards {s t : State} {i : Instr} (h : TablesAndCards s) (ht : exec i s = .next t) :
    TablesAndCards t := by
  cases i with
  | frameReceived bs => cases ht; exact h.linkOnly (linkOnly_doFrameReceived s bs)
  | frameGapTimeout bs => cases ht; exact h.linkOnly (linkOnly_doFrameGapTimeout s bs)
  | lengthByteOutOfRange b => cases ht; exact h.linkOnly (linkOnly_doLengthByteOutOfRange s b)
  | messageTransmitStart => cases ht; exact h.linkOnly (linkOnly_doMessageTransmitStart s)
  | messageSent => cases ht; exact h.linkOnly (linkOnly_doMessageSent s)
  | status => cases ht; exact h.linkOnly (linkOnly_doStatus s)
  | query => cases ht; exact h.linkOnly (linkOnly_doQuery s)
  | seriesRead => cases ht; exact h.linkOnly (linkOnly_doSeriesRead s)
  | blockRead => cases ht; exact h.linkOnly (linkOnly_doBlockRead s)
  | doubtRead => cases ht; exact h.linkOnly (linkOnly_doDoubtRead s)
  | configure p => cases ht; exact h.doConfigure
  | acknowledge => cases ht; exact h.doAcknowledge
  | seriesLoad => cases ht; exact h.doSeriesLoad
  | blockAdd => cases ht; exact h.doBlockAdd
  | blockRemove => cases ht; exact h.doBlockRemove
  | blockClear => cases ht; exact h.doBlockClear
  | openCall => cases ht; exact h.doOpen
  | charge => cases ht; exact h.doCharge
  | close => cases ht; exact h.doClose
  | resetPosition p => cases ht; exact h.doResetPosition
  | takeRecords => cases ht; exact h.doTakeRecords
  | doubtDiscard => cases ht; exact h.doDoubtDiscard
  | protect => cases ht; exact h.doProtect
  | save => cases ht; exact h.doSave
  | saveWriteComplete => cases ht; exact h.doSaveWriteComplete
  | selfTest => cases ht; exact h.doSelfTest
  | restart => cases ht; exact h.doRestart
  | partRestart pause => cases ht; exact h.doPartRestart
  | keyInputChange closed => cases ht; exact h.doKeyInputChange
  | keyDebounceExpiry => cases ht; exact h.doKeyDebounceExpiry
  | powerOn kept pause => cases ht; exact h.doPowerOn
  | mainSupplyLoss points => cases ht; exact h.doMainSupplyLoss
  | configureOutOfServiceAct p => cases ht; exact h.kept h.cards.doConfigureAct
  | closeCompletion p => cases ht; exact h.kept h.cards.completeIfDue (kept_completeIfDue s p)
  | resetPositionAct p => cases ht; exact h.kept h.cards.doResetPositionAct
  | loopCurrentChange p change => cases ht; exact h.kept h.cards.doLoopCurrentChange
  | insertion p => cases ht; exact h.kept h.cards.doInsertion
  | removal p => cases ht; exact h.kept h.cards.doRemoval
  | restCountExpiry p => cases ht; exact h.kept h.cards.doRestCountExpiry
  | orderFrameEnd p passage takes => cases ht; exact h.kept h.cards.doOrderFrameEnd
  | answerFrame p a => cases ht; exact h.kept h.cards.doAnswerFrame
  | answerTimeout p => cases ht; exact h.kept h.cards.doAnswerTimeout
  | loopbackReturn p bs => cases ht; exact h.kept h.cards.doLoopbackReturn
  | loopbackTimeout p => cases ht; exact h.kept h.cards.doLoopbackTimeout
  | echoAnswer p bs => cases ht; exact h.kept h.cards.doEchoAnswer
  | echoTimeout p => cases ht; exact h.kept h.cards.doEchoTimeout

theorem step_tablesAndCards {s t : State} (h : TablesAndCards s) (ht : step s = .next t) : TablesAndCards t := by
  cases hp : s.pending with
  | nil =>
    cases (step_idle hp).symm.trans ht
    exact tick_tablesAndCards h
  | cons i rest =>
    rw [step, hp] at ht
    exact exec_tablesAndCards h.others ht

/-- Settles O60: the three laws together hold after every step. Each command leaves the tables, or writes lawful ones; what
the positions hold of a card and of a call stays or is given up, but where a card is accepted (an identity that no other
position holds, terms in range) and where a call is opened (with the held terms of its position). -/
theorem tableLawKept : Obligations.TableLawKept := by
  intro s t tables once terms ht
  have after := step_tablesAndCards ⟨tables, (cardsLawful_iff s).2 ⟨once, terms⟩⟩ ht
  exact ⟨after.tables, (cardsLawful_iff t).1 after.cards⟩

end Sys2Proof.Machine

namespace Sys2Proof.Machine

/-! ## The laws of retained memory (R76, R78, R111, R127, R130) -/

/-- The laws of O59. -/
structure Retained.Lawful (m : Retained) : Prop where
  room : m.roomLawful
  counts : m.countsLawful
  queues : m.queuesLawful

/-- A context with a call exactly where there was one, the same call, and no more charges. -/
structure Context.Narrows (c d : Context) : Prop where
  open_iff : d.state = .noCall ↔ c.state = .noCall
  callId : d.callId = c.callId
  queue : d.queue.length ≤ c.queue.length

theorem nextNumber_le {first n : Nat} (hf : first ≤ 65535) (hn : n ≤ 65535) : nextNumber first n ≤ 65535 := by
  unfold nextNumber
  split <;> omega

section
variable (m : Retained) (p : Pos)

@[simp] theorem closeTear_reservations : (m.closeTear p).reservations = m.reservations := by
  rw [closeTear_eq]
  rfl

theorem storeCall_reservations (e : EndCause) (l : Option Location) : (m.storeCall p e l).reservations =
    m.reservations.filter fun x => !(x.position = p && x.callId = (m.ctx p).callId) := rfl

@[simp] theorem storeCall_seqCounter (e : EndCause) (l : Option Location) :
    (m.storeCall p e l).seqCounter = nextNumber 0 m.seqCounter := rfl

end

namespace Retained.Lawful
variable {m n : Retained} {p : Pos}

theorem cleared : Retained.cleared.Lawful := by
  refine ⟨cleared_roomLawful, ⟨by decide, by decide, by decide, by decide⟩, fun p => ?_⟩
  rw [cleared_ctx]
  exact ⟨by decide, fun h => absurd rfl h⟩

/-- Other lists and counters within their ranges, with the contexts and the reservations as they were. -/
theorem lists (h : m.Lawful) (ctxs : n.ctxs = m.ctxs := by rfl) (reservations : n.reservations = m.reservations := by rfl)
    (room : n.room ≤ 64) (counts : n.countsLawful) : n.Lawful := by
  have ctx (q : Pos) : n.ctx q = m.ctx q := by simp only [Retained.ctx, ctxs]
  refine ⟨⟨room, ?_, fun r => ?_⟩, counts, fun q => ?_⟩
  · rw [reservations]; exact h.room.2.1
  · rw [reservations, ctx]; exact h.room.2.2 r
  · rw [ctx]; exact h.queues q

theorem marked (h : m.Lawful) (b c : Bool) : ({ m with restartMarker := b, check := c } : Retained).Lawful :=
  h.lists (room := h.room.1) (counts := h.counts)

/-! ### The contexts -/

/-- One context changes and its queue keeps to the law; the rest is as it was. -/
theorem modCtx {f : Context → Context} (h : m.Lawful)
    (open_iff : (f (m.ctx p)).state = .noCall ↔ (m.ctx p).state = .noCall)
    (callId : (f (m.ctx p)).callId = (m.ctx p).callId)
    (queue : (f (m.ctx p)).queue.length ≤ 4 ∧ ((f (m.ctx p)).queue ≠ [] → (f (m.ctx p)).state ≠ .noCall)) :
    (m.modCtx p f).Lawful := by
  refine ⟨⟨h.room.1, h.room.2.1, fun r => ?_⟩, h.counts, fun q => ?_⟩
  · refine (h.room.2.2 r).trans ?_
    by_cases hr : r.position = p
    · rw [hr, ctx_modCtx_retained, callId, ne_eq, ne_eq, open_iff]
    · rw [ctx_modCtx_retained_ne m hr]
  · by_cases hq : q = p
    · rw [hq, ctx_modCtx_retained]; exact queue
    · rw [ctx_modCtx_retained_ne m hq]; exact h.queues q

theorem narrowed {f : Context → Context} (h : m.Lawful) (hf : (m.ctx p).Narrows (f (m.ctx p))) :
    (m.modCtx p f).Lawful := by
  obtain ⟨length, idle⟩ := h.queues p
  refine h.modCtx hf.open_iff hf.callId ⟨hf.queue.trans length, fun charges none => ?_⟩
  have held : (m.ctx p).queue ≠ [] := fun empty => charges (by simpa [empty] using hf.queue)
  exact idle held (hf.open_iff.1 none)

/-- A charge joins the queue of an open call that holds fewer than four. -/
theorem joined {x : Charge} (h : m.Lawful) (calling : (m.ctx p).state ≠ .noCall) (free : (m.ctx p).queue.length < 4) :
    (m.modCtx p fun c => { c with queue := c.queue ++ [x] }).Lawful :=
  h.modCtx Iff.rfl rfl ⟨by rw [List.length_append]; exact free, fun _ => calling⟩

/-! ### The doubt list and the records -/

theorem torn (h : m.Lawful) : (m.closeTear p).Lawful := by
  obtain ⟨doubts, calls, creation, seq⟩ := h.counts
  have entered : m.tearDoubts p = m.doubts ∧ m.tearCounter p = m.creationCounter ∨
      (m.tearDoubts p).length ≤ 48 ∧ m.tearCounter p = nextNumber 0 m.creationCounter := by
    unfold Retained.tearDoubts Retained.tearCounter
    split
    · exact .inl ⟨rfl, rfl⟩
    · split
      · next room => exact .inr ⟨by simpa using room.2, rfl⟩
      · exact .inl ⟨rfl, rfl⟩
  have doubts' : (m.tearDoubts p).length ≤ 48 := entered.elim (fun e => e.1 ▸ doubts) And.left
  have creation' : m.tearCounter p ≤ 65535 :=
    entered.elim (fun e => e.2 ▸ creation) fun e => e.2 ▸ nextNumber_le (by decide) creation
  have handed : ({ m with doubts := m.tearDoubts p, creationCounter := m.tearCounter p } : Retained).Lawful :=
    h.lists (room := h.room.1) (counts := ⟨doubts', calls, creation', seq⟩)
  rw [closeTear_eq]
  exact handed.narrowed ⟨Iff.rfl, rfl, le_rfl⟩

theorem offer {e : DoubtEntry} (h : m.Lawful) : (m.offer e).1.Lawful := by
  obtain ⟨doubts, calls, creation, seq⟩ := h.counts
  unfold Retained.offer
  split
  · exact h
  · split
    · next room =>
      refine h.lists (room := ?_)
        (counts := ⟨(List.length_filter_le _ _).trans doubts, calls, creation, nextNumber_le (by decide) seq⟩)
      simp only [Retained.room, Retained.store, List.length_append, List.length_singleton, Config.recordSlots] at room ⊢
      omega
    · exact h

theorem offerHeld (es : List DoubtEntry) : ∀ {m : Retained}, m.Lawful → (m.offerHeld es).1.Lawful := by
  induction es with
  | nil => exact fun h => h
  | cons e es ih => exact fun h => ih h.offer

theorem resolved {i : Identity} {t : Tally} (h : m.Lawful) : (m.resolve i t p).1.Lawful := by
  unfold Retained.resolve
  split
  · exact h
  · obtain ⟨doubts, counters⟩ := h.counts
    exact offer (h.lists (room := h.room.1) (counts := ⟨by rw [List.length_map]; exact doubts, counters⟩))

theorem discarded {i : Identity} (h : m.Lawful) : (m.discard i).Lawful := by
  obtain ⟨doubts, counters⟩ := h.counts
  exact h.lists (room := h.room.1) (counts := ⟨(List.length_eraseP_le).trans doubts, counters⟩)

theorem recordsTaken {k : Nat} (h : m.Lawful) : (m.takeRecords k).2.1.Lawful := by
  have fewer : m.records.length - k + m.reservations.length ≤ 64 :=
    (Nat.add_le_add_right (Nat.sub_le _ _) _).trans h.room.1
  exact offerHeld _ (h.lists (n := { m with records := m.records.drop k })
    (room := by rw [Retained.room, List.length_drop]; exact fewer) (counts := h.counts))

/-! ### A call opened and a call closed -/

/-- The reservation of an open call is there, and its record takes its place (R130, R132). -/
theorem closed {e : EndCause} {l : Option Location} (h : m.Lawful) (calling : (m.ctx p).state ≠ .noCall) :
    (m.storeCall p e l).Lawful := by
  obtain ⟨room, nodup, calls⟩ := h.room
  obtain ⟨doubts, call, creation, seq⟩ := h.counts
  have own : ({ position := p, callId := (m.ctx p).callId } : Reservation) ∈ m.reservations := (calls _).2 ⟨calling, rfl⟩
  have freed : (m.reservations.filter fun x => !(x.position = p && x.callId = (m.ctx p).callId)).length <
      m.reservations.length := List.length_filter_lt_length_iff_exists.2 ⟨_, own, by simp⟩
  refine ⟨⟨?_, nodup.filter _, fun r => ?_⟩, ⟨doubts, call, creation, nextNumber_le (by decide) seq⟩, fun q => ?_⟩
  · rw [Retained.room, storeCall_records, storeCall_reservations, List.length_append, List.length_singleton]
    unfold Retained.room at room
    omega
  · rw [storeCall_reservations, List.mem_filter, calls]
    by_cases hr : r.position = p
    · rw [hr, storeCall_ctx]
      refine iff_of_false (fun ⟨⟨_, id⟩, other⟩ => ?_) fun ended => ended.1 rfl
      simp [id] at other
    · rw [storeCall_ctx_ne m e l hr]
      simp [hr]
  · by_cases hq : q = p
    · rw [hq, storeCall_ctx]; exact ⟨Nat.zero_le _, fun none => absurd rfl none⟩
    · rw [storeCall_ctx_ne m e l hq]; exact h.queues q

/-- A position without a call has no reservation, and takes one while there is room (R130, R131). -/
theorem opened {i : Image} {x : Terms} {k : Nat} (h : m.Lawful) (idle : (m.ctx p).state = .noCall)
    (free : m.mayReserve = true) : (m.openCall p i x k).Lawful := by
  obtain ⟨room, nodup, calls⟩ := h.room
  obtain ⟨doubts, call, creation, seq⟩ := h.counts
  have none (r : Reservation) (hr : r ∈ m.reservations) : r.position ≠ p := fun at_p =>
    ((calls r).1 hr).1 (at_p ▸ idle)
  have ctx : (m.openCall p i x k).ctx p = (m.ctx p).opened (nextNumber 1 m.callCounter) i x k :=
    ctx_modCtx_retained _ p _
  have ctx_ne {q : Pos} (hq : q ≠ p) : (m.openCall p i x k).ctx q = m.ctx q := ctx_modCtx_retained_ne _ hq _
  have reservations : (m.openCall p i x k).reservations =
    m.reservations ++ [{ position := p, callId := nextNumber 1 m.callCounter }] := rfl
  refine ⟨⟨?_, ?_, fun r => ?_⟩, ⟨doubts, nextNumber_le (by decide) call, creation, seq⟩, fun q => ?_⟩
  · have slots : m.room + 1 ≤ 56 := by simpa [Retained.mayReserve, Config.openSlots] using free
    change m.records.length + (m.openCall p i x k).reservations.length ≤ 64
    rw [reservations, List.length_append, List.length_singleton]
    unfold Retained.room at slots
    omega
  · rw [reservations]
    exact List.nodup_append.2 ⟨nodup, List.nodup_singleton _, fun r hr y hy e => none r hr (by
      rw [e, List.mem_singleton.1 hy])⟩
  · rw [reservations, List.mem_append, List.mem_singleton]
    by_cases hr : r.position = p
    · rw [hr, ctx]
      have new : r ∉ m.reservations := fun h => none r h hr
      rw [or_iff_right new]
      refine ⟨fun e => ⟨nofun, by rw [e]; rfl⟩, fun ⟨_, id⟩ => ?_⟩
      rw [← hr, show nextNumber 1 m.callCounter = r.callId from id]
    · rw [ctx_ne hr, calls]
      refine or_iff_left fun e => hr ?_
      rw [e]
  · by_cases hq : q = p
    · rw [hq, ctx]; exact ⟨Nat.zero_le _, fun none => absurd rfl none⟩
    · rw [ctx_ne hq]; exact h.queues q

end Retained.Lawful

end Sys2Proof.Machine

namespace Sys2Proof.Machine

/-! ## What a step can do to retained memory -/

/-- Retained memory comes from `m` to be another by changes that the part makes: each constructor is one, with what holds
where the part makes it. -/
inductive Retained.Becomes (m : Retained) : Retained → Prop
  | unchanged : m.Becomes m
  | narrowed {n : Retained} {p : Pos} {f : Context → Context} (h : m.Becomes n)
      (hf : (n.ctx p).Narrows (f (n.ctx p))) : m.Becomes (n.modCtx p f)
  | joined {n : Retained} {p : Pos} (x : Charge) (h : m.Becomes n) (calling : (n.ctx p).state ≠ .noCall)
      (free : (n.ctx p).queue.length < 4) : m.Becomes (n.modCtx p fun c => { c with queue := c.queue ++ [x] })
  | torn {n : Retained} (p : Pos) (h : m.Becomes n) : m.Becomes (n.closeTear p)
  | closed {n : Retained} {p : Pos} (e : EndCause) (l : Option Location) (h : m.Becomes n)
      (calling : (n.ctx p).state ≠ .noCall) : m.Becomes (n.storeCall p e l)
  | opened {n : Retained} {p : Pos} (i : Image) (x : Terms) (k : Nat) (h : m.Becomes n)
      (idle : (n.ctx p).state = .noCall) (free : n.mayReserve = true) : m.Becomes (n.openCall p i x k)
  | resolved {n : Retained} (i : Identity) (t : Tally) (p : Pos) (h : m.Becomes n) : m.Becomes (n.resolve i t p).1
  | discarded {n : Retained} (i : Identity) (h : m.Becomes n) : m.Becomes (n.discard i)
  | recordsTaken {n : Retained} (k : Nat) (h : m.Becomes n) : m.Becomes (n.takeRecords k).2.1
  | marked {n : Retained} (b c : Bool) (h : m.Becomes n) : m.Becomes { n with restartMarker := b, check := c }
  | cleared (h : m.Becomes n) : m.Becomes Retained.cleared

/-- Each of these changes keeps the laws. -/
theorem Retained.Becomes.lawful {m n : Retained} (h : m.Becomes n) (hm : m.Lawful) : n.Lawful := by
  induction h with
  | unchanged => exact hm
  | narrowed _ hf ih => exact ih.narrowed hf
  | joined _ _ calling free ih => exact ih.joined calling free
  | torn _ _ ih => exact ih.torn
  | closed _ _ _ calling ih => exact ih.closed calling
  | opened _ _ _ _ idle free ih => exact ih.opened idle free
  | resolved _ _ _ _ ih => exact ih.resolved
  | discarded _ _ ih => exact ih.discarded
  | recordsTaken _ _ ih => exact ih.recordsTaken
  | marked b c _ ih => exact ih.marked b c
  | cleared => exact Retained.Lawful.cleared

/-! ### Contexts with the same call and no more charges -/

theorem Context.Narrows.trans {c d e : Context} (h : c.Narrows d) (h' : d.Narrows e) : c.Narrows e :=
  ⟨h'.open_iff.trans h.open_iff, h'.callId.trans h.callId, h'.queue.trans h.queue⟩

theorem narrows_settleHead (c : Context) (a : Nat) : c.Narrows (c.settleHead a) := by
  unfold Context.settleHead
  split
  · exact ⟨Iff.rfl, rfl, le_rfl⟩
  · next hq => exact ⟨Iff.rfl, rfl, by simp [hq]⟩

theorem narrows_cancelHead (c : Context) : c.Narrows c.cancelHead := by
  unfold Context.cancelHead
  split
  · exact ⟨Iff.rfl, rfl, le_rfl⟩
  · next hq => exact ⟨Iff.rfl, rfl, by simp [hq]⟩

theorem narrows_cancelSecond (c : Context) : c.Narrows c.cancelSecond := by
  unfold Context.cancelSecond
  split
  · next hq => exact ⟨Iff.rfl, rfl, by simp [hq]⟩
  · exact ⟨Iff.rfl, rfl, le_rfl⟩

theorem narrows_countStep (c : Context) : c.Narrows c.countStep := by
  refine ⟨Iff.rfl, rfl, ?_⟩
  unfold Context.countStep
  cases c.queue <;> simp

theorem narrows_confirm (f : InFlight) (t : Tally) (c : Context) : c.Narrows (c.confirm f t) := by
  have read : c.Narrows { c.readImage t with field := none } := ⟨Iff.rfl, rfl, le_rfl⟩
  unfold Context.confirm
  split
  · exact read.trans (narrows_countStep _)
  · exact read

theorem narrows_settleAtStart (c : Context) : c.Narrows c.settleAtStart := by
  have cancelled (t : List Charge) : ∀ d : Context, c.Narrows d → c.Narrows (t.foldl (fun c _ => c.cancelHead) d) := by
    induction t with
    | nil => exact fun d h => h
    | cons x t ih => exact fun d h => ih _ (h.trans (narrows_cancelHead d))
  unfold Context.settleAtStart
  split
  · exact ⟨Iff.rfl, rfl, le_rfl⟩
  · exact cancelled _ _ (narrows_settleHead c _)

/-! ### What leaves retained memory as it was -/

section
variable (s : State) (p : Pos)

@[simp] theorem startRest_retained : (s.startRest p).retained = s.retained := by
  unfold State.startRest
  split <;> rfl

@[simp] theorem sendRead_retained (r : ReadFor) (a : Attempt) : (s.sendRead p r a).retained = s.retained := by
  unfold State.sendRead
  split <;> rfl

@[simp] theorem nextRead_retained : (s.nextRead p).retained = s.retained := by
  unfold State.nextRead
  split <;> simp

@[simp] theorem queueNotice_retained : (s.queueNotice p).retained = s.retained := by rw [queueNotice_eq]

@[simp] theorem queuePartNotice_retained : s.queuePartNotice.retained = s.retained := by
  unfold State.queuePartNotice
  split <;> rfl

@[simp] theorem replyCharge_retained (h : Charge) (o : ChargeOutcome) (n : Nat) (l : Option Location) :
    (s.replyCharge p h o n l).retained = s.retained := rfl

@[simp] theorem raisePartIf_retained (b : Bool) (f : PartFlag) : (s.raisePartIf b f).retained = s.retained := by
  unfold State.raisePartIf
  split <;> simp

@[simp] theorem reject_retained (c : Cause) : (s.reject p c).retained = s.retained := by simp [State.reject]

@[simp] theorem acknowledge_retained (m v : BitVec 9) : (s.acknowledge p m v).retained = s.retained := by
  unfold State.acknowledge
  dsimp only
  split <;> simp

@[simp] theorem acknowledgePart_retained (m v : BitVec 5) : (s.acknowledgePart m v).retained = s.retained := by
  unfold State.acknowledgePart
  dsimp only
  split <;> simp

@[simp] theorem firstWoken_retained : (s.firstWoken p).retained = s.retained := by simp [State.firstWoken]

@[simp] theorem wokenForRead_retained (r : ReadFor) (a : Attempt) : (s.wokenForRead p r a).retained = s.retained := by
  unfold State.wokenForRead
  split <;> simp

@[simp] theorem checkCard_retained (h : Header) : (s.checkCard p h).retained = s.retained := by
  unfold State.checkCard
  split
  · simp
  · split <;> simp

@[simp] theorem headerAnswered_retained (h : Header) : (s.headerAnswered p h).retained = s.retained := by
  unfold State.headerAnswered
  split
  · simp
  · split <;> simp

@[simp] theorem beginTestFrame_retained (k : OrderKind) (a : Attempt) (x : Option Quad) :
    (s.beginTestFrame p k a x).retained = s.retained := by
  unfold State.beginTestFrame
  dsimp only
  split <;> rfl

@[simp] theorem enterTest_retained : (s.enterTest p).retained = s.retained := by simp [State.enterTest]

@[simp] theorem finishTest_retained : s.finishTest.retained = s.retained := by
  unfold State.finishTest
  split
  · rfl
  · split <;> rfl

@[simp] theorem leaveTest_retained : (s.leaveTest p).retained = s.retained := by
  unfold State.leaveTest
  dsimp only
  split <;> simp

@[simp] theorem fixCode_retained (c : Byte) : (s.fixCode p c).retained = s.retained := by simp [State.fixCode]

@[simp] theorem echoFailed_retained (o : Order) (c : Byte) : (s.echoFailed p o c).retained = s.retained := by
  unfold State.echoFailed
  split <;> simp

theorem foldl_retained {α : Type} {f : State → α → State} (h : ∀ s a, (f s a).retained = s.retained) (l : List α) :
    ∀ s : State, (l.foldl f s).retained = s.retained := by
  induction l with
  | nil => exact fun s => rfl
  | cons a l ih => exact fun s => (ih _).trans (h s a)

@[simp] theorem startTest_retained (r : Request) (m : Quad) : (s.startTest r m).retained = s.retained := by
  rw [State.startTest, finishTest_retained, foldl_retained fun s p => enterTest_retained s p]

@[simp] theorem abortTest_retained : s.abortTest.retained = s.retained :=
  foldl_retained (fun s p => leaveTest_retained s p) _ s

@[simp] theorem restartReady_retained : (s.restartReady p).retained = s.retained := by
  unfold State.restartReady
  split
  · dsimp only
    split <;> simp
  · rfl

@[simp] theorem comeIntoService_retained : (s.comeIntoService p).retained = s.retained := by
  unfold State.comeIntoService
  split <;> simp

@[simp] theorem blinkEnd_retained : (s.blinkEnd p).retained = s.retained := by
  unfold State.blinkEnd
  dsimp only
  split <;> simp

@[simp] theorem replyIf_retained (r : Option (Byte × Byte)) : (s.replyIf p r).retained = s.retained := by
  unfold State.replyIf
  split <;> rfl

@[simp] theorem doInsertion_retained : (s.doInsertion p).retained = s.retained := by
  unfold State.doInsertion
  dsimp only
  split
  · split <;> simp
  · rfl

@[simp] theorem doRestCountExpiry_retained : (s.doRestCountExpiry p).retained = s.retained := by
  unfold State.doRestCountExpiry
  split
  · split <;> simp
  · rfl

@[simp] theorem doLoopCurrentChange_retained (x : LoopChange) : (s.doLoopCurrentChange p x).retained = s.retained := by
  unfold State.doLoopCurrentChange
  split
  · dsimp only
    split <;> rfl
  · split
    · rfl
    · dsimp only
      split
      · rw [modLine_retained, blinkEnd_retained]; rfl
      · rfl
  · rfl

@[simp] theorem doOrderFrameEnd_retained (x : Passage) (b : Bool) : (s.doOrderFrameEnd p x b).retained = s.retained := by
  unfold State.doOrderFrameEnd
  split
  · rfl
  · split
    · rfl
    · dsimp only
      split <;> rfl

theorem arrives_retained {s : State} {p : Pos} {a : Arrival} {x : List Byte × State} (h : s.arrives p a = some x) :
    x.2.retained = s.retained := by
  unfold State.arrives at h
  split at h
  · obtain ⟨bs, -, rfl⟩ := Option.map_eq_some_iff.1 h
    rfl
  · cases h; rfl
  · cases h; rfl

@[simp] theorem doLoopbackReturn_retained (bs : List Byte) : (s.doLoopbackReturn p bs).retained = s.retained := by
  unfold State.doLoopbackReturn
  split
  · split <;> simp
  · rfl

@[simp] theorem doLoopbackTimeout_retained : (s.doLoopbackTimeout p).retained = s.retained := by
  unfold State.doLoopbackTimeout
  split <;> simp

@[simp] theorem doEchoAnswer_retained (bs : List Byte) : (s.doEchoAnswer p bs).retained = s.retained := by
  unfold State.doEchoAnswer
  split
  · split <;> simp
  · rfl

@[simp] theorem doEchoTimeout_retained : (s.doEchoTimeout p).retained = s.retained := by
  unfold State.doEchoTimeout
  split
  · split <;> simp
  · rfl

@[simp] theorem doAcknowledge_retained : s.doAcknowledge.retained = s.retained := by
  unfold State.doAcknowledge
  split
  · rfl
  · split
    · unfold State.takeAcknowledge
      split <;> simp
    · rfl

@[simp] theorem doSelfTest_retained : s.doSelfTest.retained = s.retained := by
  unfold State.doSelfTest
  split
  · rfl
  · dsimp only
    split
    · split
      · rfl
      · split <;> simp
    · rfl

end

end Sys2Proof.Machine

namespace Sys2Proof.Machine

/-! ### The requests on the tables, the store and the key; time; the loss of supply -/

section
variable (s : State)

theorem linkOnly_retained {s t : State} (h : s.linkOnly t) : t.retained = s.retained := by
  obtain ⟨l, rfl⟩ := h
  rfl

theorem guarded_retained (r : Request) {f : State → State} (hf : (f s).retained = s.retained) :
    (s.guarded r f).retained = s.retained := by
  unfold State.guarded
  split
  · rfl
  · exact hf

@[simp] theorem blocksChanged_retained (r : Request) (bs : Option (List Range)) :
    (s.blocksChanged r bs).retained = s.retained := by
  unfold State.blocksChanged
  split <;> rfl

@[simp] theorem doSeriesLoad_retained : s.doSeriesLoad.retained = s.retained := by
  unfold State.doSeriesLoad
  split
  · rfl
  · split
    · refine guarded_retained _ _ ?_
      split
      · rfl
      · split <;> rfl
    · rfl

@[simp] theorem doBlockAdd_retained : s.doBlockAdd.retained = s.retained := by
  unfold State.doBlockAdd
  split
  · rfl
  · split
    · refine guarded_retained _ _ ?_
      split <;> simp
    · rfl

@[simp] theorem doBlockRemove_retained : s.doBlockRemove.retained = s.retained := by
  unfold State.doBlockRemove
  split
  · rfl
  · split
    · refine guarded_retained _ _ ?_
      split <;> simp
    · rfl

@[simp] theorem doBlockClear_retained : s.doBlockClear.retained = s.retained := by
  unfold State.doBlockClear
  split
  · rfl
  · split
    · exact guarded_retained _ _ (by simp)
    · rfl

@[simp] theorem setMode_retained (m : Mode) : (s.setMode m).retained = s.retained := by
  unfold State.setMode
  split <;> rfl

@[simp] theorem doProtect_retained : s.doProtect.retained = s.retained := by
  unfold State.doProtect State.takeProtect
  split
  · rfl
  · split
    · split
      · rfl
      · split <;> simp
    · rfl

@[simp] theorem doSave_retained : s.doSave.retained = s.retained := by
  unfold State.doSave
  split
  · rfl
  · split
    · refine guarded_retained _ _ ?_
      split
      · rfl
      · split <;> rfl
    · rfl

@[simp] theorem doSaveWriteComplete_retained : s.doSaveWriteComplete.retained = s.retained := by
  unfold State.doSaveWriteComplete
  split <;> rfl

@[simp] theorem doKeyInputChange_retained (b : Bool) : (s.doKeyInputChange b).retained = s.retained := by
  unfold State.doKeyInputChange
  split <;> rfl

@[simp] theorem keyChanged_retained : s.keyChanged.retained = s.retained := by
  unfold State.keyChanged
  split <;> simp

@[simp] theorem doKeyDebounceExpiry_retained : s.doKeyDebounceExpiry.retained = s.retained := by
  unfold State.doKeyDebounceExpiry
  dsimp only
  split
  · split <;> simp
  · rfl

@[simp] theorem doMainSupplyLoss_retained (points : List Nat) : (s.doMainSupplyLoss points).retained = s.retained := by
  unfold State.doMainSupplyLoss
  split <;> rfl

@[simp] theorem tick_retained : s.tick.retained = s.retained := by
  unfold State.tick
  split <;> rfl

end

/-- Steps 5 to 7 of the close of a call are made on what its tear and its cuts have left (R88). -/
theorem closeCall_retained {s : State} {p : Pos} (h : (s.ctx p).state ≠ .noCall) (e : EndCause) (l : Option Location) :
    (s.closeCall p e l).retained =
      (State.cutAll (s.ctx p).queue.length (s.modRetained fun m => m.closeTear p) p e.outcome l).retained.storeCall p e
        l := by
  unfold State.closeCall
  rw [if_neg h]
  extract_lets s1 r s2 s3
  have raised : s3.retained = s2.retained := (raiseClosed_frame s2 p e).2.1
  rw [answerCloses_retained, raised]
  exact raisePart_retained _ _

namespace Retained.Becomes
variable {m : Retained} {s : State} {p : Pos}

theorem kept {t : State} (h : m.Becomes s.retained) (e : t.retained = s.retained := by simp) : m.Becomes t.retained :=
  e ▸ h

theorem modCtx {f : Context → Context} (h : m.Becomes s.retained) (hf : (s.ctx p).Narrows (f (s.ctx p))) :
    m.Becomes (s.modCtx p f).retained := h.narrowed hf

/-! ### Write channels (R82, R99 to R101) -/

theorem clearField (h : m.Becomes s.retained) : m.Becomes (s.clearField p).retained := h.modCtx ⟨Iff.rfl, rfl, le_rfl⟩

theorem grantTo {r : WriteRequest} (h : m.Becomes s.retained) : m.Becomes (s.grantTo r).retained := by
  unfold State.grantTo
  dsimp only
  split
  · exact h
  · split
    · exact h
    · next t _ =>
      exact h.modCtx (f := fun c => { c with field := some { kind := r.kind, stage := r.stage, before := t } })
        ⟨Iff.rfl, rfl, le_rfl⟩

theorem grantLoop (n : Nat) : ∀ {s : State}, m.Becomes s.retained → m.Becomes (s.grantLoop n).retained := by
  induction n with
  | zero => exact fun h => h
  | succ n ih =>
    intro s h
    unfold State.grantLoop
    split
    · exact h
    · split
      · exact ih (grantTo h)
      · exact h

theorem grantAll (h : m.Becomes s.retained) : m.Becomes s.grantAll.retained := h.grantLoop _

theorem requestWrite (h : m.Becomes s.retained) : m.Becomes (s.requestWrite p).retained := by
  unfold State.requestWrite
  split
  · exact h
  · split
    · exact h
    · split
      · exact h
      · exact grantAll h

theorem release (h : m.Becomes s.retained) : m.Becomes (s.release p).retained := by
  unfold State.release
  split
  · exact grantAll h
  · exact h

theorem dropUnsent (h : m.Becomes s.retained) : m.Becomes (s.dropUnsent p).retained := by
  unfold State.dropUnsent
  split
  · exact release (clearField (s := s.endOrder p) h)
  · exact h

theorem stopWork (h : m.Becomes s.retained) : m.Becomes (s.stopWork p).retained := by
  have dropped : m.Becomes ((s.withdraw p).dropUnsent p).retained := dropUnsent h
  unfold State.stopWork State.abandonOrder
  split <;> exact dropped

/-! ### Charges (R60, R62, R63, R66) -/

theorem lowCompare (h : m.Becomes s.retained) : m.Becomes (s.lowCompare p).retained := by
  unfold State.lowCompare
  dsimp only
  split
  · rw [raise_retained]
    exact h.modCtx ⟨Iff.rfl, rfl, le_rfl⟩
  · exact h

theorem settleHead (a : Nat) (h : m.Becomes s.retained) : m.Becomes (s.modCtx p fun c => c.settleHead a).retained :=
  h.modCtx (narrows_settleHead _ a)

theorem settleOwn (h : m.Becomes s.retained) : m.Becomes (s.settleOwn p).retained := by
  unfold State.settleOwn
  split
  · dsimp only
    split
    · exact lowCompare (h.settleHead _)
    · rw [replyCharge_retained, raise_retained]
      exact lowCompare (h.settleHead _)
  · exact h

theorem cutHead {o : ChargeOutcome} {l : Option Location} (h : m.Becomes s.retained) :
    m.Becomes (s.cutHead p o l).retained := by
  unfold State.cutHead
  split
  · exact h
  · split
    · exact lowCompare (h.settleHead _)
    · exact lowCompare (h.modCtx (narrows_cancelHead _))

theorem cutAll {o : ChargeOutcome} {l : Option Location} (n : Nat) : ∀ {s : State}, m.Becomes s.retained →
    m.Becomes (State.cutAll n s p o l).retained := by
  induction n with
  | zero => exact fun h => h
  | succ n ih => exact fun h => ih h.cutHead

theorem cutBehind (n : Nat) : ∀ {s : State}, m.Becomes s.retained → m.Becomes (State.cutBehind n s p).retained := by
  induction n with
  | zero => exact fun h => h
  | succ n ih =>
    intro s h
    unfold State.cutBehind
    split
    · exact ih (lowCompare (h.modCtx (narrows_cancelSecond _)))
    · exact h

theorem beginStep (h : m.Becomes s.retained) : m.Becomes (s.beginStep p).retained := by
  unfold State.beginStep
  split
  · exact h
  · exact requestWrite h

theorem workQueue (n : Nat) : ∀ {s : State}, m.Becomes s.retained → m.Becomes (State.workQueue n s p).retained := by
  induction n with
  | zero => exact fun h => h
  | succ n ih =>
    intro s h
    unfold State.workQueue
    split
    · exact h
    · split
      · dsimp only
        split
        · exact beginStep h
        · split
          · exact ih (settleOwn h)
          · exact h
      · exact h

theorem continueHead (h : m.Becomes s.retained) : m.Becomes (s.continueHead p).retained := by
  unfold State.continueHead
  split
  · exact h
  · split
    · split
      · exact h.requestWrite
      · split
        · exact h.beginStep
        · exact h.settleOwn.workQueue _
      · split
        · exact h.requestWrite
        · exact h.cutHead
      · exact h.cutHead
      · exact h
    · exact h

/-! ### A call closed (R88) and a line given up (R31, R36) -/

theorem closeCall {e : EndCause} {l : Option Location} (h : m.Becomes s.retained) :
    m.Becomes (s.closeCall p e l).retained := by
  by_cases none : (s.ctx p).state = .noCall
  · rw [closeCall_of_noCall none]; exact h
  · have torn : (s.modRetained fun n => n.closeTear p).ctx p =
        { s.ctx p with field := .none, mark := s.retained.tearMark p } := closeTear_ctx s.retained p
    obtain ⟨w, cut⟩ := cutAll_settles (s.modRetained fun n => n.closeTear p) p e.outcome l
    obtain ⟨b, ctx⟩ := cut.ctx
    rw [torn] at ctx
    rw [closeCall_retained none]
    refine closed e l (cutAll _ (s := s.modRetained fun n => n.closeTear p) (h.torn p)) ?_
    change (State.ctx _ p).state ≠ _
    rw [ctx, cutCtx_closeTear]
    exact none

theorem completeRequested (h : m.Becomes s.retained) : m.Becomes (s.completeRequested p).retained :=
  kept (s := s.closeCall p .requested none) h.closeCall (startRest_retained _ p)

theorem completeIfDue (h : m.Becomes s.retained) : m.Becomes (s.completeIfDue p).retained := by
  unfold State.completeIfDue
  split
  · exact h.completeRequested
  · exact h

theorem enterFaulted {c : FaultCause} {l : Option Location} (h : m.Becomes s.retained) :
    m.Becomes (s.enterFaulted p c l).retained := by
  have entered : m.Becomes (s.faultEntry p c l).retained := h.kept
  unfold State.enterFaulted
  dsimp only
  split
  · exact h
  · split
    · exact clearField (s := (s.faultEntry p c l).modUnit p _) entered
    · exact closeCall entered
    · exact entered

theorem lineFailure (h : m.Becomes s.retained) : m.Becomes (s.lineFailure p).retained := h.enterFaulted

theorem attemptFailed {o : Order} (h : m.Becomes s.retained) : m.Becomes (s.attemptFailed p o).retained := by
  unfold State.attemptFailed
  split
  · exact kept (s := (s.endOrder p).release p) (release h)
  · split
    · exact h.lineFailure
    · exact h
  · split
    · exact h.lineFailure
    · exact h.kept
  · split
    · exact h.lineFailure
    · exact h
  · split
    · exact h.lineFailure
    · exact h
  · exact h

/-! ### Answers (R26, R29, R30, R44 to R48, R103 to R108) -/

theorem storeImage {x : Header} {t : Tally} (h : m.Becomes s.retained) : m.Becomes (s.storeImage p x t).retained := by
  rw [State.storeImage, startRest_retained, raise_retained]
  exact h.modCtx (f := fun c => { c with image := some { header := x, tally := t } }) ⟨Iff.rfl, rfl, le_rfl⟩

theorem finishSequence (h : m.Becomes s.retained) : m.Becomes (s.finishSequence p).retained := by
  unfold State.finishSequence State.checkConsumption
  split
  · split
    · exact h.kept
    · split
      · exact h.kept
      · exact h.storeImage
  · exact h

theorem resolveDoubt {i : Identity} {t : Tally} (h : m.Becomes s.retained) :
    m.Becomes (s.resolveDoubt p i t).retained := by
  unfold State.resolveDoubt
  dsimp only
  split
  · rw [raisePart_retained]; exact h.resolved i t p
  · exact h.resolved i t p

theorem tallyAnswered {t : Tally} (h : m.Becomes s.retained) : m.Becomes (s.tallyAnswered p t).retained := by
  have read : m.Becomes (s.modUnit p (Position.tallyRead t)).retained := h
  unfold State.tallyAnswered
  dsimp only
  split
  · split
    · exact read.resolveDoubt.finishSequence
    · exact read.finishSequence
  · split
    · exact requestWrite read.resolveDoubt
    · exact requestWrite read

theorem callJudged {f : InFlight} {t : Tally} (h : m.Becomes s.retained) : m.Becomes (s.callJudged p f t).retained := by
  unfold State.callJudged
  split
  · exact continueHead (h.modCtx (narrows_confirm f t _))
  · split
    · exact h.clearField.continueHead
    · exact h.clearField.enterFaulted
  · exact enterFaulted (h.modCtx ⟨Iff.rfl, rfl, le_rfl⟩)

theorem latchJudged {f : InFlight} {t : Tally} (h : m.Becomes s.retained) :
    m.Becomes (s.latchJudged p f t).retained := by
  have cleared : m.Becomes ((s.clearField p).modLine p fun l => { l with shownTally := some t }).retained := h.clearField
  unfold State.latchJudged
  dsimp only
  split
  · split
    · exact finishSequence cleared
    · exact cleared
  · split
    · exact cleared.requestWrite
    · exact cleared.enterFaulted
  · exact cleared.enterFaulted

theorem verified {t : Tally} (h : m.Becomes s.retained) : m.Becomes (s.verified p t).retained := by
  unfold State.verified
  split
  · exact h
  · split
    · exact h.callJudged
    · exact h.latchJudged

theorem refusalRead {t : Tally} (h : m.Becomes s.retained) : m.Becomes (s.refusalRead p t).retained := by
  unfold State.refusalRead
  dsimp only
  split
  · exact enterFaulted (h.modCtx ⟨Iff.rfl, rfl, le_rfl⟩)
  · exact enterFaulted h

theorem wokenForRequest (h : m.Becomes s.retained) : m.Becomes (s.wokenForRequest p).retained := by
  unfold State.wokenForRequest
  split
  · exact h.continueHead
  · exact h.requestWrite

theorem answered {o : Order} {a : Answer} (h : m.Becomes s.retained) : m.Becomes (s.answered p o a).retained := by
  have ended : m.Becomes (s.endOrder p).retained := h
  have woken : m.Becomes ((s.endOrder p).contactAwake p).retained := h
  unfold State.answered
  dsimp only
  split
  · split
    · exact woken.kept
    · exact ended.kept
  · split
    · exact woken.kept
    · exact ended.lineFailure
  · split
    · exact woken.wokenForRequest
    · exact ended.lineFailure
  · exact kept ended.release (sendRead_retained _ p _ _)
  · exact kept ended.clearField.release (sendRead_retained _ p _ _)
  · exact ended.kept
  · exact ended.tallyAnswered
  · exact ended.verified
  · exact ended.refusalRead
  · exact h

theorem takeAnswer {bs : List Byte} (h : m.Becomes s.retained) : m.Becomes (s.takeAnswer p bs).retained := by
  unfold State.takeAnswer
  split
  · exact h
  · split
    · exact h
    · split
      · exact h
      · exact h.attemptFailed
      · split
        · exact h
        · split
          · exact h.answered
          · exact h.attemptFailed

end Retained.Becomes

end Sys2Proof.Machine

namespace Sys2Proof.Machine

namespace Retained.Becomes
variable {m : Retained} {s : State} {p : Pos}

theorem foldl {α : Type} {f : State → α → State} (hf : ∀ {s a}, m.Becomes s.retained → m.Becomes (f s a).retained)
    (l : List α) : ∀ {s : State}, m.Becomes s.retained → m.Becomes (l.foldl f s).retained := by
  induction l with
  | nil => exact fun h => h
  | cons a l ih => exact fun h => ih (hf h)

/-! ### The requests of a position and presence (R19, R22, R33, R34) -/

theorem takeReset {r : Request} (h : m.Becomes s.retained) : m.Becomes (s.takeReset p r).retained := by
  unfold State.takeReset
  split
  · exact h
  · exact h.completeIfDue.stopWork

theorem resetEffect (h : m.Becomes s.retained) : m.Becomes (s.resetEffect p).retained := by
  unfold State.resetEffect
  split
  · exact h
  · exact h
  · exact h
  · exact h.kept
  · exact h.kept
  · exact h.kept
  · exact h.kept
  · rw [beginIdentification_retained]; exact h.closeCall

theorem resetAct (h : m.Becomes s.retained) : m.Becomes (s.resetAct p).retained := resetEffect (s := s.clearWait p) h

theorem goOff (h : m.Becomes s.retained) : m.Becomes (s.goOff p).retained := by
  have off : m.Becomes (((s.stopWork p).contactOff p .unpowered).modUnit p Position.goOff).retained :=
    (h.stopWork (p := p)).kept
  exact off.clearField

theorem configureAct (h : m.Becomes s.retained) : m.Becomes (s.configureAct p).retained := by
  unfold State.configureAct
  split
  · exact h
  · exact goOff (s := s.clearWait p) h

theorem configured {r : Request} {x : PosSettings} (h : m.Becomes s.retained) :
    m.Becomes (s.configured p r x).retained := by
  have written : m.Becomes (s.writeSettings p x).retained := h
  unfold State.configured
  dsimp only
  split
  · exact written.kept
  · exact h
  · exact h
  · split
    · exact written.stopWork
    · exact written.goOff

theorem takeConfigure {r : Request} {i n c : Byte} (h : m.Becomes s.retained) :
    m.Becomes (s.takeConfigure p r i n c).retained := by
  unfold State.takeConfigure
  split
  · exact h
  · dsimp only
    split
    · exact h.completeIfDue
    · exact h.completeIfDue.configured

theorem teardown (h : m.Becomes s.retained) : m.Becomes (s.teardown p).retained := by
  have emptied : m.Becomes ((((s.dropUnsent p).contactOff p .unpowered).modUnit p Position.emptied).raise p
      .removed).retained := (h.dropUnsent (p := p)).kept
  unfold State.teardown
  dsimp only
  split
  · exact closeCall (release (s := State.withdraw _ p) emptied)
  · exact clearField (release (s := State.withdraw _ p) emptied)

theorem dueFirst (h : m.Becomes s.retained) : m.Becomes (s.dueFirst p).1.retained := by
  unfold State.dueFirst
  dsimp only
  split
  · split
    · exact h.completeIfDue.resetAct
    · exact h.completeIfDue
  · split
    · exact h.completeIfDue.configureAct
    · exact h.completeIfDue
  · exact h.completeIfDue

theorem removed (h : m.Becomes s.retained) : m.Becomes (s.removed p).retained := by
  have absent : m.Becomes (s.modLine p fun l => { l with present := false, debounce := none }).retained := h
  unfold State.removed
  dsimp only
  split
  · exact absent.teardown
  · exact absent

/-! ### The requests of the call table (R75 to R79, R85 to R87) -/

theorem takeOpen {r : Request} {k : Nat} (h : m.Becomes s.retained) : m.Becomes (s.takeOpen p r k).retained := by
  unfold State.takeOpen
  split
  · exact h
  · next i x ready =>
    split
    · exact h.kept
    · split
      · exact h
      · next free =>
        have idle : (s.ctx p).state = .noCall := by
          unfold State.openReady at ready
          split at ready
          · assumption
          · cases ready
        exact lowCompare (s := (s.modRetained fun n => n.openCall p i x k).modLine p _)
          (h.opened i x k idle (by simpa using free))

theorem takeCharge {r : Request} {k : Nat} (h : m.Becomes s.retained) : m.Becomes (s.takeCharge p r k).retained := by
  unfold State.takeCharge
  split
  · exact h
  · next calling =>
    split
    · exact h
    · next free =>
      have queued (x : Charge) : m.Becomes (s.joinQueue p x).retained :=
        h.joined x (fun none => nomatch (not_not.1 calling).symm.trans none) (Nat.not_le.1 free)
      rw [startRest_retained]
      exact workQueue _ (queued _)

theorem closeHead (h : m.Becomes s.retained) : m.Becomes (s.closeHead p).retained := by
  unfold State.closeHead
  split
  · exact h.completeRequested
  · split
    · exact h
    · rw [startRest_retained]
      exact cutHead (dropUnsent (s := s.withdraw p) h)

theorem takeClose {r : Request} (h : m.Becomes s.retained) : m.Becomes (s.takeClose p r).retained := by
  unfold State.takeClose
  split
  · exact h
  · next calling =>
    dsimp only
    split
    · exact h
    · have closing : m.Becomes (s.modCtx p fun c => { c with state := .closing }).retained :=
        h.modCtx ⟨by simp [not_not.1 calling], rfl, le_rfl⟩
      exact closeHead (cutBehind _ closing)

/-! ### RESTART (R95, R110, R153) -/

theorem restartCloseAt (h : m.Becomes s.retained) : m.Becomes (s.restartCloseAt p).retained := by
  unfold State.restartCloseAt
  split
  · exact h.completeRequested
  · rw [restartReady_retained]; exact h.closeCall

theorem restartSettle (h : m.Becomes s.retained) : m.Becomes s.restartSettle.retained := by
  unfold State.restartSettle
  split
  · exact foldl restartCloseAt _ (s := { s with restart := .closed, freeCount := s.freeCount + 1 }) h
  · exact h

theorem takeRestart {r : Request} (h : m.Becomes s.retained) : m.Becomes (s.takeRestart r).retained := by
  have stopped {u : State} (hu : m.Becomes u.retained) : m.Becomes u.stopArbiter.retained :=
    foldl dropUnsent _ (s := { u with arbiter := { u.arbiter with waiting := [], granting := false } }) hu
  unfold State.takeRestart
  refine restartSettle ?_
  rw [abortTest_retained]
  exact stopped h

/-! ### Start-up (R72, R96, R125, R160, R161) -/

theorem startClose {n : Retained} {e : EndCause} (h : m.Becomes n) : m.Becomes (n.startClose e p) := by
  unfold Retained.startClose
  split
  · exact h.narrowed ⟨Iff.rfl, rfl, le_rfl⟩
  · next calling =>
    have settled : ((n.closeTear p).ctx p).Narrows ((n.closeTear p).ctx p).settleAtStart := narrows_settleAtStart _
    refine closed e none ((h.torn p).narrowed settled) ?_
    rw [ctx_modCtx_retained, ne_eq, settled.open_iff, closeTear_ctx]
    exact calling

theorem startCloses {n : Retained} (ps : List Pos) (h : m.Becomes n) : m.Becomes (n.startCloses ps) := by
  have all (e : EndCause) : ∀ {n : Retained}, m.Becomes n → m.Becomes (ps.foldl (fun n p => n.startClose e p) n) := by
    induction ps with
    | nil => exact fun h => h
    | cons p ps ih => exact fun h => ih h.startClose
  exact all _ h

theorem started {n : Retained} (h : m.Becomes n) : m.Becomes n.started := (h.startCloses positions).marked _ _

theorem startEnd (h : m.Becomes s.retained) : m.Becomes s.startEnd.retained := by
  cases hs : s.starting with
  | none => simpa only [State.startEnd, hs] using h
  | some x =>
    rw [startEnd_eq hs, foldl_retained fun s p => insert_retained s p]
    have ended : m.Becomes (s.startedWith s.retained.started).retained := h.started
    simpa [State.startRaisings] using ended

theorem startOn {pause : Option Nat} (h : m.Becomes s.retained) : m.Becomes (s.startOn pause).retained := by
  cases pause with
  | none => exact h.startEnd
  | some n => exact h.startCloses _

theorem startUp {pause : Option Nat} (h : m.Becomes s.retained) : m.Becomes (s.startUp pause).retained := by
  have found : m.Becomes s.startRetained := by
    unfold State.startRetained
    split
    · exact h
    · exact h.cleared
  exact startOn (s := s.startBlocks) found

end Retained.Becomes

/-! ### Every step -/

namespace Retained.Becomes
variable {m : Retained} {s : State} {p : Pos}

theorem doOpen (h : m.Becomes s.retained) : m.Becomes s.doOpen.retained := by
  unfold State.doOpen
  split
  · exact h
  · split
    · exact takeOpen (completeIfDue (s := s.takeFront .callTable) h)
    · exact h

theorem doCharge (h : m.Becomes s.retained) : m.Becomes s.doCharge.retained := by
  unfold State.doCharge
  split
  · exact h
  · split
    · exact takeCharge (s := s.takeFront .callTable) h
    · exact h

theorem doClose (h : m.Becomes s.retained) : m.Becomes s.doClose.retained := by
  unfold State.doClose
  split
  · exact h
  · split
    · exact takeClose (s := s.takeFront .callTable) h
    · exact h

theorem doConfigure (h : m.Becomes s.retained) : m.Becomes (s.doConfigure p).retained := by
  unfold State.doConfigure
  split
  · split
    · exact takeConfigure (s := s.takeFront (.lineUnit (posByte p))) h
    · exact h
  · exact h

theorem doConfigureAct (h : m.Becomes s.retained) : m.Becomes (s.doConfigureAct p).retained := by
  unfold State.doConfigureAct
  split
  · split
    · exact h.configureAct
    · exact h
  · exact h

theorem doResetPosition (h : m.Becomes s.retained) : m.Becomes (s.doResetPosition p).retained := by
  unfold State.doResetPosition
  split
  · split
    · exact takeReset (s := s.takeFront (.lineUnit (posByte p))) h
    · exact h
  · exact h

theorem doResetPositionAct (h : m.Becomes s.retained) : m.Becomes (s.doResetPositionAct p).retained := by
  unfold State.doResetPositionAct
  split
  · split
    · exact h.resetAct
    · exact h
  · exact h

theorem doTakeRecords (h : m.Becomes s.retained) : m.Becomes s.doTakeRecords.retained := by
  unfold State.doTakeRecords
  split
  · exact h
  · split
    · dsimp only
      split
      · rw [answer_retained, raisePart_retained]; exact h.recordsTaken _
      · exact h.recordsTaken _
    · exact h

theorem doDoubtDiscard (h : m.Becomes s.retained) : m.Becomes s.doDoubtDiscard.retained := by
  unfold State.doDoubtDiscard
  split
  · exact h
  · split
    · dsimp only
      split
      · exact h.discarded _
      · split <;> exact h
    · exact h

theorem doRestart (h : m.Becomes s.retained) : m.Becomes s.doRestart.retained := by
  unfold State.doRestart
  split
  · split
    · exact takeRestart (s := s.takeFront .linkPort) h
    · exact h
  · exact h

theorem doPartRestart {pause : Option Nat} (h : m.Becomes s.retained) : m.Becomes (s.doPartRestart pause).retained := by
  unfold State.doPartRestart
  split
  · exact startUp (s := s.restartSettle.modRetained fun n => { n with restartMarker := true })
      (h.restartSettle.marked true _)
  · exact h

theorem doPowerOn {b : Bool} {pause : Option Nat} (h : m.Becomes s.retained) :
    m.Becomes (s.doPowerOn b pause).retained := by
  unfold State.doPowerOn
  split
  · exact startUp (s := s.modRetained fun n => { n with check := n.check && b }) (h.marked _ _)
  · split
    · exact h.startOn
    · exact h

theorem doRemoval (h : m.Becomes s.retained) : m.Becomes (s.doRemoval p).retained := by
  unfold State.doRemoval
  dsimp only
  split
  · have torn : m.Becomes ((s.dueFirst p).1.removed p).retained := h.dueFirst.removed
    exact restartSettle torn.kept
  · exact h

theorem doAnswerFrame {a : Arrival} (h : m.Becomes s.retained) : m.Becomes (s.doAnswerFrame p a).retained := by
  unfold State.doAnswerFrame
  split
  · exact h
  · next bs t arrived =>
    have here : m.Becomes t.retained := h.kept (arrives_retained arrived)
    have taken : m.Becomes (t.takeAnswer p bs).retained := here.takeAnswer
    exact restartSettle taken.kept

theorem doAnswerTimeout (h : m.Becomes s.retained) : m.Becomes (s.doAnswerTimeout p).retained := by
  unfold State.doAnswerTimeout
  split
  · exact h
  · split
    · exact h
    · next o _ _ =>
      have failed : m.Becomes ((s.modCard p (cardOrderOver o.kind)).attemptFailed p o).retained := attemptFailed h
      exact restartSettle failed.kept

end Retained.Becomes

/-- What each command does to retained memory: nothing, or the changes of its operations. -/
theorem exec_becomes {s t : State} {i : Instr} (ht : exec i s = .next t) : s.retained.Becomes t.retained := by
  have h : s.retained.Becomes s.retained := .unchanged
  cases i with
  | frameReceived bs => cases ht; exact h.kept (linkOnly_retained (linkOnly_doFrameReceived s bs))
  | frameGapTimeout bs => cases ht; exact h.kept (linkOnly_retained (linkOnly_doFrameGapTimeout s bs))
  | lengthByteOutOfRange b => cases ht; exact h.kept (linkOnly_retained (linkOnly_doLengthByteOutOfRange s b))
  | messageTransmitStart => cases ht; exact h.kept (linkOnly_retained (linkOnly_doMessageTransmitStart s))
  | messageSent => cases ht; exact h.kept (linkOnly_retained (linkOnly_doMessageSent s))
  | status => cases ht; exact h.kept (linkOnly_retained (linkOnly_doStatus s))
  | query => cases ht; exact h.kept (linkOnly_retained (linkOnly_doQuery s))
  | seriesRead => cases ht; exact h.kept (linkOnly_retained (linkOnly_doSeriesRead s))
  | blockRead => cases ht; exact h.kept (linkOnly_retained (linkOnly_doBlockRead s))
  | doubtRead => cases ht; exact h.kept (linkOnly_retained (linkOnly_doDoubtRead s))
  | acknowledge => cases ht; exact h.kept (doAcknowledge_retained s)
  | seriesLoad => cases ht; exact h.kept (doSeriesLoad_retained s)
  | blockAdd => cases ht; exact h.kept (doBlockAdd_retained s)
  | blockRemove => cases ht; exact h.kept (doBlockRemove_retained s)
  | blockClear => cases ht; exact h.kept (doBlockClear_retained s)
  | protect => cases ht; exact h.kept (doProtect_retained s)
  | save => cases ht; exact h.kept (doSave_retained s)
  | saveWriteComplete => cases ht; exact h.kept (doSaveWriteComplete_retained s)
  | keyInputChange closed => cases ht; exact h.kept (doKeyInputChange_retained s closed)
  | keyDebounceExpiry => cases ht; exact h.kept (doKeyDebounceExpiry_retained s)
  | mainSupplyLoss points => cases ht; exact h.kept (doMainSupplyLoss_retained s points)
  | selfTest => cases ht; exact h.kept (doSelfTest_retained s)
  | loopCurrentChange p x => cases ht; exact h.kept (doLoopCurrentChange_retained s p x)
  | insertion p => cases ht; exact h.kept (doInsertion_retained s p)
  | restCountExpiry p => cases ht; exact h.kept (doRestCountExpiry_retained s p)
  | orderFrameEnd p x takes => cases ht; exact h.kept (doOrderFrameEnd_retained s p x takes)
  | loopbackReturn p bs => cases ht; exact h.kept (doLoopbackReturn_retained s p bs)
  | loopbackTimeout p => cases ht; exact h.kept (doLoopbackTimeout_retained s p)
  | echoAnswer p bs => cases ht; exact h.kept (doEchoAnswer_retained s p bs)
  | echoTimeout p => cases ht; exact h.kept (doEchoTimeout_retained s p)
  | openCall => cases ht; exact h.doOpen
  | charge => cases ht; exact h.doCharge
  | close => cases ht; exact h.doClose
  | closeCompletion p => cases ht; exact h.completeIfDue
  | configure p => cases ht; exact h.doConfigure
  | configureOutOfServiceAct p => cases ht; exact h.doConfigureAct
  | resetPosition p => cases ht; exact h.doResetPosition
  | resetPositionAct p => cases ht; exact h.doResetPositionAct
  | takeRecords => cases ht; exact h.doTakeRecords
  | doubtDiscard => cases ht; exact h.doDoubtDiscard
  | restart => cases ht; exact h.doRestart
  | partRestart pause => cases ht; exact h.doPartRestart
  | powerOn kept pause => cases ht; exact h.doPowerOn
  | removal p => cases ht; exact h.doRemoval
  | answerFrame p a => cases ht; exact h.doAnswerFrame
  | answerTimeout p => cases ht; exact h.doAnswerTimeout

/-- What a step does to retained memory is one change of `Retained.Becomes` after another. -/
theorem step_becomes {s t : State} (ht : step s = .next t) : s.retained.Becomes t.retained := by
  cases hp : s.pending with
  | nil =>
    cases (step_idle hp).symm.trans ht
    exact Retained.Becomes.unchanged.kept (tick_retained s)
  | cons i rest =>
    rw [step, hp] at ht
    exact exec_becomes (s := { s with pending := rest }) ht

/-- Settles O59: a step comes to changes of retained memory that each keep the three laws. A call's record takes the place
of its reservation, a call is opened only on a position that has none and with room, an entry joins the doubt list only
below 48, and a charge only an open call's queue of fewer than four. -/
theorem retainedLawKept : Obligations.RetainedLawKept := by
  intro s t room counts queues ht
  obtain ⟨room', counts', queues'⟩ := (step_becomes ht).lawful ⟨room, counts, queues⟩
  exact ⟨room', counts', queues'⟩

end Sys2Proof.Machine

namespace Sys2Proof.Machine

/-! ## What the closes of a RESTART and of start-up leave (R76, R160, R162) -/

/-- What no close of a call touches in retained memory: the call counter, the restart marker, and the check word. -/
def Retained.fixed (m : Retained) : Nat × Bool × Bool := (m.callCounter, m.restartMarker, m.check)

/-- The same of the part, with the cards drawn from their readers. -/
def State.beyondCalls (s : State) : List Card × Nat × Bool × Bool := (s.cardsOut, s.retained.fixed)

section
variable (m : Retained) (p : Pos)

@[simp] theorem modCtx_fixed (f : Context → Context) : (m.modCtx p f).fixed = m.fixed := rfl

@[simp] theorem closeTear_fixed : (m.closeTear p).fixed = m.fixed := by
  rw [closeTear_eq]
  rfl

@[simp] theorem storeCall_fixed (e : EndCause) (l : Option Location) : (m.storeCall p e l).fixed = m.fixed := rfl

@[simp] theorem startClose_fixed (e : EndCause) : (m.startClose e p).fixed = m.fixed := by
  unfold Retained.startClose
  split <;> simp

theorem startCloses_fixed (ps : List Pos) : (m.startCloses ps).fixed = m.fixed := by
  have all (e : EndCause) : ∀ m : Retained, (ps.foldl (fun n p => n.startClose e p) m).fixed = m.fixed := by
    induction ps with
    | nil => exact fun m => rfl
    | cons p ps ih => exact fun m => (ih _).trans (startClose_fixed m p e)
  exact all _ m

theorem started_callCounter : m.started.callCounter = m.callCounter := by
  have same := startCloses_fixed m positions
  unfold Retained.started
  generalize m.startCloses positions = n at same ⊢
  exact congrArg Prod.fst same

theorem startSome_restartMarker (n : Nat) : (m.startSome n).restartMarker = m.restartMarker :=
  congrArg (fun x => x.2.1) (startCloses_fixed m _)

end

section
variable (s : State) (p : Pos)

theorem sameApartFrom_beyondCalls {s t : State} {p : Pos} (h : s.sameApartFrom p t) : t.beyondCalls = s.beyondCalls := by
  rw [h.2]
  rfl

@[simp] theorem startRest_beyondCalls : (s.startRest p).beyondCalls = s.beyondCalls := by
  obtain ⟨x, -, apart, -⟩ := startRest_rest s p
  exact sameApartFrom_beyondCalls apart

@[simp] theorem closeCall_beyondCalls (e : EndCause) (l : Option Location) :
    (s.closeCall p e l).beyondCalls = s.beyondCalls := by
  have queue : ((s.modRetained fun m => m.closeTear p).ctx p).queue = (s.ctx p).queue := by
    rw [show (s.modRetained fun m => m.closeTear p).ctx p = _ from closeTear_ctx s.retained p]
    rfl
  obtain ⟨w, cut⟩ := cutAll_settles (s.modRetained fun m => m.closeTear p) p e.outcome l
  rw [queue] at cut
  unfold State.closeCall
  split
  · rfl
  · extract_lets s1 r s2 s3
    have closes : (s3.answerCloses p r).beyondCalls = s3.beyondCalls := by rw [answerCloses_eq]; rfl
    have raised : s3.beyondCalls = s2.beyondCalls := by
      unfold s3
      split
      · exact sameApartFrom_beyondCalls (sameApartFrom_raise s2 p _)
      · rfl
    have stored : s2.beyondCalls = s1.beyondCalls := by
      unfold s2
      rw [raisePart_eq]
      rfl
    have torn : (s.modRetained fun m => m.closeTear p).beyondCalls = s.beyondCalls :=
      congrArg (Prod.mk s.cardsOut) (closeTear_fixed s.retained p)
    exact closes.trans (raised.trans (stored.trans ((sameApartFrom_beyondCalls cut.apart).trans torn)))

@[simp] theorem restartReady_beyondCalls : (s.restartReady p).beyondCalls = s.beyondCalls := by
  unfold State.restartReady
  split
  · dsimp only
    split
    · exact sameApartFrom_beyondCalls (s := s.modLine p LineUnit.restarting) (sameApartFrom_contactOff _ p _)
    · exact startRest_beyondCalls _ p
  · rfl

@[simp] theorem restartCloseAt_beyondCalls : (s.restartCloseAt p).beyondCalls = s.beyondCalls := by
  unfold State.restartCloseAt
  split
  · exact (startRest_beyondCalls _ p).trans (closeCall_beyondCalls s p _ _)
  · rw [restartReady_beyondCalls, closeCall_beyondCalls]

theorem restartSettle_beyondCalls : s.restartSettle.beyondCalls = s.beyondCalls := by
  have all (ps : List Pos) : ∀ u : State, (ps.foldl State.restartCloseAt u).beyondCalls = u.beyondCalls := by
    induction ps with
    | nil => exact fun u => rfl
    | cons p ps ih => exact fun u => (ih _).trans (restartCloseAt_beyondCalls u p)
  unfold State.restartSettle
  split
  · exact all _ _
  · rfl

end

/-! ## PART_RESTART (R95, R161, R162) -/

theorem exec_partRestart (pause : Option Nat) (s : State) : exec (.partRestart pause) s = .next (s.doPartRestart pause) :=
  rfl

/-- The part that starts up: its calls closed and the restart marker set (R95, R162). -/
def State.restartMarked (s : State) : State := s.restartSettle.modRetained fun m => { m with restartMarker := true }

theorem doPartRestart_runs {s : State} (pending : s.restart ≠ .none) (settled : s.writesSettled = true)
    (idle : s.save = none) (pause : Option Nat) : s.doPartRestart pause = s.restartMarked.startBlocks.startOn pause :=
  if_pos ⟨pending, settled, idle⟩

theorem doPartRestart_waits {s : State} (h : s.restart = .none ∨ s.writesSettled = false ∨ s.save.isSome = true)
    (pause : Option Nat) : s.doPartRestart pause = s := by
  refine if_neg fun ⟨pending, settled, idle⟩ => ?_
  obtain h | h | h := h
  · exact pending h
  · rw [settled] at h; cases h
  · rw [idle] at h; cases h

section
variable (s : State)

theorem restartMarked_kept : s.restartMarked.kept = s.kept := kept_restartSettle s

theorem restartMarked_cardsOut : s.restartMarked.cardsOut = s.cardsOut :=
  congrArg Prod.fst (restartSettle_beyondCalls s)

theorem restartMarked_callCounter : s.restartMarked.retained.callCounter = s.retained.callCounter :=
  congrArg (fun x => x.2.1) (restartSettle_beyondCalls s)

theorem restartMarked_check : s.restartMarked.retained.check = s.retained.check :=
  congrArg (fun x => x.2.2.2) (restartSettle_beyondCalls s)

/-- Start-up sets the blocks by the store alone, which the closes of a RESTART leave (R154). -/
theorem restartMarked_blocksStartedFrom {t : State} (h : s.restartMarked.blocksStartedFrom t) : s.blocksStartedFrom t := by
  have stored : s.restartMarked.stored = s.stored := kept_stored (restartMarked_kept s)
  have storeCheck : s.restartMarked.storeCheck = s.storeCheck := kept_storeCheck (restartMarked_kept s)
  unfold State.blocksStartedFrom at h ⊢
  rwa [stored, storeCheck] at h

/-- A supply that was on has kept retained memory. -/
theorem supplied_true : s.supplied true = s := by
  rw [State.supplied, State.modRetained, Bool.and_true]

/-- The call ids go on where start-up finds retained memory good, and begin again where it clears it (R160). -/
theorem startRetained_callCounter :
    s.startRetained.callCounter = if s.retained.check then s.retained.callCounter else 0 := by
  unfold State.startRetained
  split <;> rfl

end

/-- Settles O6: the closes of the RESTART leave what start-up reads, and start-up then runs as at POWER_ON. -/
theorem partRestartStartsUp : Obligations.PartRestartStartsUp := by
  unfold Obligations.PartRestartStartsUp
  refine fun s => ⟨fun pending settled idle => ?_, fun h pause => by rw [exec_partRestart, doPartRestart_waits h]⟩
  have run (pause : Option Nat) := (exec_partRestart pause s).trans (congrArg Host.Outcome.next
    (doPartRestart_runs pending settled idle pause))
  have waiting : s.restartMarked.pending = s.pending := kept_pending (restartMarked_kept s)
  have drawn := restartMarked_cardsOut s
  refine ⟨?_, fun n good => ?_⟩
  · have closed := started_closedDown s.restartMarked.startRetained
    have counter := (started_callCounter _).trans (startRetained_callCounter s.restartMarked)
    rw [restartMarked_check, restartMarked_callCounter] at counter
    have ended := startBlocks_startEnd s.restartMarked
    generalize s.restartMarked.startRetained.started = m at closed counter ended
    obtain ⟨blocks, ready⟩ := startUp_startedFrom s.restartMarked true closed _
    rw [supplied_true] at blocks ready
    exact ⟨_, (run none).trans (congrArg Host.Outcome.next ended), ⟨restartMarked_blocksStartedFrom s blocks, ready⟩,
      waiting, drawn, counter⟩
  · have good' : s.restartMarked.retained.check = true := (restartMarked_check s).trans good
    obtain ⟨blocks, stopped⟩ := startUp_stoppedFrom s.restartMarked true fun m => m.startSome n
    rw [supplied_true] at blocks stopped
    refine ⟨_, run (some n), ⟨restartMarked_blocksStartedFrom s blocks, stopped⟩, ?_, ?_, waiting, drawn⟩
    · change some ({ lost := !s.restartMarked.retained.check, keyChanged := false } : StartUp) = _
      rw [good']
      rfl
    · change (Retained.startSome s.restartMarked.startRetained n).restartMarker = true
      rw [startSome_restartMarker, State.startRetained, if_pos good']
      rfl

end Sys2Proof.Machine

namespace Sys2Proof.Machine

/-! ## A call completed (R87, R88, R127, R132) -/

/-- The record of a call that is completed: nothing is left to cut, and its credit is forfeited (R71, R87, R128). -/
def State.requestedRecord (s : State) (p : Pos) : CallRecord :=
  (s.retained.closeTear p).callRecord p .requested none

/-- The part once a call with no charge left has been closed REQUESTED, its position not yet READY (R88, R136). -/
def State.requestedClose (s : State) (p : Pos) : State :=
  { s.modUnit p (fun u => { u with work := none, closes := [] }) with
    retained := (s.retained.closeTear p).storeCall p .requested none
    link := { s.link with
      flags := s.link.flags ||| PartFlag.recordsWaiting.bit
      outbound := s.link.outbound ++ s.partNoticeOf .recordsWaiting ++ s.closeReplies p (s.requestedRecord p) } }

theorem requestedRecord_eq (s : State) (p : Pos) : s.requestedRecord p =
    { seq := s.retained.seqCounter, position := p, callId := (s.ctx p).callId, id := (s.ctx p).id,
      balanceAtOpen := (s.ctx p).balanceAtOpen, burned := (s.ctx p).burned, covered := (s.ctx p).covered,
      uncovered := (s.ctx p).uncovered, forfeited := (s.ctx p).credit, cause := .requested,
      mark := s.retained.tearMark p, failing := none } := by
  simp only [State.requestedRecord, Retained.callRecord, closeTear_ctx, closeTear_seqCounter]
  rfl

section
variable {s : State} {p : Pos}

theorem closeCall_requested (calling : (s.ctx p).state ≠ .noCall) (empty : (s.ctx p).queue = []) :
    s.closeCall p .requested none = s.requestedClose p := by
  unfold State.closeCall
  rw [if_neg calling, empty]
  extract_lets s1 r s2 s3
  have raised : s3 = s2 := rfl
  have replies : s2.closeReplies p r = s.closeReplies p r := by
    unfold s2 State.closeReplies
    rw [raisePart_unit, unit_clearWork]
    rfl
  rw [raised, answerCloses_eq, replies]
  unfold s2
  rw [raisePart_eq]
  have units := congrArg State.units
    (modUnit_modUnit s p (fun u => { u with work := none }) fun u => { u with closes := [] })
  exact congrArg (fun v => ({ s.requestedClose p with units := v } : State)) units

/-- A CLOSE from `s` has come to completing the call in `u`: the context may have gone to CLOSING, the CLOSEs that wait are
`closes`, and nothing else that a completion reads or changes has changed (R85, R87). -/
structure Completing (p : Pos) (closes : List Byte) (s u : State) : Prop where
  others : ∀ q, q ≠ p → u.unit q = s.unit q ∧ u.ctx q = s.ctx q
  unit : u.unit p = { s.unit p with closes := closes }
  ctx : ∃ x, u.ctx p = { s.ctx p with state := x }
  doubts : u.retained.doubts = s.retained.doubts
  records : u.retained.records = s.retained.records
  reservations : u.retained.reservations = s.retained.reservations
  seqCounter : u.retained.seqCounter = s.retained.seqCounter
  arbiter : u.arbiter = s.arbiter
  flags : u.link.flags = s.link.flags
  outbound : u.link.outbound = s.link.outbound

theorem completing_refl (s : State) (p : Pos) : Completing p (s.unit p).closes s s :=
  ⟨fun _ _ => ⟨rfl, rfl⟩, rfl, ⟨_, rfl⟩, rfl, rfl, rfl, rfl, rfl, rfl, rfl⟩

theorem closingFor_completing (s : State) (p : Pos) (o : Owner) (tag : Byte) :
    Completing p ((s.unit p).closes ++ [tag]) s ((s.takeFront o).closingFor p tag) :=
  ⟨(sameApartFrom_closingFor (s.takeFront o) p tag).1, closingFor_unit _ p tag, ⟨_, closingFor_ctx _ p tag⟩, rfl,
    rfl, rfl, rfl, rfl, rfl, rfl⟩

/-- What the completion of a call comes to, from `s` to `t` (R87, R88, R127, R132, R136). -/
structure CallCompleted (p : Pos) (s t : State) : Prop where
  others : ∀ q, q ≠ p → t.unit q = s.unit q
  unit : ∃ x, t.unit p =
    { s.unit p with line := { s.line p with state := .ready, rest := x }, work := none, closes := [] }
  retained : t.retained = (s.retained.closeTear p).storeCall p .requested none
  arbiter : t.arbiter = s.arbiter
  flags : t.link.flags = s.link.flags ||| PartFlag.recordsWaiting.bit
  outbound : t.link.outbound =
    s.link.outbound ++ s.partNoticeOf .recordsWaiting ++ s.closeReplies p (s.requestedRecord p)

theorem completeRequested_completed (calling : (s.ctx p).state ≠ .noCall) (empty : (s.ctx p).queue = []) :
    CallCompleted p s (s.completeRequested p) := by
  rw [State.completeRequested, closeCall_requested calling empty]
  have unit : (s.requestedClose p).unit p = { s.unit p with work := none, closes := [] } :=
    unit_modUnit s p fun u => { u with work := none, closes := [] }
  obtain ⟨x, rest, ⟨others, apart⟩, -, link⟩ :=
    startRest_rest ((s.requestedClose p).modLine p fun l => { l with state := .ready }) p
  refine ⟨fun q hq => ?_, ⟨x, ?_⟩, startRest_retained _ p, ?_, ?_, ?_⟩
  · rw [(others q hq).1, unit_modLine_ne _ hq]
    exact unit_modUnit_ne s hq fun u => { u with work := none, closes := [] }
  · rw [rest, unit_modLine, line_modLine, State.line, unit]
    rfl
  · rw [apart]; rfl
  · rw [link]; rfl
  · rw [link]; rfl

end

theorem partNoticeOf_congr {s u : State} (flags : u.link.flags = s.link.flags)
    (outbound : u.link.outbound = s.link.outbound) (f : PartFlag) : u.partNoticeOf f = s.partNoticeOf f := by
  simp only [State.partNoticeOf, flags, outbound]

/-- A CLOSE taken on a call with no charge completes it at once (R85, R87). -/
theorem takeClose_completes {s : State} {p : Pos} {r : Request} (openCall : (s.ctx p).state = .openCall)
    (noReset : (s.unit p).resetWaits = false) (empty : (s.ctx p).queue = []) :
    s.takeClose p r = (s.closingFor p r.tag).completeRequested p := by
  have closing : ((s.closingFor p r.tag).ctx p).queue = [] := by rw [closingFor_ctx]; exact empty
  rw [takeClose_closing openCall noReset, empty]
  exact if_pos closing

/-- A completion that is due is made (R87). -/
theorem completeIfDue_due {s : State} {p : Pos} (running : s.running = true) (closing : (s.ctx p).state = .closing)
    (empty : (s.ctx p).queue = []) : s.completeIfDue p = s.completeRequested p :=
  if_pos ⟨running, by simp [Context.completionDue, closing, empty]⟩

/-- Settles O29: CLOSE, once it is taken, and CLOSE_COMPLETION come to the one completion, of the call as it stood. -/
theorem callCompletedRequested : Obligations.CallCompletedRequested := by
  unfold Obligations.CallCompletedRequested
  intro s p empty c completes
  have completed {i : Instr} {closes : List Byte} {u : State} (same : Completing p closes s u)
      (calling : (u.ctx p).state ≠ .noCall) (run : exec i s = .next (u.completeRequested p)) : completes i closes := by
    obtain ⟨y, ctx⟩ := same.ctx
    obtain ⟨others, ⟨x, unit⟩, retained, arbiter, flags, outbound⟩ :=
      completeRequested_completed calling (by rw [ctx]; exact empty)
    have torn : (u.retained.closeTear p).ctx p = { c with state := y, field := none, mark := u.retained.tearMark p } := by
      rw [closeTear_ctx, show u.retained.ctx p = _ from ctx]
    have ended : (u.completeRequested p).ctx p =
        { c with state := .noCall, field := none, mark := u.retained.tearMark p, queue := [] } := by
      rw [State.ctx, retained, storeCall_ctx, torn]
    have replies : u.closeReplies p (u.requestedRecord p) =
        closes.map fun tag => .reply 0x32#8 tag (posByte p) (.record (u.requestedRecord p)) := by
      rw [State.closeReplies, same.unit]
    refine ⟨_, u.requestedRecord p, run, ?record, fun noField => ?tear, ?records, ?reservations, ?seq, by rw [ended],
      by rw [ended], by rw [ended], by rw [State.line, unit], by rw [unit, same.unit], by rw [unit, same.unit],
      by rw [unit, same.unit], by rw [unit], by rw [flags, same.flags]; rfl, ?outbound, arbiter.trans same.arbiter,
      fun q hq => ⟨(others q hq).trans (same.others q hq).1, ?other⟩⟩
    case record => rw [requestedRecord_eq, ctx, same.seqCounter]
    case tear =>
      obtain ⟨mark, doubts, -⟩ := tear_of_no_burn (s := u) (p := p) fun f h => by
        rw [ctx] at h
        cases noField.symm.trans h
      rw [requestedRecord_eq, retained, storeCall_doubts, closeTear_doubts, mark, doubts, ctx]
      exact ⟨rfl, same.doubts⟩
    case records =>
      rw [retained, storeCall_records, closeTear_records, same.records]
      rfl
    case reservations =>
      rw [retained, storeCall_reservations, torn, closeTear_reservations, same.reservations]
    case seq =>
      rw [retained, storeCall_seqCounter, closeTear_seqCounter, same.seqCounter]
      rfl
    case outbound => rw [outbound, replies, same.outbound, partNoticeOf_congr same.flags same.outbound]
    case other =>
      rw [State.ctx, retained, storeCall_ctx_ne _ _ _ hq, closeTear_ctx_ne _ hq]
      exact (same.others q hq).2
  refine ⟨fun r hf hb hp openCall noReset => ?_, fun closing on done => ?_⟩
  · have run := (exec_close s).trans (congrArg Host.Outcome.next (doClose_eq hf hb hp))
    rw [takeClose_completes (s := s.takeFront .callTable) openCall noReset empty] at run
    exact completed (closingFor_completing s p .callTable r.tag) (by rw [closingFor_ctx]; exact nofun) run
  · have run : exec (.closeCompletion p) s = .next (s.completeIfDue p) := rfl
    rw [completeIfDue_due ((running_iff s).2 ⟨on, done⟩) closing empty] at run
    exact completed (completing_refl s p) (by rw [closing]; decide) run

end Sys2Proof.Machine

namespace Sys2Proof.Machine

/-! ## What the laws of the write channels speak of (R98, R101) -/

/-- The arbiter, and which positions' lines carry a write order. -/
structure Channels where
  arbiter : Arbiter
  writing : Pos → Bool

def State.channels (s : State) : Channels := { arbiter := s.arbiter, writing := fun p => (s.line p).writing }

/-- The law of the write orders, on the channels. -/
def Channels.writersHold (c : Channels) : Prop := ∀ p, c.writing p = true → ∃ h ∈ c.arbiter.held, h.position = p

theorem channels_writersHold (s : State) : s.channels.writersHold ↔ s.writersHold := Iff.rfl

/-- The channels come from `c` to be others by changes that the part makes: each constructor is one, with what holds
where the part makes it. A grant takes the oldest request and may begin a write order on its line; a channel is given
back by a position whose line carries no write order (R99 to R102, R110). -/
inductive Channels.Becomes (c : Channels) : Channels → Prop
  | unchanged : c.Becomes c
  | ended {d : Channels} {w : Pos → Bool} (h : c.Becomes d) (less : ∀ p, w p = true → d.writing p = true) :
      c.Becomes { d with writing := w }
  | withdrawn {d : Channels} {l : List WriteRequest} (h : c.Becomes d) (fewer : l.Sublist d.arbiter.waiting) :
      c.Becomes { d with arbiter := { d.arbiter with waiting := l } }
  | joined {d : Channels} {r : WriteRequest} (h : c.Becomes d) (new : r.position ∉ d.arbiter.users) :
      c.Becomes { d with arbiter := { d.arbiter with waiting := d.arbiter.waiting ++ [r] } }
  | granted {d : Channels} {r : WriteRequest} {rest : List WriteRequest} {w : Pos → Bool} (h : c.Becomes d)
      (oldest : d.arbiter.waiting = r :: rest) (free : d.arbiter.held.length < 4)
      (begun : ∀ p, w p = true → p = r.position ∨ d.writing p = true) :
      c.Becomes { arbiter := { d.arbiter with held := d.arbiter.held ++ [r.holder], waiting := rest }, writing := w }
  | released {d : Channels} {p : Pos} (h : c.Becomes d) (silent : d.writing p = false) :
      c.Becomes { d with arbiter := { d.arbiter with held := d.arbiter.held.filter fun x => x.position ≠ p } }
  | stopped {d : Channels} (h : c.Becomes d) : c.Becomes { d with arbiter := { d.arbiter with granting := false } }
  | started : c.Becomes { arbiter := Arbiter.start, writing := fun _ => false }

/-! ### Each change keeps the law of the arbiter (R98) -/

namespace Arbiter
variable {a : Arbiter}

theorem lawful_withdrawn {l : List WriteRequest} (h : a.lawful) (fewer : l.Sublist a.waiting) :
    lawful { a with waiting := l } :=
  ⟨h.1, h.2.sublist ((fewer.map _).append_left _)⟩

theorem lawful_joined {r : WriteRequest} (h : a.lawful) (new : r.position ∉ a.users) :
    lawful { a with waiting := a.waiting ++ [r] } := by
  have users : users { a with waiting := a.waiting ++ [r] } = a.users ++ [r.position] := by simp [Arbiter.users]
  refine ⟨h.1, ?_⟩
  rw [users]
  exact h.2.append (List.nodup_singleton _) (by simpa using new)

/-- The users stay: the oldest that waited is the last that holds. -/
theorem lawful_granted {r : WriteRequest} {rest : List WriteRequest} (h : a.lawful) (oldest : a.waiting = r :: rest)
    (free : a.held.length < 4) : lawful { a with held := a.held ++ [r.holder], waiting := rest } := by
  have users : users { a with held := a.held ++ [r.holder], waiting := rest } = a.users := by
    simp [Arbiter.users, oldest, WriteRequest.holder]
  refine ⟨?_, users ▸ h.2⟩
  rw [List.length_append]
  exact free

theorem lawful_released (p : Pos) (h : a.lawful) :
    lawful { a with held := a.held.filter fun x => x.position ≠ p } :=
  ⟨(List.length_filter_le _ _).trans h.1, h.2.sublist ((List.filter_sublist.map _).append_right _)⟩

end Arbiter

theorem Channels.Becomes.lawful {c d : Channels} (h : c.Becomes d) (hc : c.arbiter.lawful) : d.arbiter.lawful := by
  induction h with
  | unchanged => exact hc
  | ended _ _ ih => exact ih
  | withdrawn _ fewer ih => exact Arbiter.lawful_withdrawn ih fewer
  | joined _ new ih => exact Arbiter.lawful_joined ih new
  | granted _ oldest free _ ih => exact Arbiter.lawful_granted ih oldest free
  | released _ _ ih => exact Arbiter.lawful_released _ ih
  | stopped _ ih => exact ih
  | started => exact ⟨Nat.zero_le 4, List.nodup_nil⟩

/-! ### Each change keeps a channel under every write order (R98, R101) -/

namespace Channels
variable {c : Channels}

theorem writersHold_granted {r : WriteRequest} {l : List WriteRequest} {w : Pos → Bool} (h : c.writersHold)
    (begun : ∀ p, w p = true → p = r.position ∨ c.writing p = true) :
    writersHold { arbiter := { c.arbiter with held := c.arbiter.held ++ [r.holder], waiting := l }, writing := w } := by
  intro p hp
  obtain rfl | writing := begun p hp
  · exact ⟨r.holder, List.mem_append_right _ (List.mem_singleton_self _), rfl⟩
  · obtain ⟨x, hx, at_p⟩ := h p writing
    exact ⟨x, List.mem_append_left _ hx, at_p⟩

theorem writersHold_released {p : Pos} (h : c.writersHold) (silent : c.writing p = false) :
    writersHold { c with arbiter := { c.arbiter with held := c.arbiter.held.filter fun x => x.position ≠ p } } := by
  intro q hq
  have other : q ≠ p := by
    rintro rfl
    exact Bool.false_ne_true (silent.symm.trans hq)
  obtain ⟨x, hx, rfl⟩ := h q hq
  exact ⟨x, List.mem_filter.2 ⟨hx, by simpa using other⟩, rfl⟩

end Channels

theorem Channels.Becomes.writersHold {c d : Channels} (h : c.Becomes d) (hc : c.writersHold) : d.writersHold := by
  induction h with
  | unchanged => exact hc
  | ended _ less ih => exact fun p hp => ih p (less p hp)
  | withdrawn _ _ ih => exact ih
  | joined _ _ ih => exact ih
  | granted _ _ _ begun ih => exact Channels.writersHold_granted ih begun
  | released _ silent ih => exact Channels.writersHold_released ih silent
  | stopped _ ih => exact ih
  | started => exact nofun

/-- Lines that carry a write order hold different channels, and no more than four are held. -/
theorem writing_length_le {s : State} (ha : s.arbiter.lawful) (hw : s.writersHold) :
    (positions.filter fun p => (s.line p).writing).length ≤ 4 := by
  have distinct : (positions.filter fun p => (s.line p).writing).Nodup := (List.nodup_finRange 32).filter _
  have hold : positions.filter (fun p => (s.line p).writing) ⊆ s.arbiter.held.map (·.position) := by
    intro p hp
    exact List.mem_map.2 (hw p (List.mem_filter.1 hp).2)
  calc (positions.filter fun p => (s.line p).writing).length
      ≤ (s.arbiter.held.map (·.position)).length := (distinct.subperm hold).length_le
    _ = s.arbiter.held.length := List.length_map ..
    _ ≤ 4 := ha.1

end Sys2Proof.Machine

namespace Sys2Proof.Machine

/-! ## What leaves the channels and every write order as they were -/

theorem writing_congr {l k : LineUnit} (h : k.order = l.order) : k.writing = l.writing := by
  unfold LineUnit.writing
  rw [h]

/-- A change of the order on a line that leaves what the order is for. -/
theorem writing_mapped {l k : LineUnit} {f : Order → Order} (hf : ∀ o, (f o).purpose = o.purpose)
    (h : k.order = l.order.map f) : k.writing = l.writing := by
  unfold LineUnit.writing
  rw [h]
  cases l.order with
  | none => rfl
  | some o => exact congrArg (fun x => decide (x = Purpose.write)) (hf o)

/-- A line that carries no order carries no write order. -/
theorem writing_of_none {l : LineUnit} (h : l.order = none) : l.writing = false := by
  unfold LineUnit.writing
  rw [h]

section
variable (s : State) (p : Pos)

theorem channels_congr {s t : State} (hu : t.units = s.units) (ha : t.arbiter = s.arbiter) :
    t.channels = s.channels := by
  simp only [State.channels, State.line, State.unit, hu, ha]

/-- One position changes, and begins or ends no write order. -/
theorem channels_of_apart {s t : State} {p : Pos} (h : s.sameApartFrom p t)
    (hw : (t.unit p).line.writing = (s.unit p).line.writing) : t.channels = s.channels := by
  obtain ⟨others, rest⟩ := h
  have arbiter : t.arbiter = s.arbiter := by rw [rest]
  have writing : (fun q => (t.line q).writing) = fun q => (s.line q).writing := by
    funext q
    by_cases hq : q = p
    · subst hq; exact hw
    · exact congrArg (fun u => u.line.writing) (others q hq).1
  simp only [State.channels, arbiter, writing]

@[simp] theorem channels_modUnit {f : Position → Position} (h : (f (s.unit p)).line.order = (s.unit p).line.order) :
    (s.modUnit p f).channels = s.channels :=
  channels_of_apart (sameApartFrom_modUnit s p f) (by rw [unit_modUnit]; exact writing_congr h)

@[simp] theorem channels_modLine {f : LineUnit → LineUnit} (h : (f (s.line p)).order = (s.line p).order) :
    (s.modLine p f).channels = s.channels := channels_modUnit s p h

@[simp] theorem channels_modCard (f : Card → Card) : (s.modCard p f).channels = s.channels := channels_modUnit s p rfl
@[simp] theorem channels_modRetained (f : Retained → Retained) : (s.modRetained f).channels = s.channels := rfl
@[simp] theorem channels_modCtx (f : Context → Context) : (s.modCtx p f).channels = s.channels := rfl
@[simp] theorem channels_modLink (f : Link → Link) : (s.modLink f).channels = s.channels := rfl
@[simp] theorem channels_send (m : Message) : (s.send m).channels = s.channels := rfl
@[simp] theorem channels_answer (r : Request) (b : ReplyBody) : (s.answer r b).channels = s.channels := rfl
@[simp] theorem channels_answerAt (x y : Byte) (b : ReplyBody) : (s.answerAt p x y b).channels = s.channels := rfl
@[simp] theorem channels_takeFront (o : Owner) : (s.takeFront o).channels = s.channels := rfl
@[simp] theorem channels_clearField : (s.clearField p).channels = s.channels := rfl
@[simp] theorem channels_clearWork : (s.clearWork p).channels = s.channels := channels_modUnit s p rfl
@[simp] theorem channels_clearWait : (s.clearWait p).channels = s.channels := channels_modUnit s p rfl
@[simp] theorem channels_contactOn : (s.contactOn p).channels = s.channels := channels_modUnit s p rfl

@[simp] theorem channels_contactOff (c : Contact) : (s.contactOff p c).channels = s.channels :=
  channels_of_apart (sameApartFrom_contactOff s p c) (by rw [unit_contactOff]; rfl)

@[simp] theorem channels_contactAwake : (s.contactAwake p).channels = s.channels :=
  channels_modLine s p (by split <;> rfl)

@[simp] theorem channels_raise (f : PosFlag) : (s.raise p f).channels = s.channels :=
  channels_of_apart (sameApartFrom_raise s p f) (by rw [unit_raise])

@[simp] theorem channels_raisePart (f : PartFlag) : (s.raisePart f).channels = s.channels := by
  rw [raisePart_eq]
  rfl

@[simp] theorem channels_startRest : (s.startRest p).channels = s.channels := by
  unfold State.startRest
  split
  · exact channels_modLine s p rfl
  · rfl

/-! ### Charges and calls (R63, R66, R69, R88) -/

@[simp] theorem channels_lowCompare : (s.lowCompare p).channels = s.channels := by
  unfold State.lowCompare
  dsimp only
  split <;> simp

@[simp] theorem channels_replyCharge (h : Charge) (o : ChargeOutcome) (n : Nat) (l : Option Location) :
    (s.replyCharge p h o n l).channels = s.channels := rfl

@[simp] theorem channels_settleOwn : (s.settleOwn p).channels = s.channels := by
  unfold State.settleOwn
  split
  · dsimp only
    split <;> simp
  · rfl

@[simp] theorem channels_cutHead (o : ChargeOutcome) (l : Option Location) :
    (s.cutHead p o l).channels = s.channels := by
  unfold State.cutHead
  split
  · rfl
  · split <;> simp

@[simp] theorem channels_cutBehind (n : Nat) : ∀ s : State, (State.cutBehind n s p).channels = s.channels := by
  induction n with
  | zero => exact fun s => rfl
  | succ n ih =>
    intro s
    unfold State.cutBehind
    split
    · rw [ih]; simp
    · rfl

/-- The close of a call leaves the line and the channels to those who close it. -/
@[simp] theorem channels_closeCall (e : EndCause) (l : Option Location) :
    (s.closeCall p e l).channels = s.channels := by
  by_cases none : (s.ctx p).state = .noCall
  · rw [closeCall_of_noCall none]
  · have closed := closeCall_closed none e l
    obtain ⟨f, unit, -⟩ := closed.unit
    have writing : (fun q => ((s.closeCall p e l).line q).writing) = fun q => (s.line q).writing := by
      funext q
      by_cases hq : q = p
      · subst hq; simp only [State.line, unit]
      · simp only [State.line, (closed.others q hq).1]
    simp only [State.channels, closed.arbiter, writing]

@[simp] theorem channels_completeRequested : (s.completeRequested p).channels = s.channels := by
  rw [State.completeRequested, channels_startRest, channels_modLine _ p rfl, channels_closeCall]

@[simp] theorem channels_completeIfDue : (s.completeIfDue p).channels = s.channels := by
  unfold State.completeIfDue
  split <;> simp

@[simp] theorem channels_dropSequence : (s.dropSequence p).channels = s.channels := by
  rw [State.dropSequence, channels_clearField, channels_modUnit s p rfl]

@[simp] theorem channels_storeImage (h : Header) (t : Tally) : (s.storeImage p h t).channels = s.channels := by
  rw [State.storeImage, channels_startRest, channels_raise, channels_modUnit _ p rfl, channels_modCtx]

@[simp] theorem channels_resolveDoubt (i : Identity) (t : Tally) : (s.resolveDoubt p i t).channels = s.channels := by
  unfold State.resolveDoubt
  dsimp only
  split
  · exact channels_raisePart _ _
  · rfl

/-! ### The reader, the settings and the lists -/

@[simp] theorem channels_blinkEnd : (s.blinkEnd p).channels = s.channels := by
  unfold State.blinkEnd
  dsimp only
  split <;> simp

@[simp] theorem channels_finishTest : s.finishTest.channels = s.channels := by
  unfold State.finishTest
  split
  · rfl
  · split <;> rfl

@[simp] theorem channels_replyIf (r : Option (Byte × Byte)) : (s.replyIf p r).channels = s.channels := by
  unfold State.replyIf
  split <;> rfl

@[simp] theorem channels_raisePartIf (b : Bool) (f : PartFlag) : (s.raisePartIf b f).channels = s.channels := by
  unfold State.raisePartIf
  split <;> simp

@[simp] theorem channels_doLoopCurrentChange (x : LoopChange) : (s.doLoopCurrentChange p x).channels = s.channels := by
  have seated (y : Option Seated) (cs : List Card) :
      ({ s.modUnit p (fun u => { u with reader := y }) with cardsOut := cs } : State).channels = s.channels :=
    channels_modUnit s p (f := fun u => { u with reader := y }) rfl
  unfold State.doLoopCurrentChange
  split
  · dsimp only
    split
    · rw [channels_modLine _ p rfl, seated]
    · exact seated _ _
  · split
    · rfl
    · dsimp only
      split
      · rw [channels_modLine _ p rfl, channels_blinkEnd, seated]
      · exact seated _ _
  · rfl

@[simp] theorem channels_doRestCountExpiry : (s.doRestCountExpiry p).channels = s.channels := by
  unfold State.doRestCountExpiry
  split
  · split <;> simp
  · rfl

@[simp] theorem channels_acknowledge (m v : BitVec 9) : (s.acknowledge p m v).channels = s.channels := by
  unfold State.acknowledge State.queueNotice
  dsimp only
  split
  · split <;> simp
  · simp

@[simp] theorem channels_acknowledgePart (m v : BitVec 5) : (s.acknowledgePart m v).channels = s.channels := by
  unfold State.acknowledgePart State.queuePartNotice
  dsimp only
  split
  · split <;> rfl
  · rfl

@[simp] theorem channels_doAcknowledge : s.doAcknowledge.channels = s.channels := by
  unfold State.doAcknowledge
  split
  · rfl
  · split
    · unfold State.takeAcknowledge
      split <;> simp
    · rfl

theorem channels_linkOnly {s t : State} (h : s.linkOnly t) : t.channels = s.channels := by
  obtain ⟨l, rfl⟩ := h
  rfl

theorem channels_guarded (r : Request) {f : State → State} (hf : (f s).channels = s.channels) :
    (s.guarded r f).channels = s.channels := by
  unfold State.guarded
  split
  · rfl
  · exact hf

@[simp] theorem channels_blocksChanged (r : Request) (bs : Option (List Range)) :
    (s.blocksChanged r bs).channels = s.channels := by
  unfold State.blocksChanged
  split <;> rfl

@[simp] theorem channels_doSeriesLoad : s.doSeriesLoad.channels = s.channels := by
  unfold State.doSeriesLoad
  split
  · rfl
  · split
    · refine channels_guarded _ _ ?_
      split
      · rfl
      · split <;> rfl
    · rfl

@[simp] theorem channels_doBlockAdd : s.doBlockAdd.channels = s.channels := by
  unfold State.doBlockAdd
  split
  · rfl
  · split
    · refine channels_guarded _ _ ?_
      split <;> simp
    · rfl

@[simp] theorem channels_doBlockRemove : s.doBlockRemove.channels = s.channels := by
  unfold State.doBlockRemove
  split
  · rfl
  · split
    · refine channels_guarded _ _ ?_
      split <;> simp
    · rfl

@[simp] theorem channels_doBlockClear : s.doBlockClear.channels = s.channels := by
  unfold State.doBlockClear
  split
  · rfl
  · split
    · exact channels_guarded _ _ (by simp)
    · rfl

@[simp] theorem channels_doTakeRecords : s.doTakeRecords.channels = s.channels := by
  unfold State.doTakeRecords
  split
  · rfl
  · split
    · dsimp only
      split
      · exact channels_raisePart _ _
      · rfl
    · rfl

@[simp] theorem channels_doDoubtDiscard : s.doDoubtDiscard.channels = s.channels := by
  unfold State.doDoubtDiscard
  split
  · rfl
  · split
    · dsimp only
      split
      · rfl
      · split <;> rfl
    · rfl

@[simp] theorem channels_doProtect : s.doProtect.channels = s.channels := by
  unfold State.doProtect State.takeProtect State.setMode
  split
  · rfl
  · split
    · split
      · rfl
      · split
        · rfl
        · split <;> rfl
    · rfl

@[simp] theorem channels_doSave : s.doSave.channels = s.channels := by
  unfold State.doSave
  split
  · rfl
  · split
    · refine channels_guarded _ _ ?_
      split
      · rfl
      · split <;> rfl
    · rfl

@[simp] theorem channels_doSaveWriteComplete : s.doSaveWriteComplete.channels = s.channels := by
  unfold State.doSaveWriteComplete
  split <;> rfl

@[simp] theorem channels_doKeyInputChange (b : Bool) : (s.doKeyInputChange b).channels = s.channels := by
  unfold State.doKeyInputChange
  split <;> rfl

@[simp] theorem channels_doKeyDebounceExpiry : s.doKeyDebounceExpiry.channels = s.channels := by
  unfold State.doKeyDebounceExpiry State.keyChanged
  dsimp only
  split
  · split
    · split
      · rfl
      · exact channels_raisePart _ _
    · rfl
  · rfl

/-! ### Time -/

theorem tick_purpose (o : Order) : o.tick.purpose = o.purpose := by
  unfold Order.tick
  split <;> rfl

theorem tick_writing (l : LineUnit) : l.tick.writing = l.writing := writing_mapped tick_purpose rfl

@[simp] theorem channels_tick : s.tick.channels = s.channels := by
  cases on : s.powered with
  | false => rw [tick_off on]
  | true =>
    have writing : (fun q => (s.tick.line q).writing) = fun q => (s.line q).writing := by
      funext q
      rw [State.line, tick_unit on]
      exact tick_writing _
    simp only [State.channels, writing]
    rw [tick_on on]

end

end Sys2Proof.Machine

namespace Sys2Proof.Machine

/-- The part with these requests in its waiting list. -/
def State.stillWaiting (s : State) (rest : List WriteRequest) : State :=
  { s with arbiter := { s.arbiter with waiting := rest } }

theorem grantSent_unit_ne (s : State) (r : WriteRequest) (t : Tally) {q : Pos} (h : q ≠ r.position) :
    (s.grantSent r t).unit q = s.unit q :=
  (unit_beginOrder_ne _ h _ _ _ _).trans (unit_modUnit_ne _ h _)

/-- A position that neither holds nor waits is no user of the arbiter. -/
theorem not_mem_users {s : State} {p : Pos} (hold : s.holds p = false) (wait : s.waits p = false) :
    p ∉ s.arbiter.users := by
  simp only [State.holds, State.waits, List.any_eq_false, decide_eq_true_eq] at hold wait
  simp only [Arbiter.users, List.mem_append, List.mem_map, not_or]
  exact ⟨fun ⟨x, hx, e⟩ => hold x hx e, fun ⟨x, hx, e⟩ => wait x hx e⟩

theorem endOrder_silent (s : State) (p : Pos) : ((s.endOrder p).line p).writing = false :=
  writing_of_none (by rw [State.line, unit_endOrder])

namespace Channels.Becomes
variable {c : Channels} {s : State} {p : Pos}

theorem same {t : State} (h : c.Becomes s.channels) (e : t.channels = s.channels := by simp) : c.Becomes t.channels :=
  e ▸ h

theorem foldl {α : Type} {f : State → α → State} (hf : ∀ {s a}, c.Becomes s.channels → c.Becomes (f s a).channels)
    (l : List α) : ∀ {s : State}, c.Becomes s.channels → c.Becomes (l.foldl f s).channels := by
  induction l with
  | nil => exact fun h => h
  | cons a l ih => exact fun h => ih (hf h)

theorem answer {r : Request} {b : ReplyBody} (h : c.Becomes s.channels) : c.Becomes (s.answer r b).channels := h

theorem answerAt {x y : Byte} {b : ReplyBody} (h : c.Becomes s.channels) : c.Becomes (s.answerAt p x y b).channels := h

/-! ### Orders on the lines (R26) -/

/-- One position changes, and begins no write order. -/
theorem modUnit {f : Position → Position} (h : c.Becomes s.channels)
    (hf : (f (s.unit p)).line.writing = true → (s.unit p).line.writing = true) :
    c.Becomes (s.modUnit p f).channels := by
  refine h.ended (w := fun q => ((s.modUnit p f).line q).writing) fun q hq => ?_
  by_cases hqp : q = p
  · subst hqp
    exact hf (by simpa using hq)
  · rwa [State.line, unit_modUnit_ne s hqp] at hq

/-- The position gives up the order on its line. -/
theorem dropOrder {f : Position → Position} (h : c.Becomes s.channels)
    (hf : ∀ u, (f u).line.order = none := by exact fun _ => rfl) : c.Becomes (s.modUnit p f).channels :=
  h.modUnit fun hw => nomatch (writing_of_none (hf (s.unit p))).symm.trans hw

theorem endOrder (h : c.Becomes s.channels) : c.Becomes (s.endOrder p).channels := h.dropOrder

theorem beginOrder {k : OrderKind} {g : Stage} {a : Attempt} {x : Purpose} (h : c.Becomes s.channels)
    (hx : x ≠ .write) : c.Becomes (s.beginOrder p k g a x).channels :=
  h.modUnit fun hw => absurd (of_decide_eq_true hw) hx

theorem beginWake {a : Attempt} {x : Purpose} (h : c.Becomes s.channels) (hx : x ≠ .write) :
    c.Becomes (s.beginWake p a x).channels :=
  beginOrder (s := s.contactOn p) h.same hx

theorem sendRead {r : ReadFor} {a : Attempt} (h : c.Becomes s.channels) : c.Becomes (s.sendRead p r a).channels := by
  unfold State.sendRead
  split
  · exact h.beginOrder nofun
  · exact h.beginWake nofun

theorem nextRead (h : c.Becomes s.channels) : c.Becomes (s.nextRead p).channels := by
  unfold State.nextRead
  split
  · exact h.sendRead
  · exact h

theorem beginTestFrame {k : OrderKind} {a : Attempt} {x : Option Quad} (h : c.Becomes s.channels) :
    c.Becomes (s.beginTestFrame p k a x).channels := by
  have sent (f : Option PosTest → Option PosTest) :
      c.Becomes ((s.modUnit p fun u => { u with test := f u.test }).beginOrder p k 0 a .test).channels :=
    beginOrder (h.same (channels_modUnit s p rfl)) nofun
  unfold State.beginTestFrame
  dsimp only
  split
  · exact (sent _).same (channels_of_apart (sameApartFrom_modLine _ p _)
      (writing_mapped (f := fun o => { o with ended := true }) (fun _ => rfl) (by rw [unit_modLine]; rfl)))
  · exact sent _

/-! ### Grants, releases and withdrawals (R99 to R102) -/

/-- The oldest request is granted, given up with a WAKE, or left aside. -/
theorem grantTo {r : WriteRequest} {rest : List WriteRequest} (h : c.Becomes s.channels)
    (oldest : s.arbiter.waiting = r :: rest) (free : s.arbiter.held.length < 4) :
    c.Becomes ((s.stillWaiting rest).grantTo r).channels := by
  have taken : c.Becomes (s.stillWaiting rest).channels := h.withdrawn (oldest ▸ List.sublist_cons_self r rest)
  by_cases hc : ((s.stillWaiting rest).line r.position).contact = .powered
  · cases ht : (s.stillWaiting rest).tallyBefore r with
    | none =>
      simp only [State.grantTo, hc, ht]
      exact taken
    | some t =>
      rw [grantTo_sent hc ht]
      refine h.granted (w := ((s.stillWaiting rest).grantSent r t).channels.writing) oldest free fun q hq => ?_
      refine or_iff_not_imp_left.2 fun other => ?_
      exact (congrArg (fun u => u.line.writing) (grantSent_unit_ne _ r t other)).symm.trans hq
  · rw [grantTo_given_up hc]
    exact taken.beginWake nofun

theorem grantLoop (n : Nat) : ∀ {s : State}, c.Becomes s.channels → c.Becomes (s.grantLoop n).channels := by
  induction n with
  | zero => exact fun h => h
  | succ n ih =>
    intro s h
    unfold State.grantLoop
    split
    · exact h
    · next r rest oldest =>
      split
      · next grants =>
        have free : s.arbiter.held.length < 4 := by
          simp only [Arbiter.canGrant, Bool.and_eq_true, decide_eq_true_eq] at grants
          exact grants.2
        exact ih (h.grantTo oldest free)
      · exact h

theorem grantAll (h : c.Becomes s.channels) : c.Becomes s.grantAll.channels := h.grantLoop _

theorem requestWrite (h : c.Becomes s.channels) : c.Becomes (s.requestWrite p).channels := by
  unfold State.requestWrite
  split
  · exact h
  · next r hr =>
    split
    · exact h
    · next asks =>
      simp only [Bool.or_eq_true, not_or, Bool.not_eq_true] at asks
      obtain ⟨⟨-, wait⟩, hold⟩ := asks
      split
      · exact h.beginWake nofun
      · have new : r.position ∉ s.arbiter.users := wanted_position hr ▸ not_mem_users hold wait
        have joined : c.Becomes (s.joinWaiting r).channels := (h.joined new).same (channels_modLine _ r.position rfl)
        exact joined.grantAll

/-- A channel is given back by a position whose line carries no write order. -/
theorem release (h : c.Becomes s.channels) (silent : (s.line p).writing = false) :
    c.Becomes (s.release p).channels := by
  unfold State.release
  split
  · have given : c.Becomes ({ s with arbiter := { s.arbiter with
        held := s.arbiter.held.filter fun x => x.position ≠ p } } : State).channels := h.released silent
    exact given.grantAll
  · exact h

theorem withdraw (h : c.Becomes s.channels) : c.Becomes (s.withdraw p).channels := h.withdrawn List.filter_sublist

theorem dropUnsent (h : c.Becomes s.channels) : c.Becomes (s.dropUnsent p).channels := by
  unfold State.dropUnsent
  split
  · exact release (s := (s.endOrder p).clearField p) h.endOrder (endOrder_silent s p)
  · exact h

theorem abandonOrder (h : c.Becomes s.channels) : c.Becomes (s.abandonOrder p).channels := by
  unfold State.abandonOrder
  split
  · exact h
  · exact h.endOrder

theorem stopWork (h : c.Becomes s.channels) : c.Becomes (s.stopWork p).channels := h.withdraw.dropUnsent.abandonOrder

/-! ### The head charge (R58, R62, R79, R80) -/

theorem beginStep (h : c.Becomes s.channels) : c.Becomes (s.beginStep p).channels := by
  unfold State.beginStep
  split
  · exact h
  · exact requestWrite h.same

theorem workQueue (n : Nat) : ∀ {s : State}, c.Becomes s.channels → c.Becomes (State.workQueue n s p).channels := by
  induction n with
  | zero => exact fun h => h
  | succ n ih =>
    intro s h
    unfold State.workQueue
    split
    · exact h
    · split
      · dsimp only
        split
        · exact beginStep h.same
        · split
          · exact ih h.same
          · exact h.same
      · exact h

theorem continueHead (h : c.Becomes s.channels) : c.Becomes (s.continueHead p).channels := by
  unfold State.continueHead
  split
  · exact h
  · split
    · split
      · exact h.requestWrite
      · split
        · exact h.beginStep
        · exact workQueue _ h.same
      · split
        · exact h.requestWrite
        · exact h.same
      · exact h.same
      · exact h
    · exact h

/-! ### A line or a card given up (R31, R36) -/

theorem enterFaulted {e : FaultCause} {l : Option Location} (h : c.Becomes s.channels) :
    c.Becomes (s.enterFaulted p e l).channels := by
  have off : c.Becomes (s.contactOff p .unpowered).channels := h.same
  have entered : c.Becomes (s.faultEntry p e l).channels := (off.dropOrder (p := p)).same (channels_raise _ p _)
  unfold State.enterFaulted
  dsimp only
  split
  · exact h
  · split
    · exact entered.same (channels_dropSequence _ p)
    · exact entered.same (channels_closeCall _ p _ _)
    · exact entered

theorem lineFailure (h : c.Becomes s.channels) : c.Becomes (s.lineFailure p).channels := h.enterFaulted

theorem reject {x : Cause} (h : c.Becomes s.channels) : c.Becomes (s.reject p x).channels := by
  have off : c.Becomes (s.contactOff p .unpowered).channels := h.same
  exact (off.dropOrder (p := p) (f := Position.rejected x)).same (channels_raise _ p _)

theorem beginIdentification (h : c.Becomes s.channels) : c.Becomes (s.beginIdentification p).channels := by
  have off : c.Becomes (s.contactOff p .unpowered).channels := h.same
  have begun : c.Becomes ((s.contactOff p .unpowered).modUnit p Position.identifying).channels := off.dropOrder
  unfold State.beginIdentification
  dsimp only
  split
  · exact begun.beginWake nofun
  · exact begun

theorem insert (h : c.Becomes s.channels) : c.Becomes (s.insert p).channels :=
  h.beginIdentification.same (channels_raise _ p _)

/-- A write that failed is over on the line before its channel is given back (R29). -/
theorem attemptFailed {o : Order} (h : c.Becomes s.channels) : c.Becomes (s.attemptFailed p o).channels := by
  unfold State.attemptFailed
  split
  · exact (h.endOrder.release (endOrder_silent s p)).sendRead
  · split
    · exact h.lineFailure
    · exact h.beginWake nofun
  · split
    · exact h.lineFailure
    · exact h.sendRead
  · split
    · exact h.lineFailure
    · exact h.beginWake nofun
  · split
    · exact h.lineFailure
    · exact h.beginWake nofun
  · exact h

/-! ### Answers (R26, R29, R30, R37 to R48, R103 to R108) -/

theorem checkCard {x : Header} (h : c.Becomes s.channels) : c.Becomes (s.checkCard p x).channels := by
  unfold State.checkCard
  split
  · exact h.reject
  · split
    · exact h.reject
    · exact nextRead (h.same (channels_modUnit s p rfl))

theorem headerAnswered {x : Header} (h : c.Becomes s.channels) : c.Becomes (s.headerAnswered p x).channels := by
  unfold State.headerAnswered
  split
  · exact checkCard (h.same (channels_modUnit s p rfl))
  · split
    · exact h.reject
    · exact nextRead (h.same (channels_modUnit s p rfl))

theorem finishSequence (h : c.Becomes s.channels) : c.Becomes (s.finishSequence p).channels := by
  unfold State.finishSequence State.checkConsumption
  split
  · split
    · exact h.reject
    · split
      · exact h.reject
      · exact h.same
  · exact h

theorem tallyAnswered {t : Tally} (h : c.Becomes s.channels) : c.Becomes (s.tallyAnswered p t).channels := by
  have read : c.Becomes (s.modUnit p (Position.tallyRead t)).channels := h.same (channels_modUnit s p rfl)
  unfold State.tallyAnswered
  dsimp only
  split
  · split
    · exact finishSequence (read.same (channels_resolveDoubt _ p _ t))
    · exact read.finishSequence
  · split
    · exact requestWrite (read.same (by simp))
    · exact requestWrite (read.same (by simp))

theorem callJudged {f : InFlight} {t : Tally} (h : c.Becomes s.channels) :
    c.Becomes (s.callJudged p f t).channels := by
  unfold State.callJudged
  split
  · exact continueHead (h.same (channels_modUnit (s.modCtx p _) p rfl))
  · split
    · exact continueHead h.same
    · exact enterFaulted h.same
  · exact enterFaulted h.same

theorem latchJudged {f : InFlight} {t : Tally} (h : c.Becomes s.channels) :
    c.Becomes (s.latchJudged p f t).channels := by
  have cleared : c.Becomes ((s.clearField p).modLine p fun l => { l with shownTally := some t }).channels :=
    h.same (channels_modLine (s.clearField p) p rfl)
  have read := cleared.same (channels_modUnit _ p (f := Position.tallyRead t) rfl)
  unfold State.latchJudged
  dsimp only
  split
  · split
    · exact read.finishSequence
    · exact read
  · split
    · exact cleared.requestWrite
    · exact cleared.enterFaulted
  · exact cleared.enterFaulted

theorem verified {t : Tally} (h : c.Becomes s.channels) : c.Becomes (s.verified p t).channels := by
  unfold State.verified
  split
  · exact h
  · split
    · exact h.callJudged
    · exact h.latchJudged

/-- A refused write is over on the line before its channel is given back (R30). -/
theorem writeRefused (h : c.Becomes s.channels) : c.Becomes (s.writeRefused p).channels :=
  (release (s := (s.endOrder p).clearField p) h.endOrder (endOrder_silent s p)).sendRead

theorem refusalRead {t : Tally} (h : c.Becomes s.channels) : c.Becomes (s.refusalRead p t).channels := by
  unfold State.refusalRead
  dsimp only
  split
  · exact enterFaulted h.same
  · exact enterFaulted h.same

theorem wokenForRead {r : ReadFor} {a : Attempt} (h : c.Becomes s.channels) :
    c.Becomes (s.wokenForRead p r a).channels := by
  unfold State.wokenForRead
  split
  · exact h
  · exact h.sendRead

theorem wokenForRequest (h : c.Becomes s.channels) : c.Becomes (s.wokenForRequest p).channels := by
  unfold State.wokenForRequest
  split
  · exact h.continueHead
  · exact h.requestWrite

theorem firstWoken (h : c.Becomes s.channels) : c.Becomes (s.firstWoken p).channels :=
  nextRead (h.same (channels_modUnit s p rfl))

theorem answered {o : Order} {a : Answer} (h : c.Becomes s.channels) : c.Becomes (s.answered p o a).channels := by
  have ended : c.Becomes (s.endOrder p).channels := h.endOrder
  have awake : c.Becomes ((s.endOrder p).contactAwake p).channels := ended.same
  unfold State.answered
  dsimp only
  split
  · split
    · exact awake.firstWoken
    · exact ended.reject
  · split
    · exact awake.wokenForRead
    · exact ended.lineFailure
  · split
    · exact awake.wokenForRequest
    · exact ended.lineFailure
  · exact (ended.release (endOrder_silent s p)).sendRead
  · exact h.writeRefused
  · exact ended.headerAnswered
  · exact ended.tallyAnswered
  · exact ended.verified
  · exact ended.refusalRead
  · exact h

theorem takeAnswer {bs : List Byte} (h : c.Becomes s.channels) : c.Becomes (s.takeAnswer p bs).channels := by
  unfold State.takeAnswer
  split
  · exact h
  · split
    · exact h
    · split
      · exact h
      · exact h.attemptFailed
      · split
        · exact h
        · split
          · exact h.answered
          · exact h.attemptFailed

end Channels.Becomes

end Sys2Proof.Machine

namespace Sys2Proof.Machine

namespace Channels.Becomes
variable {c : Channels} {s : State} {p : Pos}

/-! ### The self-test (R21, R163 to R167) -/

theorem leaveTest (h : c.Becomes s.channels) : c.Becomes (s.leaveTest p).channels := by
  have left : c.Becomes (s.modUnit p Position.leaveTest).channels := h.dropOrder
  unfold State.leaveTest
  dsimp only
  split
  · exact left.insert
  · exact left

theorem fixCode {b : Byte} (h : c.Becomes s.channels) : c.Becomes (s.fixCode p b).channels := by
  unfold State.fixCode
  have coded (x : Option TestRun) : c.Becomes ({ s with test := x } : State).channels := h
  exact (coded _).leaveTest.same (channels_finishTest _)

theorem echoFailed {o : Order} {b : Byte} (h : c.Becomes s.channels) : c.Becomes (s.echoFailed p o b).channels := by
  unfold State.echoFailed
  split
  · exact h.fixCode
  · exact h.endOrder.beginTestFrame

theorem enterTest (h : c.Becomes s.channels) : c.Becomes (s.enterTest p).channels :=
  beginTestFrame (h.same (channels_modUnit s p rfl))

theorem startTest {r : Request} {m : Quad} (h : c.Becomes s.channels) : c.Becomes (s.startTest r m).channels :=
  same (foldl enterTest _ (s := { s with test := some _ }) h) (channels_finishTest _)

theorem abortTest (h : c.Becomes s.channels) : c.Becomes s.abortTest.channels := foldl leaveTest _ h

theorem doSelfTest (h : c.Becomes s.channels) : c.Becomes s.doSelfTest.channels := by
  unfold State.doSelfTest
  split
  · exact h
  · dsimp only
    split
    · split
      · exact h
      · split
        · exact h
        · exact startTest (s := s.takeFront .selfTest) h
    · exact h

theorem doLoopbackReturn {bs : List Byte} (h : c.Becomes s.channels) :
    c.Becomes (s.doLoopbackReturn p bs).channels := by
  unfold State.doLoopbackReturn
  split
  · split
    · exact h.endOrder.beginTestFrame
    · exact h.fixCode
  · exact h

theorem doLoopbackTimeout (h : c.Becomes s.channels) : c.Becomes (s.doLoopbackTimeout p).channels := by
  unfold State.doLoopbackTimeout
  split
  · exact h.fixCode
  · exact h

theorem doEchoAnswer {bs : List Byte} (h : c.Becomes s.channels) : c.Becomes (s.doEchoAnswer p bs).channels := by
  unfold State.doEchoAnswer
  split
  · split
    · exact h
    · exact h.fixCode
    · exact h.echoFailed
  · exact h

theorem doEchoTimeout (h : c.Becomes s.channels) : c.Becomes (s.doEchoTimeout p).channels := by
  unfold State.doEchoTimeout
  split
  · split
    · exact h.echoFailed
    · exact h
  · exact h

/-! ### The requests of a position (R22, R33, R34) -/

theorem takeReset {r : Request} (h : c.Becomes s.channels) : c.Becomes (s.takeReset p r).channels := by
  unfold State.takeReset
  split
  · exact h.answer
  · have due : c.Becomes (s.completeIfDue p).channels := h.same
    exact (due.stopWork (p := p)).same (channels_modUnit _ p rfl)

theorem doResetPosition (h : c.Becomes s.channels) : c.Becomes (s.doResetPosition p).channels := by
  unfold State.doResetPosition
  split
  · split
    · exact takeReset (s := s.takeFront (.lineUnit (posByte p))) h
    · exact h
  · exact h

theorem resetEffect (h : c.Becomes s.channels) : c.Becomes (s.resetEffect p).channels := by
  unfold State.resetEffect
  split
  · exact h
  · exact h
  · exact h.same
  · exact h.beginIdentification
  · exact h.beginIdentification
  · exact h.beginIdentification
  · exact h.beginIdentification
  · exact beginIdentification h.same

theorem resetAct (h : c.Becomes s.channels) : c.Becomes (s.resetAct p).channels :=
  resetEffect (s := s.clearWait p) h.same

theorem doResetPositionAct (h : c.Becomes s.channels) : c.Becomes (s.doResetPositionAct p).channels := by
  unfold State.doResetPositionAct
  split
  · split
    · exact h.resetAct.answerAt
    · exact h
  · exact h

theorem goOff (h : c.Becomes s.channels) : c.Becomes (s.goOff p).channels := by
  have off : c.Becomes ((s.stopWork p).contactOff p .unpowered).channels := (h.stopWork (p := p)).same
  exact (off.dropOrder (p := p) (f := Position.goOff)).same (channels_clearField _ p)

theorem comeIntoService (h : c.Becomes s.channels) : c.Becomes (s.comeIntoService p).channels := by
  unfold State.comeIntoService
  split
  · exact h.insert
  · exact h.same

theorem configured {r : Request} {x : PosSettings} (h : c.Becomes s.channels) :
    c.Becomes (s.configured p r x).channels := by
  have written : c.Becomes (s.writeSettings p x).channels := h
  unfold State.configured
  dsimp only
  split
  · exact written.comeIntoService.answer
  · exact written.answer
  · exact written.answer
  · split
    · exact (written.stopWork (p := p)).same (channels_modUnit _ p rfl)
    · exact written.goOff.answer

theorem takeConfigure {r : Request} {i n b : Byte} (h : c.Becomes s.channels) :
    c.Becomes (s.takeConfigure p r i n b).channels := by
  have due : c.Becomes (s.completeIfDue p).channels := h.same
  unfold State.takeConfigure
  split
  · exact h.answer
  · dsimp only
    split
    · exact due.answer
    · exact due.configured

theorem doConfigure (h : c.Becomes s.channels) : c.Becomes (s.doConfigure p).channels := by
  unfold State.doConfigure
  split
  · split
    · exact takeConfigure (s := s.takeFront (.lineUnit (posByte p))) h
    · exact h
  · exact h

theorem configureAct (h : c.Becomes s.channels) : c.Becomes (s.configureAct p).channels := by
  have cleared : c.Becomes (s.clearWait p).channels := h.same
  unfold State.configureAct
  split
  · exact cleared
  · exact cleared.goOff

theorem doConfigureAct (h : c.Becomes s.channels) : c.Becomes (s.doConfigureAct p).channels := by
  unfold State.doConfigureAct
  split
  · split
    · exact h.configureAct.answerAt
    · exact h
  · exact h

/-! ### RESTART (R95, R110, R153) -/

theorem restartReady (h : c.Becomes s.channels) : c.Becomes (s.restartReady p).channels := by
  have ready : c.Becomes (s.modLine p LineUnit.restarting).channels := h.dropOrder
  unfold State.restartReady
  split
  · dsimp only
    split
    · exact ready.same (channels_contactOff _ p _)
    · exact ready.same (channels_startRest _ p)
  · exact h

theorem restartCloseAt (h : c.Becomes s.channels) : c.Becomes (s.restartCloseAt p).channels := by
  unfold State.restartCloseAt
  split
  · exact h.same
  · exact restartReady h.same

theorem restartSettle (h : c.Becomes s.channels) : c.Becomes s.restartSettle.channels := by
  unfold State.restartSettle
  split
  · exact foldl restartCloseAt _ (s := { s with restart := .closed, freeCount := s.freeCount + 1 }) h
  · exact h

theorem stopArbiter (h : c.Becomes s.channels) : c.Becomes s.stopArbiter.channels :=
  foldl dropUnsent _ (s := { s with arbiter := { s.arbiter with waiting := [], granting := false } })
    (h.withdrawn (List.nil_sublist _)).stopped

theorem takeRestart {r : Request} (h : c.Becomes s.channels) : c.Becomes (s.takeRestart r).channels := by
  have settling : c.Becomes
      ({ (s.answer r .ok).modLink (fun l => { l with hold := true }) with restart := .settling } : State).channels := h
  exact settling.stopArbiter.abortTest.restartSettle

theorem doRestart (h : c.Becomes s.channels) : c.Becomes s.doRestart.channels := by
  unfold State.doRestart
  split
  · split
    · exact takeRestart (s := s.takeFront .linkPort) h
    · exact h
  · exact h

/-! ### Presence and the frames on the lines (R18 to R21, R26, R27, R101, R102) -/

theorem doInsertion (h : c.Becomes s.channels) : c.Becomes (s.doInsertion p).channels := by
  have present : c.Becomes (s.modLine p fun l => { l with present := true, debounce := none }).channels := h.same
  unfold State.doInsertion
  dsimp only
  split
  · split
    · exact present.insert
    · exact present
  · exact h

/-- The line is empty before the arbiter takes the position's channel back (R19, R101, R102). -/
theorem teardown (h : c.Becomes s.channels) : c.Becomes (s.teardown p).channels := by
  have off : c.Becomes ((s.dropUnsent p).contactOff p .unpowered).channels := (h.dropUnsent (p := p)).same
  have emptied : c.Becomes ((((s.dropUnsent p).contactOff p .unpowered).modUnit p Position.emptied).raise p
      .removed).channels := (off.dropOrder (p := p)).same (channels_raise _ p _)
  have silent (t : State) : ((((t.modUnit p Position.emptied).raise p .removed).withdraw p).line p).writing = false :=
    writing_of_none (by rw [withdraw_line, State.line, unit_raise, unit_modUnit]; rfl)
  have released := (emptied.withdraw (p := p)).release (silent _)
  unfold State.teardown
  dsimp only
  split
  · exact released.same (channels_closeCall _ p _ _)
  · exact released.same (channels_clearField _ p)

theorem dueFirst (h : c.Becomes s.channels) : c.Becomes (s.dueFirst p).1.channels := by
  have due : c.Becomes (s.completeIfDue p).channels := h.same
  unfold State.dueFirst
  dsimp only
  split
  · split
    · exact due.resetAct
    · exact due
  · split
    · exact due.configureAct
    · exact due
  · exact due

theorem removed (h : c.Becomes s.channels) : c.Becomes (s.removed p).channels := by
  have absent : c.Becomes (s.modLine p fun l => { l with present := false, debounce := none }).channels := h.same
  unfold State.removed
  dsimp only
  split
  · exact absent.teardown
  · exact absent

theorem doRemoval (h : c.Becomes s.channels) : c.Becomes (s.doRemoval p).channels := by
  unfold State.doRemoval
  dsimp only
  split
  · have torn : c.Becomes ((s.dueFirst p).1.removed p).channels := h.dueFirst.removed
    exact restartSettle (torn.same (channels_replyIf _ p _))
  · exact h

theorem doOrderFrameEnd {x : Passage} {b : Bool} (h : c.Becomes s.channels) :
    c.Becomes (s.doOrderFrameEnd p x b).channels := by
  unfold State.doOrderFrameEnd
  split
  · exact h
  · next o ho =>
    split
    · exact h
    · have sent : (s.modLine p fun l => { l with order := some { o with ended := true, elapsed := 0 } }).channels =
          s.channels :=
        channels_of_apart (sameApartFrom_modLine s p _)
          (writing_mapped (f := fun o => { o with ended := true, elapsed := 0 }) (fun _ => rfl)
            (by rw [unit_modLine, ← State.line, ho]; rfl))
      dsimp only
      split
      · exact h.same sent
      · exact h.same ((channels_modCard _ p _).trans sent)

theorem arrives {a : Arrival} {x : List Byte × State} (h : c.Becomes s.channels) (ha : s.arrives p a = some x) :
    c.Becomes x.2.channels := by
  unfold State.arrives at ha
  split at ha
  · obtain ⟨bs, -, rfl⟩ := Option.map_eq_some_iff.1 ha
    exact h.same (channels_modCard s p _)
  · cases ha
    exact h.same (channels_modCard s p _)
  · cases ha
    exact h

theorem doAnswerFrame {a : Arrival} (h : c.Becomes s.channels) : c.Becomes (s.doAnswerFrame p a).channels := by
  unfold State.doAnswerFrame
  split
  · exact h
  · next arrived => exact restartSettle ((h.arrives arrived).takeAnswer.same (channels_startRest _ p))

theorem doAnswerTimeout (h : c.Becomes s.channels) : c.Becomes (s.doAnswerTimeout p).channels := by
  unfold State.doAnswerTimeout
  split
  · exact h
  · next o _ =>
    split
    · exact h
    · have through : c.Becomes (s.modCard p (cardOrderOver o.kind)).channels := h.same
      exact restartSettle ((through.attemptFailed (p := p) (o := o)).same (channels_startRest _ p))

/-! ### The requests of the call table (R75 to R79, R85 to R87) -/

theorem takeOpen {r : Request} {k : Nat} (h : c.Becomes s.channels) : c.Becomes (s.takeOpen p r k).channels := by
  unfold State.takeOpen
  split
  · exact h.answer
  · next i x _ =>
    split
    · exact h.reject.answer
    · split
      · exact h.answer
      · have opened := channels_modLine (s.modRetained fun m => m.openCall p i x k) p
          (f := fun l => { l with state := .inCall }) rfl
        exact answer (h.same ((channels_lowCompare _ p).trans opened))

theorem doOpen (h : c.Becomes s.channels) : c.Becomes s.doOpen.channels := by
  unfold State.doOpen
  split
  · exact h
  · split
    · next p _ _ => exact takeOpen (h.same (channels_completeIfDue (s.takeFront .callTable) p))
    · exact h

theorem takeCharge {r : Request} {k : Nat} (h : c.Becomes s.channels) : c.Becomes (s.takeCharge p r k).channels := by
  have joined (x : Charge) : c.Becomes (s.joinQueue p x).channels := h.same (channels_modLine _ p rfl)
  unfold State.takeCharge
  split
  · exact h.answer
  · split
    · exact h.answer
    · exact (workQueue _ (joined _)).same (channels_startRest _ p)

theorem doCharge (h : c.Becomes s.channels) : c.Becomes s.doCharge.channels := by
  unfold State.doCharge
  split
  · exact h
  · split
    · exact takeCharge (s := s.takeFront .callTable) h
    · exact h

theorem closeHead (h : c.Becomes s.channels) : c.Becomes (s.closeHead p).channels := by
  unfold State.closeHead
  split
  · exact h.same
  · split
    · exact h
    · have dropped : c.Becomes ((s.withdraw p).dropUnsent p).channels := h.withdraw.dropUnsent
      exact dropped.same (by rw [channels_startRest, channels_cutHead])

theorem takeClose {r : Request} (h : c.Becomes s.channels) : c.Becomes (s.takeClose p r).channels := by
  have held : c.Becomes (s.modUnit p fun u => { u with closes := u.closes ++ [r.tag] }).channels := h.same
  unfold State.takeClose
  split
  · exact h.answer
  · dsimp only
    split
    · exact held
    · exact closeHead (held.same (channels_cutBehind p _ (State.modCtx _ p _)))

theorem doClose (h : c.Becomes s.channels) : c.Becomes s.doClose.channels := by
  unfold State.doClose
  split
  · exact h
  · split
    · exact takeClose (s := s.takeFront .callTable) h
    · exact h

/-! ### Start-up and the loss of main supply (R16, R97, R160, R161) -/

theorem startBlocks : c.Becomes s.startBlocks.channels := by
  have silent : (fun q => (s.startBlocks.line q).writing) = fun _ => false := by
    funext q
    rw [State.line, startBlocks_unit]
    rfl
  have fresh : s.startBlocks.channels = { arbiter := Arbiter.start, writing := fun _ => false } :=
    congrArg (Channels.mk Arbiter.start) silent
  exact fresh ▸ .started

theorem startEnd (h : c.Becomes s.channels) : c.Becomes s.startEnd.channels := by
  cases hs : s.starting with
  | none => simpa only [State.startEnd, hs] using h
  | some x =>
    rw [startEnd_eq hs]
    have begun (m : Retained) : (s.startedWith m).channels = s.channels := rfl
    exact foldl insert _ (h.same (by simp only [State.startRaisings, channels_raisePartIf, begun]))

theorem startOn {pause : Option Nat} (h : c.Becomes s.channels) : c.Becomes (s.startOn pause).channels := by
  cases pause with
  | none => exact h.startEnd
  | some n => exact h

theorem startUp {pause : Option Nat} : c.Becomes (s.startUp pause).channels := startOn startBlocks

theorem doPartRestart {pause : Option Nat} (h : c.Becomes s.channels) : c.Becomes (s.doPartRestart pause).channels := by
  unfold State.doPartRestart
  split
  · exact startUp
  · exact h

theorem doPowerOn {b : Bool} {pause : Option Nat} (h : c.Becomes s.channels) :
    c.Becomes (s.doPowerOn b pause).channels := by
  unfold State.doPowerOn
  split
  · exact startUp
  · split
    · exact h.startOn
    · exact h

theorem doMainSupplyLoss {points : List Nat} (h : c.Becomes s.channels) :
    c.Becomes (s.doMainSupplyLoss points).channels := by
  cases on : s.powered with
  | false => simpa [State.doMainSupplyLoss, on] using h
  | true =>
    have arbiter : (s.doMainSupplyLoss points).arbiter = Arbiter.start := by simp [State.doMainSupplyLoss, on]
    have silent : (fun q => ((s.doMainSupplyLoss points).line q).writing) = fun _ => false := by
      funext q
      rw [State.line, doMainSupplyLoss_unit on]
      rfl
    have off : (s.doMainSupplyLoss points).channels = { arbiter := Arbiter.start, writing := fun _ => false } := by
      rw [State.channels, arbiter, silent]
    exact off ▸ .started

end Channels.Becomes

/-! ### Every step -/

/-- What each command does to the channels: nothing, or the changes of its operations. -/
theorem exec_channels {s t : State} {i : Instr} (ht : exec i s = .next t) : s.channels.Becomes t.channels := by
  have h : s.channels.Becomes s.channels := .unchanged
  cases i with
  | frameReceived bs => cases ht; exact h.same (channels_linkOnly (linkOnly_doFrameReceived s bs))
  | frameGapTimeout bs => cases ht; exact h.same (channels_linkOnly (linkOnly_doFrameGapTimeout s bs))
  | lengthByteOutOfRange b => cases ht; exact h.same (channels_linkOnly (linkOnly_doLengthByteOutOfRange s b))
  | messageTransmitStart => cases ht; exact h.same (channels_linkOnly (linkOnly_doMessageTransmitStart s))
  | messageSent => cases ht; exact h.same (channels_linkOnly (linkOnly_doMessageSent s))
  | status => cases ht; exact h.same (channels_linkOnly (linkOnly_doStatus s))
  | query => cases ht; exact h.same (channels_linkOnly (linkOnly_doQuery s))
  | seriesRead => cases ht; exact h.same (channels_linkOnly (linkOnly_doSeriesRead s))
  | blockRead => cases ht; exact h.same (channels_linkOnly (linkOnly_doBlockRead s))
  | doubtRead => cases ht; exact h.same (channels_linkOnly (linkOnly_doDoubtRead s))
  | acknowledge => cases ht; exact h.same (channels_doAcknowledge s)
  | seriesLoad => cases ht; exact h.same (channels_doSeriesLoad s)
  | blockAdd => cases ht; exact h.same (channels_doBlockAdd s)
  | blockRemove => cases ht; exact h.same (channels_doBlockRemove s)
  | blockClear => cases ht; exact h.same (channels_doBlockClear s)
  | takeRecords => cases ht; exact h.same (channels_doTakeRecords s)
  | doubtDiscard => cases ht; exact h.same (channels_doDoubtDiscard s)
  | protect => cases ht; exact h.same (channels_doProtect s)
  | save => cases ht; exact h.same (channels_doSave s)
  | saveWriteComplete => cases ht; exact h.same (channels_doSaveWriteComplete s)
  | keyInputChange closed => cases ht; exact h.same (channels_doKeyInputChange s closed)
  | keyDebounceExpiry => cases ht; exact h.same (channels_doKeyDebounceExpiry s)
  | loopCurrentChange p x => cases ht; exact h.same (channels_doLoopCurrentChange s p x)
  | restCountExpiry p => cases ht; exact h.same (channels_doRestCountExpiry s p)
  | closeCompletion p => cases ht; exact h.same (channels_completeIfDue s p)
  | openCall => cases ht; exact h.doOpen
  | charge => cases ht; exact h.doCharge
  | close => cases ht; exact h.doClose
  | configure p => cases ht; exact h.doConfigure
  | configureOutOfServiceAct p => cases ht; exact h.doConfigureAct
  | resetPosition p => cases ht; exact h.doResetPosition
  | resetPositionAct p => cases ht; exact h.doResetPositionAct
  | selfTest => cases ht; exact h.doSelfTest
  | loopbackReturn p bs => cases ht; exact h.doLoopbackReturn
  | loopbackTimeout p => cases ht; exact h.doLoopbackTimeout
  | echoAnswer p bs => cases ht; exact h.doEchoAnswer
  | echoTimeout p => cases ht; exact h.doEchoTimeout
  | restart => cases ht; exact h.doRestart
  | partRestart pause => cases ht; exact h.doPartRestart
  | powerOn kept pause => cases ht; exact h.doPowerOn
  | mainSupplyLoss points => cases ht; exact h.doMainSupplyLoss
  | insertion p => cases ht; exact h.doInsertion
  | removal p => cases ht; exact h.doRemoval
  | orderFrameEnd p x takes => cases ht; exact h.doOrderFrameEnd
  | answerFrame p a => cases ht; exact h.doAnswerFrame
  | answerTimeout p => cases ht; exact h.doAnswerTimeout

/-- What a step does to the channels is one change of `Channels.Becomes` after another. -/
theorem step_channels {s t : State} (ht : step s = .next t) : s.channels.Becomes t.channels := by
  cases hp : s.pending with
  | nil =>
    cases (step_idle hp).symm.trans ht
    exact Channels.Becomes.unchanged.same (channels_tick s)
  | cons i rest =>
    rw [step, hp] at ht
    exact exec_channels (s := { s with pending := rest }) ht

/-- Settles O58: a step comes to changes of the channels that each keep the two laws. A request joins where its position
neither holds nor waits, a grant moves the oldest request to the holders where fewer than four are, and only a grant
begins a write order; a channel is given back once its position's line carries no write order. -/
theorem channelLawKept : Obligations.ChannelLawKept := by
  refine ⟨fun s t lawful ht => (step_channels ht).lawful lawful, fun s t hold ht => ?_, fun s lawful hold => ?_⟩
  · exact (channels_writersHold t).1 ((step_channels ht).writersHold ((channels_writersHold s).2 hold))
  · exact writing_length_le lawful hold

end Sys2Proof.Machine

namespace Sys2Proof.Machine

/-! ## The verify comparison (R59, R103) -/

theorem mem_stagesAbove {j k : Stage} : j ∈ stagesAbove k ↔ k < j := by
  revert j k; decide

theorem mem_stagesFrom {j k : Stage} : j ∈ k :: stagesAbove k ↔ k ≤ j := by
  rw [List.mem_cons, mem_stagesAbove, le_iff_eq_or_lt, eq_comm]

theorem sameDigits_iff {js : List Stage} {a b : Digits} : sameDigits js a b = true ↔ ∀ j ∈ js, a.get j = b.get j := by
  simp [sameDigits]

section
variable (k : Stage) (before read : Tally)

theorem burnExpected_iff : burnExpected k before read = true ↔
    (read.digits.get k).val = (before.digits.get k).val + 1 ∧ (∀ j, j < k → (read.digits.get j).val = 7) ∧
      (∀ j, j > k → read.digits.get j = before.digits.get j) ∧ read.latch = k := by
  simp only [burnExpected, Bool.and_eq_true, decide_eq_true_eq, List.all_eq_true, mem_stagesBelow, sameDigits_iff,
    mem_stagesAbove, and_assoc]

theorem restageExpected_iff : restageExpected k before read = true ↔
    (∀ j, j < k → (read.digits.get j).val = 0) ∧ (∀ j, j ≥ k → read.digits.get j = before.digits.get j) ∧
      read.latch = 0 := by
  simp only [restageExpected, Bool.and_eq_true, decide_eq_true_eq, List.all_eq_true, mem_stagesBelow, sameDigits_iff,
    mem_stagesFrom, and_assoc]

theorem restageUnchanged_iff : restageUnchanged k before read = true ↔
    read.latch = k ∧ (∀ j, j ≥ k → read.digits.get j = before.digits.get j) ∧
      ∀ j, j < k → (read.digits.get j).val ≤ (before.digits.get j).val := by
  simp only [restageUnchanged, Bool.and_eq_true, decide_eq_true_eq, List.all_eq_true, mem_stagesBelow, sameDigits_iff,
    mem_stagesFrom, and_assoc]

/-- A BURN that shows the tally before does not show the burned cell. -/
theorem burnExpected_changes (h : burnExpected k before read = true) : read ≠ before := by
  rintro rfl
  have burned := ((burnExpected_iff k read read).1 h).1
  omega

end

/-- A RESTAGE that is done shows no latch, and one that is not shows its own. -/
theorem restageExpected_changes {k : Stage} {before read : Tally} (hk : k ≠ 0)
    (h : restageExpected k before read = true) : ¬ restageUnchanged k before read = true := by
  intro unchanged
  obtain ⟨-, -, done⟩ := (restageExpected_iff k before read).1 h
  obtain ⟨left, -, -⟩ := (restageUnchanged_iff k before read).1 unchanged
  exact hk (left.symm.trans done)

/-- Of two comparisons that no read meets both, the judgement says which is met, or that neither is. -/
theorem judgement_iff {A B : Prop} [Decidable A] [Decidable B] (apart : A → ¬ B) {j : Judgement}
    (hj : j = if A then .confirmed else if B then .unchanged else .mismatched) :
    (j = .confirmed ↔ A) ∧ (j = .unchanged ↔ B) ∧ (j = .mismatched ↔ ¬ A ∧ ¬ B) := by
  subst hj
  by_cases a : A
  · simp [a, apart a]
  · by_cases b : B <;> simp [a, b]

/-- Settles O54: the comparisons say what R59 and R103 give, and no read meets both of one order. -/
theorem verifyReadJudged : Obligations.VerifyReadJudged := by
  intro k before read same burned restaged left burn restage
  have burnJudged := judgement_iff (burnExpected_changes k before read) (j := burn) rfl
  rw [burnExpected_iff] at burnJudged
  obtain ⟨confirmed, unchanged, mismatched⟩ := burnJudged
  refine ⟨confirmed, unchanged, mismatched, fun hk => ?_⟩
  have restageJudged := judgement_iff (restageExpected_changes (before := before) (read := read) hk) (j := restage) rfl
  rwa [restageExpected_iff, restageUnchanged_iff] at restageJudged

end Sys2Proof.Machine

namespace Sys2Proof.Machine

/-! ## The comparison of a resolution (R117) -/

/-- The digits of the four stages are all that a tally's digits hold (R6). -/
theorem digits_eq_iff {a b : Digits} : a = b ↔ ∀ j, a.get j = b.get j := by
  refine ⟨fun h j => h ▸ rfl, fun h => ?_⟩
  have d0 : a.d0 = b.d0 := h 0
  have d1 : a.d1 = b.d1 := h 1
  have d2 : a.d2 = b.d2 := h 2
  have d3 : a.d3 = b.d3 := h 3
  cases a
  cases b
  simp_all only

/-- Settles O55: the entry's tally before, its latch clear, is compared as a verify read of its BURN is; a read that shows
it unchanged does not show the burned cell. -/
theorem resolutionCompared : Obligations.ResolutionCompared := by
  intro k before read taken notTaken
  have taken_iff : burnExpected k ⟨before, 0⟩ read = true ↔ taken := burnExpected_iff k ⟨before, 0⟩ read
  have notTaken_iff : read.digits = before ∧ read.latch = 0 ↔ notTaken := and_congr_left fun _ => digits_eq_iff
  have apart (same : read.digits = before ∧ read.latch = 0) : ¬ burnExpected k ⟨before, 0⟩ read = true := fun burned =>
    burnExpected_changes k ⟨before, 0⟩ read burned (congrArg₂ Tally.mk same.1 same.2)
  rw [← taken_iff, ← notTaken_iff]
  by_cases same : read.digits = before ∧ read.latch = 0
  · simp [resolveOutcome, same, apart same]
  · by_cases burned : burnExpected k ⟨before, 0⟩ read = true <;> simp [resolveOutcome, same, burned]

end Sys2Proof.Machine

namespace Sys2Proof.Machine

/-! ## What a command of the record list and the doubt list runs -/

theorem exec_takeRecords (s : State) : exec .takeRecords s = .next s.doTakeRecords := rfl
theorem exec_doubtRead (s : State) : exec .doubtRead s = .next s.doDoubtRead := rfl
theorem exec_doubtDiscard (s : State) : exec .doubtDiscard s = .next s.doDoubtDiscard := rfl

/-! ## DOUBT READ and DOUBT DISCARD (R122, R123) -/

/-- Settles O33: the figures are read off the list, and the reply is all that joins. -/
theorem doubtReadReplies : Obligations.DoubtReadReplies := by
  unfold Obligations.DoubtReadReplies
  intro s r start hf hb
  simp only [exec_doubtRead, State.doDoubtRead, hf, hb, answer_takeFront]
  rfl

theorem pendingEntry_isSome_iff (m : Retained) (i : Identity) :
    (m.pendingEntry i).isSome = true ↔ ∃ x ∈ m.doubts, x.id = i ∧ x.resolved = none := by
  simp [Retained.pendingEntry]

/-- The first PENDING entry of the identity leaves, and the others stay as they stand (R123). -/
theorem discard_eq {m : Retained} {i : Identity} {before behind : List DoubtEntry} {e : DoubtEntry}
    (hd : m.doubts = before ++ e :: behind) (he : e.id = i ∧ e.resolved = none)
    (first : ∀ x ∈ before, ¬ (x.id = i ∧ x.resolved = none)) :
    m.discard i = { m with doubts := before ++ behind } := by
  have passed : ∀ x ∈ before, ¬ (decide (x.id = i) && x.resolved.isNone) = true := by simpa using first
  rw [Retained.discard, hd, List.eraseP_append_right _ passed, List.eraseP_cons_of_pos (by simp [he])]

section
variable {s : State} {r : Request} {i : Identity}

/-- DOUBT DISCARD of an identity with a PENDING entry. -/
theorem doDoubtDiscard_pending (hf : s.front .doubtList = some r) (hb : r.body = .doubtDiscard i)
    (pending : (s.retained.pendingEntry i).isSome = true) :
    s.doDoubtDiscard = { s with retained := s.retained.discard i }.replied .doubtList 0x42#8 r .ok := by
  simp only [State.doDoubtDiscard, hf, hb, pending, if_true, answer_eq]
  rfl

/-- DOUBT DISCARD of an identity without one. -/
theorem doDoubtDiscard_refused (hf : s.front .doubtList = some r) (hb : r.body = .doubtDiscard i)
    (unpending : ¬ (s.retained.pendingEntry i).isSome = true) :
    s.doDoubtDiscard = s.replied .doubtList 0x42#8 r
      (.refusal (if ∃ x ∈ s.retained.doubts, x.id = i then .state else .notFound)) := by
  have any : (s.retained.doubts.any fun e => e.id = i) = true ↔ ∃ x ∈ s.retained.doubts, x.id = i := by simp
  simp only [State.doDoubtDiscard, hf, hb, if_neg unpending, answer_takeFront, any]
  split <;> rfl

end

/-- Settles O34: by whether the identity has a PENDING entry, and then whether it has any. -/
theorem doubtDiscardOutcomes : Obligations.DoubtDiscardOutcomes := by
  unfold Obligations.DoubtDiscardOutcomes
  intro s r i hf hb
  refine ⟨fun before e behind hd hi hr first => ?_, fun resolved => ?_⟩
  · have pending : (s.retained.pendingEntry i).isSome = true :=
      (pendingEntry_isSome_iff s.retained i).2 ⟨e, by simp [hd], hi, hr⟩
    rw [exec_doubtDiscard, doDoubtDiscard_pending hf hb pending, discard_eq hd ⟨hi, hr⟩ first]
  · have unpending : ¬ (s.retained.pendingEntry i).isSome = true := by
      rw [pendingEntry_isSome_iff]
      rintro ⟨x, hx, hi, hr⟩
      simpa [hr] using resolved x hx hi
    rw [exec_doubtDiscard, doDoubtDiscard_refused hf hb unpending]
    refine ⟨fun found => by rw [if_pos found], fun absent => ?_⟩
    rw [if_neg fun ⟨x, hx, hi⟩ => absent x hx hi]

end Sys2Proof.Machine

namespace Sys2Proof.Machine

/-! ## The held resolutions (R119, R120, R133) -/

/-- The record of a RESOLVED entry, with the sequence number it is stored under (R129). -/
def DoubtEntry.record (e : DoubtEntry) (seq : Nat) : Record := .resolution {
  seq := seq, id := e.id, callId := e.callId, stage := e.stage
  outcome := (e.resolved.map (·.1)).getD .mismatch, position := (e.resolved.map (·.2)).getD 0 }

/-- The records of RESOLVED entries stored one after another, numbered from the counter's number on (R127). -/
def heldRecords (seq : Nat) (held : List DoubtEntry) : List Record :=
  held.zipIdx.map fun x => x.1.record ((seq + x.2) % 65536)

/-- Retained memory with these entries' records at the tail of the record list and the entries gone from the doubt list, by
their creation numbers (log 40). -/
def Retained.storeHeld (m : Retained) (held : List DoubtEntry) : Retained :=
  { m with
    records := m.records ++ heldRecords m.seqCounter held
    doubts := m.doubts.filter fun x => x.creation ∉ held.map (·.creation)
    seqCounter := (m.seqCounter + held.length) % 65536 }

theorem nextNumber_zero {n : Nat} (h : n ≤ 65535) : nextNumber 0 n = (n + 1) % 65536 := by
  unfold nextNumber
  split <;> omega

theorem heldRecords_cons (seq : Nat) (e : DoubtEntry) (held : List DoubtEntry) :
    heldRecords seq (e :: held) = e.record (seq % 65536) :: heldRecords ((seq + 1) % 65536) held := by
  have shift (i : Nat) : (seq + (i + 1)) % 65536 = ((seq + 1) % 65536 + i) % 65536 := by omega
  rw [heldRecords, List.zipIdx_cons', List.map_cons, List.map_map]
  exact congrArg _ (List.map_congr_left fun x _ => congrArg x.1.record (shift x.2))

theorem storeHeld_nil {m : Retained} (h : m.seqCounter ≤ 65535) : m.storeHeld [] = m := by
  have small : m.seqCounter % 65536 = m.seqCounter := Nat.mod_eq_of_lt (by omega)
  simp [Retained.storeHeld, heldRecords, small]

theorem storeHeld_cons (m : Retained) (e : DoubtEntry) (held : List DoubtEntry) :
    (m.storeHeld [e]).storeHeld held = m.storeHeld (e :: held) := by
  have counter : ((m.seqCounter + 1) % 65536 + held.length) % 65536 = (m.seqCounter + (held.length + 1)) % 65536 := by
    omega
  have records : heldRecords m.seqCounter [e] ++ heldRecords ((m.seqCounter + 1) % 65536) held =
      heldRecords m.seqCounter (e :: held) := (heldRecords_cons m.seqCounter e held).symm
  have doubts : (m.doubts.filter fun x => x.creation ∉ [e].map (·.creation)).filter
      (fun x => x.creation ∉ held.map (·.creation)) =
        m.doubts.filter fun x => x.creation ∉ (e :: held).map (·.creation) := by
    rw [List.filter_filter]
    exact List.filter_congr fun x _ => by simp [Bool.and_comm]
  simp only [Retained.storeHeld, doubts, ← records, List.append_assoc, List.length_cons, List.length_nil, Nat.zero_add,
    counter]

theorem storeHeld_one_room (m : Retained) (e : DoubtEntry) : (m.storeHeld [e]).room = m.room + 1 := by
  simp only [Retained.room, Retained.storeHeld, heldRecords, List.zipIdx_singleton, List.map_singleton, List.length_append,
    List.length_singleton]
  omega

/-- An offer made while there is room stores the entry's record (R119, R133). -/
theorem offer_stores {m : Retained} {e : DoubtEntry} (he : e.resolved.isSome = true) (room : m.room < 64)
    (seq : m.seqCounter ≤ 65535) : m.offer e = (m.storeHeld [e], true) := by
  obtain ⟨⟨o, p⟩, hr⟩ := Option.isSome_iff_exists.1 he
  have small : m.seqCounter % 65536 = m.seqCounter := Nat.mod_eq_of_lt (by omega)
  rw [offer_with_room hr room]
  simp [Retained.store, Retained.storeHeld, heldRecords, DoubtEntry.record, resolutionOf, hr, small, nextNumber_zero seq]

theorem offer_holds {m : Retained} {e : DoubtEntry} (he : e.resolved.isSome = true) (full : 64 ≤ m.room) :
    m.offer e = (m, false) := by
  obtain ⟨⟨o, p⟩, hr⟩ := Option.isSome_iff_exists.1 he
  exact offer_without_room hr full

/-- Of RESOLVED entries that offer their records in turn, those for which room lasts store them (R120). -/
theorem offerHeld_eq (es : List DoubtEntry) : ∀ m : Retained, (∀ e ∈ es, e.resolved.isSome = true) →
    m.seqCounter ≤ 65535 →
    m.offerHeld es = (m.storeHeld (es.take (64 - m.room)), decide (es.take (64 - m.room) ≠ [])) := by
  induction es with
  | nil =>
    intro m _ seq
    simp [Retained.offerHeld, storeHeld_nil seq]
  | cons e es ih =>
    intro m resolved seq
    have he : e.resolved.isSome = true := resolved e List.mem_cons_self
    have hes : ∀ x ∈ es, x.resolved.isSome = true := fun x hx => resolved x (List.mem_cons_of_mem _ hx)
    by_cases room : m.room < 64
    · have kept : (m.storeHeld [e]).seqCounter ≤ 65535 := Nat.le_of_lt_succ (Nat.mod_lt _ (by decide))
      have left : 64 - m.room = 64 - (m.room + 1) + 1 := by omega
      simp [Retained.offerHeld, offer_stores he room seq, ih _ hes kept, storeHeld_one_room, left, storeHeld_cons]
    · have full : 64 - m.room = 0 := Nat.sub_eq_zero_of_le (Nat.not_lt.1 room)
      simp [Retained.offerHeld, offer_holds he (Nat.not_lt.1 room), ih m hes seq, full, storeHeld_nil seq]

end Sys2Proof.Machine

namespace Sys2Proof.Machine

/-! ## TAKE RECORDS (R134, R136) -/

/-- A part-wide flag raised unless a condition holds. -/
theorem raisePart_unless_eq (s : State) (b : Prop) [Decidable b] (f : PartFlag) :
    (if b then s else s.raisePart f) =
      { s with link := { s.link with
          flags := s.link.flags ||| (if b then 0#5 else f.bit)
          outbound := s.link.outbound ++ if b then [] else s.partNoticeOf f } } := by
  split
  · simp
  · exact raisePart_eq s f

/-- The count byte of TAKE RECORDS: 0 stands for 1, and no more than 4 are taken (R134). -/
theorem takeCount_toNat (count : Byte) : takeCount count.toNat = if count = 0#8 then 1 else min count.toNat 4 :=
  if_congr (BitVec.toNat_eq (x := count) (y := 0#8)).symm rfl rfl

/-- The held entries whose records find room once the oldest n records are taken, in creation order (R120). -/
def Retained.heldAfter (m : Retained) (n : Nat) : List DoubtEntry :=
  (m.doubts.filter fun e => e.resolved.isSome).take (64 - ((m.records.drop n).length + m.reservations.length))

theorem takeRecords_eq {m : Retained} (seq : m.seqCounter ≤ 65535) (n : Nat) :
    m.takeRecords n = (m.records.take n, ({ m with records := m.records.drop n } : Retained).storeHeld (m.heldAfter n),
      decide (m.heldAfter n ≠ [])) := by
  have offered := offerHeld_eq (m.doubts.filter fun e => e.resolved.isSome) { m with records := m.records.drop n }
    (fun e he => (List.mem_filter.1 he).2) seq
  simp only [Retained.takeRecords, offered]
  rfl

/-- What TAKE RECORDS removes, and retained memory after it. -/
theorem doTakeRecords_eq {s : State} {r : Request} {count : Byte} (hf : s.front .recordList = some r)
    (hb : r.body = .takeRecords count) (seq : s.retained.seqCounter ≤ 65535) :
    let n := if count = 0#8 then 1 else min count.toNat 4
    let held := s.retained.heldAfter n
    let m := ({ s.retained with records := s.retained.records.drop n } : Retained).storeHeld held
    let t : State := { s.takeFront .recordList with retained := m }
    s.doTakeRecords = (if held = [] then t else t.raisePart .recordsWaiting).answer r
      (.records m.records.length (s.retained.records.take n)) := by
  simp only [State.doTakeRecords, hf, hb, takeRecords_eq seq, takeCount_toNat, decide_eq_true_eq, ite_not]

/-- Settles O32: the oldest records leave, and the held resolutions for which that makes room are stored. -/
theorem takeRecordsHandsOldest : Obligations.TakeRecordsHandsOldest := by
  unfold Obligations.TakeRecordsHandsOldest
  intro s r count hf hb seq
  rw [exec_takeRecords, doTakeRecords_eq hf hb seq, raisePart_unless_eq, answer_eq, hb]
  rfl

end Sys2Proof.Machine

namespace Sys2Proof.Machine

/-! ## What the hold line's law speaks of (R139, R140, R153, R161) -/

/-- The outstanding count, the hold line, and what else asserts it: a RESTART that is pending, and start-up that is not
complete. -/
structure HoldLine where
  outstanding : Nat
  asserted : Bool
  restarting : Bool
  starting : Bool

def State.holdLine (s : State) : HoldLine :=
  { outstanding := s.link.outstanding, asserted := s.link.hold, restarting := s.restart ≠ .none,
    starting := s.starting.isSome }

def HoldLine.lawful (h : HoldLine) : Prop :=
  h.outstanding ≤ 16 ∧ (h.asserted = true ↔ h.outstanding = 16 ∨ h.restarting = true ∨ h.starting = true)

theorem linkLawful_iff (s : State) : s.linkLawful ↔ s.holdLine.lawful := by
  simp [State.linkLawful, HoldLine.lawful, State.holdLine]

theorem linkLawful_congr {s t : State} (h : t.holdLine = s.holdLine) (hs : s.linkLawful) : t.linkLawful := by
  rw [linkLawful_iff] at hs ⊢
  rwa [h]

theorem holdLine_of_kept {s t : State} (h : t.kept = s.kept) : t.holdLine = s.holdLine := by
  have restarting : decide (t.restart ≠ .none) = decide (s.restart ≠ .none) :=
    decide_eq_decide.2 (not_congr (kept_restart h))
  simp only [State.holdLine, kept_outstanding h, kept_hold h, kept_starting h, restarting]

/-! ### Requests taken and answered -/

section
variable (s : State)

/-- A request leaves the list of those received: no part of the hold line. -/
theorem holdLine_of_kept_taken {t : State} {o : Owner} (h : t.kept = (s.takeFront o).kept) : t.holdLine = s.holdLine :=
  holdLine_of_kept (s := s.takeFront o) h

theorem holdLine_guarded (r : Request) {f : State → State} (hf : (f s).holdLine = s.holdLine) :
    (s.guarded r f).holdLine = s.holdLine := by
  unfold State.guarded
  split
  · rfl
  · exact hf

theorem holdLine_blocksChanged (r : Request) (bs : Option (List Range)) :
    (s.blocksChanged r bs).holdLine = s.holdLine := by
  unfold State.blocksChanged
  split <;> rfl

theorem holdLine_doStatus : s.doStatus.holdLine = s.holdLine := by
  unfold State.doStatus
  split
  · rfl
  · split <;> rfl

theorem holdLine_doQuery : s.doQuery.holdLine = s.holdLine := by
  unfold State.doQuery
  split
  · rfl
  · split <;> rfl

theorem holdLine_takeAcknowledge (r : Request) (m v : Half) : (s.takeAcknowledge r m v).holdLine = s.holdLine := by
  unfold State.takeAcknowledge
  split <;> exact holdLine_of_kept (by simp)

theorem holdLine_doAcknowledge : s.doAcknowledge.holdLine = s.holdLine := by
  unfold State.doAcknowledge
  split
  · rfl
  · split
    · exact holdLine_takeAcknowledge _ _ _ _
    · rfl

theorem kept_configured (p : Pos) (r : Request) (x : PosSettings) :
    (s.configured p r x).kept = (s.writeSettings p x).kept := by
  unfold State.configured
  dsimp only
  split
  · simp
  · simp
  · simp
  · split <;> simp

theorem holdLine_takeConfigure (p : Pos) (r : Request) (i n c : Byte) :
    (s.takeConfigure p r i n c).holdLine = s.holdLine := by
  have due : (s.completeIfDue p).holdLine = s.holdLine := holdLine_of_kept (by simp)
  unfold State.takeConfigure
  split
  · rfl
  · dsimp only
    split
    · exact due
    · exact (holdLine_of_kept (kept_configured _ p r _)).trans due

theorem holdLine_doConfigure (p : Pos) : (s.doConfigure p).holdLine = s.holdLine := by
  unfold State.doConfigure
  split
  · split
    · exact holdLine_takeConfigure _ _ _ _ _ _
    · rfl
  · rfl

theorem holdLine_doResetPosition (p : Pos) : (s.doResetPosition p).holdLine = s.holdLine := by
  unfold State.doResetPosition
  split
  · split
    · exact holdLine_of_kept_taken s (kept_takeReset _ _ _)
    · rfl
  · rfl

theorem holdLine_doOpen : s.doOpen.holdLine = s.holdLine := by
  unfold State.doOpen
  split
  · rfl
  · split
    · exact holdLine_of_kept_taken s ((kept_takeOpen _ _ _ _).trans (kept_completeIfDue _ _))
    · rfl

theorem holdLine_doCharge : s.doCharge.holdLine = s.holdLine := by
  unfold State.doCharge
  split
  · rfl
  · split
    · exact holdLine_of_kept_taken s (kept_takeCharge _ _ _ _)
    · rfl

theorem holdLine_doClose : s.doClose.holdLine = s.holdLine := by
  unfold State.doClose
  split
  · rfl
  · split
    · exact holdLine_of_kept_taken s (kept_takeClose _ _ _)
    · rfl

theorem holdLine_doSeriesLoad : s.doSeriesLoad.holdLine = s.holdLine := by
  unfold State.doSeriesLoad
  split
  · rfl
  · split
    · refine holdLine_guarded _ _ ?_
      split
      · rfl
      · split <;> rfl
    · rfl

theorem holdLine_doSeriesRead : s.doSeriesRead.holdLine = s.holdLine := by
  unfold State.doSeriesRead
  split
  · rfl
  · split
    · dsimp only
      split <;> rfl
    · rfl

theorem holdLine_doBlockAdd : s.doBlockAdd.holdLine = s.holdLine := by
  unfold State.doBlockAdd
  split
  · rfl
  · split
    · refine holdLine_guarded _ _ ?_
      split
      · rfl
      · exact holdLine_blocksChanged _ _ _
    · rfl

theorem holdLine_doBlockRemove : s.doBlockRemove.holdLine = s.holdLine := by
  unfold State.doBlockRemove
  split
  · rfl
  · split
    · refine holdLine_guarded _ _ ?_
      split
      · rfl
      · exact holdLine_blocksChanged _ _ _
    · rfl

theorem holdLine_doBlockClear : s.doBlockClear.holdLine = s.holdLine := by
  unfold State.doBlockClear
  split
  · rfl
  · split
    · exact holdLine_guarded _ _ (holdLine_blocksChanged _ _ _)
    · rfl

theorem holdLine_doBlockRead : s.doBlockRead.holdLine = s.holdLine := by
  unfold State.doBlockRead
  split
  · rfl
  · split <;> rfl

theorem holdLine_doTakeRecords : s.doTakeRecords.holdLine = s.holdLine := by
  unfold State.doTakeRecords
  split
  · rfl
  · split
    · dsimp only
      split
      · exact holdLine_of_kept (s := { s.takeFront .recordList with retained := _ }) (kept_raisePart _ _)
      · rfl
    · rfl

theorem holdLine_doDoubtRead : s.doDoubtRead.holdLine = s.holdLine := by
  unfold State.doDoubtRead
  split
  · rfl
  · split <;> rfl

theorem holdLine_doDoubtDiscard : s.doDoubtDiscard.holdLine = s.holdLine := by
  unfold State.doDoubtDiscard
  split
  · rfl
  · split
    · dsimp only
      split
      · rfl
      · split <;> rfl
    · rfl

theorem holdLine_doProtect : s.doProtect.holdLine = s.holdLine := by
  unfold State.doProtect State.takeProtect State.setMode
  split
  · rfl
  · split
    · split
      · rfl
      · split
        · rfl
        · split <;> rfl
    · rfl

theorem holdLine_doSave : s.doSave.holdLine = s.holdLine := by
  unfold State.doSave
  split
  · rfl
  · split
    · refine holdLine_guarded _ _ ?_
      split
      · rfl
      · split <;> rfl
    · rfl

theorem holdLine_doSelfTest : s.doSelfTest.holdLine = s.holdLine := by
  unfold State.doSelfTest
  split
  · rfl
  · dsimp only
    split
    · split
      · rfl
      · split
        · rfl
        · exact holdLine_of_kept_taken s (kept_startTest _ _ _)
    · rfl

/-! ### The store, the key, the framer and time -/

theorem holdLine_doSaveWriteComplete : s.doSaveWriteComplete.holdLine = s.holdLine := by
  unfold State.doSaveWriteComplete
  split <;> rfl

theorem holdLine_doKeyInputChange (closed : Bool) : (s.doKeyInputChange closed).holdLine = s.holdLine := by
  unfold State.doKeyInputChange
  split <;> rfl

/-- A change counted within start-up leaves start-up as far from complete as it was. -/
theorem holdLine_keyChanged : s.keyChanged.holdLine = s.holdLine := by
  unfold State.keyChanged
  split
  · next hs => simp only [State.holdLine, hs]; rfl
  · exact holdLine_of_kept (kept_raisePart _ _)

theorem holdLine_doKeyDebounceExpiry : s.doKeyDebounceExpiry.holdLine = s.holdLine := by
  unfold State.doKeyDebounceExpiry
  split
  · dsimp only
    split
    · exact holdLine_keyChanged _
    · rfl
  · rfl

theorem holdLine_doMessageTransmitStart : s.doMessageTransmitStart.holdLine = s.holdLine := by
  unfold State.doMessageTransmitStart
  split <;> rfl

theorem holdLine_doLengthByteOutOfRange (b : Byte) : (s.doLengthByteOutOfRange b).holdLine = s.holdLine := by
  unfold State.doLengthByteOutOfRange
  split <;> rfl

theorem holdLine_tick : s.tick.holdLine = s.holdLine := by
  cases on : s.powered with
  | false => rw [tick_off on]
  | true =>
    have counts := link_tick_eq s.link
    rw [tick_on on]
    simp only [State.holdLine, counts]

end

/-! ## What moves the hold line (R139, R140, R153, R161) -/

namespace HoldLine

/-- A request counted where the hold line is released: fewer than 16 were outstanding. -/
theorem countRequest {s : State} (h : s.linkLawful) (hold : s.link.hold = false) :
    (s.modLink Link.countRequest).linkLawful := by
  obtain ⟨bound, line⟩ := h
  simp only [hold, Bool.false_eq_true, false_iff, not_or] at line
  obtain ⟨notFull, restart, starting⟩ := line
  have below : s.link.outstanding + 1 ≤ 16 := by omega
  exact ⟨below, by simp [Link.countRequest, Config.outstandingLimit, hold, restart, starting]⟩

theorem dispatch (s : State) (type tag pos : Byte) (payload : List Byte) :
    (s.dispatch type tag pos payload).holdLine = s.holdLine := by
  unfold State.dispatch
  split
  · rfl
  · split
    · rfl
    · split
      · rfl
      · split <;> rfl

theorem frameComplete {s : State} (h : s.linkLawful) (f : LinkFrame) : (s.frameComplete f).linkLawful := by
  unfold State.frameComplete
  split
  · split
    · exact h
    · split
      · unfold State.holdDiscard
        split
        · exact linkLawful_congr (holdLine_of_kept (kept_raisePart _ _)) h
        · exact h
      · next hold => exact linkLawful_congr (dispatch _ _ _ _ _) (countRequest h (by simpa using hold))
  · exact h

theorem bytesArrive {s : State} (h : s.linkLawful) (bs : List Byte) : (s.bytesArrive bs).linkLawful := by
  have all (fs : List LinkFrame) : ∀ u : State, u.linkLawful → (fs.foldl State.frameComplete u).linkLawful := by
    induction fs with
    | nil => exact fun u hu => hu
    | cons f fs ih => exact fun u hu => ih _ (frameComplete hu f)
  exact all _ _ h

theorem doFrameReceived {s : State} (h : s.linkLawful) (bs : List Byte) : (s.doFrameReceived bs).linkLawful := by
  unfold State.doFrameReceived
  split
  · exact bytesArrive h bs
  · exact h

theorem doFrameGapTimeout {s : State} (h : s.linkLawful) (bs : List Byte) : (s.doFrameGapTimeout bs).linkLawful := by
  unfold State.doFrameGapTimeout
  split
  · exact bytesArrive h bs
  · exact h

/-- With a message's last byte the hold line is set afresh from the count, so that only the count's bound is needed. -/
theorem doMessageSent {s : State} (h : s.linkLawful) : s.doMessageSent.linkLawful := by
  unfold State.doMessageSent
  split
  · exact h
  · next t _ =>
    have bound := h.1
    have few : (if t.isReply then s.link.outstanding - 1 else s.link.outstanding) ≤ 16 := by split <;> omega
    refine ⟨few, ?_⟩
    rw [modLink_link, holdAfter_iff]
    exact or_congr_left ⟨fun full => Nat.le_antisymm few full, fun full => full.ge⟩

/-- Where a RESTART is pending, the hold line is asserted whatever the count. -/
theorem lawful_of_restarting {s : State} (bound : s.link.outstanding ≤ 16) (hold : s.link.hold = true)
    (restart : s.restart ≠ .none) : s.linkLawful :=
  ⟨bound, iff_of_true hold (.inr (.inl restart))⟩

theorem takeRestart {s : State} (h : s.linkLawful) (r : Request) : (s.takeRestart r).linkLawful := by
  let taken : State := { (s.answer r .ok).modLink fun l => { l with hold := true } with restart := .settling }
  have lawful : taken.linkLawful := lawful_of_restarting h.1 rfl RestartPhase.noConfusion
  exact linkLawful_congr (t := (taken.stopArbiter.abortTest).restartSettle) (holdLine_of_kept (by simp)) lawful

theorem doRestart {s : State} (h : s.linkLawful) : s.doRestart.linkLawful := by
  unfold State.doRestart
  split
  · split
    · exact takeRestart (s := s.takeFront .linkPort) h _
    · exact h
  · exact h

/-! ### Start-up and the loss of supply -/

/-- Start-up ends with nothing outstanding and the hold line released; what is raised then moves neither. -/
theorem startEnd {s : State} (h : s.linkLawful) : s.startEnd.linkLawful := by
  cases hs : s.starting with
  | none =>
    have same : s.startEnd = s := by simp only [State.startEnd, hs]
    rwa [same]
  | some x =>
    have released : (s.startedWith s.retained.started).linkLawful := by
      simp [State.linkLawful, State.startedWith, Link.start]
    rw [startEnd_eq hs]
    refine linkLawful_congr (holdLine_of_kept ?_) released
    rw [kept_foldl _ kept_insert]
    simp [State.startRaisings]

theorem startOn {s : State} (h : s.linkLawful) (pause : Option Nat) : (s.startOn pause).linkLawful := by
  cases pause with
  | none => exact startEnd h
  | some n => exact h

theorem startUp (s : State) (pause : Option Nat) : (s.startUp pause).linkLawful :=
  startOn ⟨Nat.zero_le _, iff_of_true rfl (.inr (.inr rfl))⟩ pause

theorem doPartRestart {s : State} (h : s.linkLawful) (pause : Option Nat) : (s.doPartRestart pause).linkLawful := by
  unfold State.doPartRestart
  split
  · exact startUp _ _
  · exact h

theorem doPowerOn {s : State} (h : s.linkLawful) (kept : Bool) (pause : Option Nat) :
    (s.doPowerOn kept pause).linkLawful := by
  unfold State.doPowerOn
  split
  · exact startUp _ _
  · split
    · exact startOn h pause
    · exact h

theorem doMainSupplyLoss {s : State} (h : s.linkLawful) (points : List Nat) : (s.doMainSupplyLoss points).linkLawful := by
  unfold State.doMainSupplyLoss
  split
  · exact ⟨Nat.zero_le _, by simp [Link.start]⟩
  · exact h

end HoldLine

/-! ### Every step -/

/-- Every command keeps the hold line's law: most leave all it speaks of as it was. -/
theorem exec_linkLawful {s t : State} {i : Instr} (h : s.linkLawful) (ht : exec i s = .next t) : t.linkLawful := by
  have same {u : State} (e : u.holdLine = s.holdLine) : u.linkLawful := linkLawful_congr e h
  have kept {u : State} (e : u.kept = s.kept) : u.linkLawful := same (holdLine_of_kept e)
  cases i with
  | frameReceived bs => cases ht; exact HoldLine.doFrameReceived h bs
  | frameGapTimeout bs => cases ht; exact HoldLine.doFrameGapTimeout h bs
  | messageSent => cases ht; exact HoldLine.doMessageSent h
  | restart => cases ht; exact HoldLine.doRestart h
  | partRestart pause => cases ht; exact HoldLine.doPartRestart h pause
  | powerOn kept pause => cases ht; exact HoldLine.doPowerOn h kept pause
  | mainSupplyLoss points => cases ht; exact HoldLine.doMainSupplyLoss h points
  | messageTransmitStart => cases ht; exact same (holdLine_doMessageTransmitStart s)
  | lengthByteOutOfRange b => cases ht; exact same (holdLine_doLengthByteOutOfRange s b)
  | status => cases ht; exact same (holdLine_doStatus s)
  | query => cases ht; exact same (holdLine_doQuery s)
  | acknowledge => cases ht; exact same (holdLine_doAcknowledge s)
  | configure p => cases ht; exact same (holdLine_doConfigure s p)
  | resetPosition p => cases ht; exact same (holdLine_doResetPosition s p)
  | seriesLoad => cases ht; exact same (holdLine_doSeriesLoad s)
  | seriesRead => cases ht; exact same (holdLine_doSeriesRead s)
  | blockAdd => cases ht; exact same (holdLine_doBlockAdd s)
  | blockRemove => cases ht; exact same (holdLine_doBlockRemove s)
  | blockClear => cases ht; exact same (holdLine_doBlockClear s)
  | blockRead => cases ht; exact same (holdLine_doBlockRead s)
  | openCall => cases ht; exact same (holdLine_doOpen s)
  | charge => cases ht; exact same (holdLine_doCharge s)
  | close => cases ht; exact same (holdLine_doClose s)
  | takeRecords => cases ht; exact same (holdLine_doTakeRecords s)
  | doubtRead => cases ht; exact same (holdLine_doDoubtRead s)
  | doubtDiscard => cases ht; exact same (holdLine_doDoubtDiscard s)
  | protect => cases ht; exact same (holdLine_doProtect s)
  | save => cases ht; exact same (holdLine_doSave s)
  | saveWriteComplete => cases ht; exact same (holdLine_doSaveWriteComplete s)
  | selfTest => cases ht; exact same (holdLine_doSelfTest s)
  | keyInputChange closed => cases ht; exact same (holdLine_doKeyInputChange s closed)
  | keyDebounceExpiry => cases ht; exact same (holdLine_doKeyDebounceExpiry s)
  | closeCompletion p => cases ht; exact kept (kept_completeIfDue s p)
  | configureOutOfServiceAct p => cases ht; exact kept (kept_doConfigureAct s p)
  | resetPositionAct p => cases ht; exact kept (kept_doResetPositionAct s p)
  | loopCurrentChange p change => cases ht; exact kept (kept_doLoopCurrentChange s p change)
  | insertion p => cases ht; exact kept (kept_doInsertion s p)
  | removal p => cases ht; exact kept (kept_doRemoval s p)
  | restCountExpiry p => cases ht; exact kept (kept_doRestCountExpiry s p)
  | orderFrameEnd p passage takes => cases ht; exact kept (kept_doOrderFrameEnd s p passage takes)
  | answerFrame p a => cases ht; exact kept (kept_doAnswerFrame s p a)
  | answerTimeout p => cases ht; exact kept (kept_doAnswerTimeout s p)
  | loopbackReturn p bs => cases ht; exact kept (kept_doLoopbackReturn s p bs)
  | loopbackTimeout p => cases ht; exact kept (kept_doLoopbackTimeout s p)
  | echoAnswer p bs => cases ht; exact kept (kept_doEchoAnswer s p bs)
  | echoTimeout p => cases ht; exact kept (kept_doEchoTimeout s p)

/-- Settles O56: a millisecond moves nothing the law speaks of, and a command keeps it. -/
theorem holdLineLawKept : Obligations.HoldLineLawKept := by
  unfold Obligations.HoldLineLawKept
  intro s t h ht
  cases hp : s.pending with
  | nil =>
    cases (step_idle hp).symm.trans ht
    exact linkLawful_congr (holdLine_tick s) h
  | cons c rest =>
    have run : exec c { s with pending := rest } = .next t := by simpa [step, hp] using ht
    exact exec_linkLawful (s := { s with pending := rest }) h run

end Sys2Proof.Machine

namespace Sys2Proof.Machine

/-! ## What the commands of receiving run -/

theorem exec_frameReceived (bs : List Byte) (s : State) : exec (.frameReceived bs) s = .next (s.doFrameReceived bs) := rfl
theorem exec_frameGapTimeout (bs : List Byte) (s : State) :
    exec (.frameGapTimeout bs) s = .next (s.doFrameGapTimeout bs) := rfl
theorem exec_lengthByteOutOfRange (length : Byte) (s : State) :
    exec (.lengthByteOutOfRange length) s = .next (s.doLengthByteOutOfRange length) := rfl

/-! ## A frame arrives whole (R138) -/

/-- The gap count starts again with the bytes of a frame. -/
def State.gapReset (s : State) : State := { s with link := { s.link with gap := 0 } }

/-- The bytes of a management frame with a check of any value (R169). -/
def checkedFrame (type tag pos : Byte) (payload : List Byte) (check : Half) : List Byte :=
  0x01#8 :: natByte (payload.length + 3) :: type :: tag :: pos :: payload ++ halfBytes check

/-- The check that such a frame has to carry (R168). -/
def frameCheck (type tag pos : Byte) (payload : List Byte) : Half :=
  crc (natByte (payload.length + 3) :: type :: tag :: pos :: payload)

theorem linkFrame_eq (type tag pos : Byte) (payload : List Byte) :
    linkFrame type tag pos payload = checkedFrame type tag pos payload (frameCheck type tag pos payload) := rfl

section
variable {s : State} {type tag pos : Byte} {payload : List Byte}

theorem doFrameReceived_frame (on : s.powered = true) (started : s.starting = none) (hunts : s.link.framer = .hunting)
    (h1 : 1 ≤ payload.length) (h250 : payload.length + 3 ≤ 250) (check : Half) :
    s.doFrameReceived (checkedFrame type tag pos payload check) =
      s.gapReset.frameComplete { body := type :: tag :: pos :: payload,
                                 checkGood := halfBytes (frameCheck type tag pos payload) = halfBytes check } := by
  have run := run_frame type tag pos payload check h250 h1
  have reset : (s.modLink fun l => { l with framer := .hunting, gap := 0 }) = s.gapReset := by
    simp only [State.modLink, State.gapReset, ← hunts]
  rw [State.doFrameReceived, if_pos ((running_iff s).2 ⟨on, started⟩), State.bytesArrive, hunts, checkedFrame, run]
  simp only [reset, List.foldl_cons, List.foldl_nil]
  rfl

/-- A frame whose check matches and whose tag is not 0, by the hold line (R138, R140). -/
theorem frameComplete_good (good : tag ≠ 0#8) :
    s.frameComplete { body := type :: tag :: pos :: payload, checkGood := true } =
      if s.link.hold then s.holdDiscard else (s.modLink Link.countRequest).dispatch type tag pos payload := by
  simp only [State.frameComplete, Bool.not_true, Bool.false_or, good, decide_false, Bool.false_eq_true, if_false]

/-- A frame with tag 0, or with a check that does not match, leaves no trace (R138). -/
theorem frameComplete_dropped {good : Bool} (h : tag = 0#8 ∨ good = false) :
    s.frameComplete { body := type :: tag :: pos :: payload, checkGood := good } = s := by
  have dropped : (!good || decide (tag = 0#8)) = true := by
    rcases h with rfl | rfl
    · simp
    · rfl
  exact if_pos dropped

end

/-! ## The request table (R142, R168, R169) -/

theorem append_toNat {m n : Nat} (x : BitVec m) (y : BitVec n) : (x ++ y).toNat = x.toNat * 2 ^ n + y.toNat := by
  rw [BitVec.toNat_append, ← Nat.shiftLeft_add_eq_or_of_lt y.isLt, Nat.shiftLeft_eq]

theorem halfOf_toNat (a b : Byte) : (halfOf a b).toNat = 256 * a.toNat + b.toNat := by
  rw [halfOf, append_toNat]
  omega

theorem halfOf_eq (a b : Byte) : halfOf a b = BitVec.ofNat 16 (256 * a.toNat + b.toNat) :=
  BitVec.toNat_inj.1 (by rw [← halfOf_toNat, BitVec.ofNat_toNat, BitVec.setWidth_eq])

theorem quadOf_eq (a b c d : Byte) :
    quadOf a b c d = BitVec.ofNat 32 (16777216 * a.toNat + 65536 * b.toNat + 256 * c.toNat + d.toNat) := by
  have sum : (quadOf a b c d).toNat = 16777216 * a.toNat + 65536 * b.toNat + 256 * c.toNat + d.toNat := by
    rw [quadOf, append_toNat, halfOf_toNat, halfOf_toNat]
    omega
  rw [← sum, BitVec.ofNat_toNat, BitVec.setWidth_eq]

/-- A type is known by its number. -/
theorem type_eq {type : Byte} {n : Nat} (h : type.toNat = n) : type = BitVec.ofNat 8 n := by
  rw [← h, BitVec.ofNat_toNat, BitVec.setWidth_eq]

theorem requestLength_eq (type : Byte) : requestLength type =
    if type ∈ [0x10#8, 0x11#8, 0x21#8, 0x24#8, 0x31#8, 0x32#8, 0x33#8, 0x40#8, 0x41#8, 0x50#8, 0x5F#8] then some 4
    else if type ∈ [0x25#8, 0x30#8, 0x51#8] then some 5
    else if type = 0x12#8 then some 6
    else if type = 0x13#8 ∨ type = 0x52#8 then some 7
    else if type = 0x42#8 then some 9
    else if type = 0x20#8 then some 12
    else if type = 0x22#8 ∨ type = 0x23#8 then some 13
    else none := by
  unfold requestLength
  split
  case h_22 =>
    simp only [imp_false] at *
    simp only [← BitVec.toNat_inj, List.mem_cons, List.not_mem_nil, BitVec.toNat_ofNat, or_false]
    repeat rw [if_neg (by omega)]
  all_goals
    next h => rw [type_eq h]; rfl

/-- What a request asks has the request's type. -/
theorem requestBody_typeCode {type : Byte} {payload : List Byte} {body : ReqBody}
    (h : requestBody type payload = some body) : body.typeCode = type := by
  unfold requestBody at h
  split at h
  case h_22 => cases h
  all_goals
    next ht => cases h; exact (type_eq ht).symm

theorem requestLength_of_body {type : Byte} {payload : List Byte} (h : (requestBody type payload).isSome = true) :
    requestLength type = some (payload.length + 3) := by
  unfold requestBody at h
  split at h
  case h_22 => cases h
  all_goals
    next ht => rw [type_eq ht]; rfl

theorem requestBody_of_length {type : Byte} {payload : List Byte}
    (h : requestLength type = some (payload.length + 3)) : (requestBody type payload).isSome = true := by
  rcases payload with _ | ⟨a, _ | ⟨b, _ | ⟨c, _ | ⟨d, _ | ⟨e, _ | ⟨f, _ | ⟨g, _ | ⟨i, _ | ⟨j, _ | ⟨k, _ | ⟨l, rest⟩⟩⟩⟩⟩⟩⟩⟩⟩⟩⟩
  all_goals
    unfold requestLength at h
    split at h <;> simp at h
  all_goals
    next ht => rw [type_eq ht]; rfl

/-! ## The link port's checks (R142, R152) -/

theorem posOf_fin {b : Byte} {p : Pos} (h : p.val = b.toNat) : posOf b = some p := by
  have low : b.toNat < 32 := h ▸ p.isLt
  rw [posOf, dif_pos low]
  exact congrArg some (Fin.ext h.symm)

theorem posOf_above {b : Byte} (h : 32 ≤ b.toNat) : posOf b = none := dif_neg (Nat.not_lt.2 h)

/-- The position requests, by their types. -/
theorem isPositionRequest_iff (body : ReqBody) : body.isPositionRequest = true ↔
    body.typeCode ∈ [0x11#8, 0x12#8, 0x30#8, 0x31#8, 0x32#8, 0x33#8] := by
  have table : body.isPositionRequest =
      decide (body.typeCode ∈ [0x11#8, 0x12#8, 0x30#8, 0x31#8, 0x32#8, 0x33#8]) := by cases body <;> rfl
  rw [table, decide_eq_true_iff]

theorem isAcknowledge_iff (body : ReqBody) : body.isAcknowledge = true ↔ body.typeCode = 0x13#8 := by
  have table : body.isAcknowledge = decide (body.typeCode = 0x13#8) := by cases body <;> rfl
  rw [table, decide_eq_true_iff]

/-- The requests that an OFF position refuses, by their types. -/
theorem refusedOff_iff (body : ReqBody) : body.refusedOff = true ↔
    body.typeCode ∈ [0x30#8, 0x31#8, 0x32#8, 0x13#8] := by
  have table : body.refusedOff = decide (body.typeCode ∈ [0x30#8, 0x31#8, 0x32#8, 0x13#8]) := by
    cases body <;> rfl
  rw [table, decide_eq_true_iff]

theorem posRefused_iff (body : ReqBody) (pos : Byte) : posRefused body pos = true ↔
    posOf pos = none ∧ (body.isPositionRequest = true ∨ (body.isAcknowledge = true ∧ pos ≠ 0xFF#8)) := by
  rw [posRefused, Bool.and_eq_true, Bool.or_eq_true, Bool.and_eq_true, Option.isNone_iff_eq_none, decide_eq_true_iff]
  rfl

theorem posOff_iff (s : State) (pos : Byte) : s.posOff pos = true ↔ ∃ p, posOf pos = some p ∧ (s.line p).state = .off := by
  unfold State.posOff
  split
  · next h => simp [h]
  · next h => simp [h]

section
variable {s : State} {body : ReqBody} {pos : Byte}

theorem linkRefusal_position (h : posRefused body pos = true) : s.linkRefusal body pos = some .position := if_pos h

theorem linkRefusal_state (h : posRefused body pos = false) (off : body.refusedOff = true) (hp : s.posOff pos = true) :
    s.linkRefusal body pos = some .state := by
  simp [State.linkRefusal, h, off, hp]

theorem linkRefusal_none (h : posRefused body pos = false) (off : body.refusedOff = true → s.posOff pos = false) :
    s.linkRefusal body pos = none := by
  cases hb : body.refusedOff with
  | false => simp [State.linkRefusal, h, hb]
  | true => simp [State.linkRefusal, h, off hb]

end

section
variable (s : State) {type tag pos : Byte} {payload : List Byte}

theorem dispatch_unknown (h : requestLength type = none) :
    s.dispatch type tag pos payload = s.send (.reply type tag pos (.refusal .unknownType)) := by
  simp only [State.dispatch, h]

theorem dispatch_format {n : Nat} (h : requestLength type = some n) (hn : n ≠ payload.length + 3) :
    s.dispatch type tag pos payload = s.send (.reply type tag pos (.refusal .format)) := by
  simp only [State.dispatch, h, if_pos hn.symm]

theorem dispatch_refused {body : ReqBody} {c : ResultCode} (hb : requestBody type payload = some body)
    (h : s.linkRefusal body pos = some c) :
    s.dispatch type tag pos payload = s.send (.reply type tag pos (.refusal c)) := by
  have length := requestLength_of_body (Option.isSome_iff_exists.2 ⟨body, hb⟩)
  simp only [State.dispatch, length, ne_eq, not_true_eq_false, if_false, hb, h]

theorem dispatch_received {body : ReqBody} (hb : requestBody type payload = some body)
    (h : s.linkRefusal body pos = none) :
    s.dispatch type tag pos payload =
      s.modLink fun l => { l with received := l.received ++ [{ tag := tag, pos := pos, body := body }] } := by
  have length := requestLength_of_body (Option.isSome_iff_exists.2 ⟨body, hb⟩)
  simp only [State.dispatch, length, ne_eq, not_true_eq_false, if_false, hb, h]

end

/-! ## A frame is counted as a request (R138 to R140) -/

/-- The request is outstanding, and the hold line is asserted at 16. -/
def State.counted (s : State) : State :=
  { s with link := { s.link with
      gap := 0, outstanding := s.link.outstanding + 1, hold := decide (s.link.outstanding + 1 = 16) } }

section
variable {s : State} {type tag pos : Byte} {payload : List Byte}

theorem gapReset_countRequest (free : s.link.hold = false) : s.gapReset.modLink Link.countRequest = s.counted := by
  simp [State.gapReset, State.modLink, Link.countRequest, State.counted, free, Config.outstandingLimit]

theorem requestLength_bounds {n : Nat} (h : requestLength type = some (n + 3)) : 1 ≤ n ∧ n + 3 ≤ 250 := by
  unfold requestLength at h
  split at h <;> simp at h <;> omega

/-- A good frame while the hold line is released is counted, and goes to the link port's checks. -/
theorem exec_frame (on : s.powered = true) (started : s.starting = none) (hunts : s.link.framer = .hunting)
    (free : s.link.hold = false) (good : tag ≠ 0#8) (h1 : 1 ≤ payload.length) (h250 : payload.length + 3 ≤ 250) :
    exec (.frameReceived (linkFrame type tag pos payload)) s = .next (s.counted.dispatch type tag pos payload) := by
  have held : s.gapReset.link.hold = false := free
  rw [exec_frameReceived, linkFrame_eq, doFrameReceived_frame on started hunts h1 h250, decide_eq_true rfl,
    frameComplete_good good, held, gapReset_countRequest free]
  rfl

end

/-- Settles O9: the request table by its types, and a frame that passes the link port's checks. -/
theorem frameBecomesRequest : Obligations.FrameBecomesRequest := by
  unfold Obligations.FrameBecomesRequest
  refine ⟨requestLength_eq, fun type payload => ⟨requestLength_of_body, requestBody_of_length⟩, ?_, ?_⟩
  · intro a b c d e f g h i j
    simp only [← halfOf_eq, ← quadOf_eq]
    exact ⟨rfl, rfl, rfl, rfl, rfl, rfl, rfl, rfl, rfl, rfl, rfl, rfl, rfl, rfl, rfl, rfl, rfl, rfl, rfl, rfl, rfl⟩
  · intro type tag pos payload body s on started hunts free good length hb inRange ackRange notOff
    obtain ⟨h1, h250⟩ := requestLength_bounds length
    have code := requestBody_typeCode hb
    have inside : posRefused body pos = false := by
      rw [← Bool.not_eq_true, posRefused_iff]
      rintro ⟨noPos, named⟩
      have above : ¬ pos.toNat < 32 := fun low => by simp [posOf, low] at noPos
      rcases named with position | ⟨ack, notPart⟩
      · exact above (inRange (code ▸ (isPositionRequest_iff body).1 position))
      · exact (ackRange (code ▸ (isAcknowledge_iff body).1 ack)).elim above notPart
    have refusal : s.counted.linkRefusal body pos = none := by
      refine linkRefusal_none inside fun refused => ?_
      rw [← Bool.not_eq_true, posOff_iff]
      rintro ⟨p, hp, off⟩
      have named : p.val = pos.toNat := by
        unfold posOf at hp
        split at hp <;> cases hp
        rfl
      exact notOff (code ▸ (refusedOff_iff body).1 refused) p named off
    rw [exec_frame on started hunts free good h1 h250, dispatch_received _ hb refusal]
    rfl

/-- Settles O10: the checks in their order, each on a frame that has been counted. -/
theorem frameRefusedByLinkPort : Obligations.FrameRefusedByLinkPort := by
  unfold Obligations.FrameRefusedByLinkPort
  intro type tag pos payload s on started hunts free good h1 h250 refused run
  have counted : run = .next (s.counted.dispatch type tag pos payload) :=
    exec_frame on started hunts free good h1 h250
  refine ⟨fun unknown => ?_, fun n length other => ?_, fun length => ?_⟩
  · rw [counted, dispatch_unknown _ unknown]
    rfl
  · rw [counted, dispatch_format _ length other]
    rfl
  obtain ⟨body, hb⟩ := Option.isSome_iff_exists.1 (requestBody_of_length length)
  have code := requestBody_typeCode hb
  have refusal {c : ResultCode} (h : s.counted.linkRefusal body pos = some c) : run = refused c := by
    rw [counted, dispatch_refused _ hb h]
    rfl
  refine ⟨fun position above => ?_, fun ack above notPart => ?_, fun types p named off => ?_⟩
  · exact refusal (linkRefusal_position ((posRefused_iff body pos).2
      ⟨posOf_above above, .inl ((isPositionRequest_iff body).2 (code ▸ position))⟩))
  · exact refusal (linkRefusal_position ((posRefused_iff body pos).2
      ⟨posOf_above above, .inr ⟨(isAcknowledge_iff body).2 (code ▸ ack), notPart⟩⟩))
  · have inside : posRefused body pos = false := by
      rw [← Bool.not_eq_true, posRefused_iff, posOf_fin named]
      exact fun h => nomatch h.1
    exact refusal (linkRefusal_state inside ((refusedOff_iff body).2 (code ▸ types))
      ((posOff_iff _ pos).2 ⟨p, posOf_fin named, off⟩))

/-! ## Frames that are discarded (R138, R140, R153, R161) -/

theorem doFrame_stopped {s : State} (h : s.powered = false ∨ s.starting.isSome = true) (bs : List Byte) :
    s.doFrameReceived bs = s ∧ s.doFrameGapTimeout bs = s := by
  have stopped : s.running = false := by
    rcases h with off | starting
    · simp [State.running, off]
    · obtain ⟨x, hx⟩ := Option.isSome_iff_exists.1 starting
      simp [State.running, hx]
  simp [State.doFrameReceived, State.doFrameGapTimeout, stopped]

/-- A gap after bytes that complete no frame. -/
theorem doFrameGapTimeout_hunts {s : State} (h : s.running = true) {bs : List Byte} (hb : (s.link.framer.run bs).2 = []) :
    s.doFrameGapTimeout bs = { s with link := { s.link with framer := .hunting, gap := 0 } } := by
  simp [State.doFrameGapTimeout, h, State.bytesArrive, hb, State.modLink]

theorem doLengthByteOutOfRange_hunts {s : State} (h : s.running = true) {length : Byte}
    (out : length.toNat < 4 ∨ 250 < length.toNat) (hf : s.link.framer = .started ∨ s.link.framer = .hunting) :
    s.doLengthByteOutOfRange length = { s with link := { s.link with framer := .hunting, gap := 0 } } := by
  have outOfRange : lengthInRange length = false := by
    simp [lengthInRange]
    omega
  simp [State.doLengthByteOutOfRange, h, outOfRange, hf, State.modLink]

/-- Settles O11: the frame that arrives whole, by the hold line, its tag and its check; then what is not gathered. -/
theorem frameDiscarded : Obligations.FrameDiscarded := by
  unfold Obligations.FrameDiscarded
  refine ⟨fun type tag pos payload s on started hunts h1 h250 => ?_, fun s bs stopped => ?_, fun s on started => ?_⟩
  · have arrives (check : Half) := doFrameReceived_frame (s := s) (type := type) (tag := tag) (pos := pos) on started
      hunts h1 h250 check
    have good := arrives (frameCheck type tag pos payload)
    rw [decide_eq_true rfl] at good
    have atHold (held : s.link.hold = true) (tagged : tag ≠ 0#8) :
        exec (.frameReceived (linkFrame type tag pos payload)) s = .next s.gapReset.holdDiscard := by
      have held : s.gapReset.link.hold = true := held
      rw [exec_frameReceived, linkFrame_eq, good, frameComplete_good tagged, held]
      rfl
    refine ⟨fun held tagged none_pending => ?_, fun held tagged pending => ?_, fun untagged => ?_,
      fun check other => ?_⟩
    · rw [atHold held tagged, State.holdDiscard, if_pos (show s.gapReset.restart = .none from none_pending),
        raisePart_eq]
      rfl
    · rw [atHold held tagged, State.holdDiscard, if_neg (show s.gapReset.restart ≠ .none from pending)]
      rfl
    · rw [exec_frameReceived, linkFrame_eq, good, frameComplete_dropped (.inl untagged)]
      rfl
    · have bad : halfBytes (frameCheck type tag pos payload) ≠ halfBytes check := fun e => other (halfBytes_inj e).symm
      have arrived := arrives check
      rw [decide_eq_false bad, frameComplete_dropped (.inr rfl)] at arrived
      exact congrArg Host.Outcome.next arrived
  · obtain ⟨received, gap⟩ := doFrame_stopped stopped bs
    rw [exec_frameReceived, exec_frameGapTimeout, received, gap]
    exact ⟨rfl, rfl⟩
  · have running := (running_iff s).2 ⟨on, started⟩
    refine ⟨fun bs none_complete => ?_, fun length out framer => ?_⟩
    · rw [exec_frameGapTimeout, doFrameGapTimeout_hunts running none_complete]
    · rw [exec_lengthByteOutOfRange, doLengthByteOutOfRange_hunts running out framer]

end Sys2Proof.Machine

namespace Sys2Proof.Machine

/-! ## What ACKNOWLEDGE and the key commands run -/

theorem exec_acknowledge (s : State) : exec .acknowledge s = .next s.doAcknowledge := rfl
theorem exec_keyInputChange (closed : Bool) (s : State) :
    exec (.keyInputChange closed) s = .next (s.doKeyInputChange closed) := rfl
theorem exec_keyDebounceExpiry (s : State) : exec .keyDebounceExpiry s = .next s.doKeyDebounceExpiry := rfl

/-! ## ACKNOWLEDGE by mask and value (R150, R152) -/

/-- Each flag after ACKNOWLEDGE: in a place of the mask, the value's. -/
theorem ackFlags_getLsbD {n : Nat} (flags mask value : BitVec n) (i : Fin n) :
    (ackFlags flags mask value).getLsbD i = if mask.getLsbD i then value.getLsbD i else flags.getLsbD i := by
  rw [ackFlags, BitVec.getLsbD_or, BitVec.getLsbD_and, BitVec.getLsbD_and, BitVec.getLsbD_not, decide_eq_true i.isLt]
  cases mask.getLsbD i <;> simp

/-- Some flag is raised when one that ACKNOWLEDGE sets was clear. -/
theorem ackRaised_ne_zero {n : Nat} (flags mask value : BitVec n) : ackRaised flags mask value ≠ 0#n ↔
    ∃ i : Fin n, mask.getLsbD i = true ∧ value.getLsbD i = true ∧ flags.getLsbD i = false := by
  have bit (i : Fin n) : (ackRaised flags mask value).getLsbD i = true ↔
      mask.getLsbD i = true ∧ value.getLsbD i = true ∧ flags.getLsbD i = false := by
    rw [ackRaised, BitVec.getLsbD_and, BitVec.getLsbD_and, BitVec.getLsbD_not, decide_eq_true i.isLt]
    simp [and_assoc]
  constructor
  · intro raised
    by_contra none_raised
    refine raised (BitVec.eq_of_getLsbD_eq fun i hi => ?_)
    rw [BitVec.getLsbD_zero, ← Bool.not_eq_true]
    exact fun set => none_raised ⟨⟨i, hi⟩, (bit ⟨i, hi⟩).1 set⟩
  · rintro ⟨i, hi⟩ zero
    have set := (bit i).2 hi
    rw [zero, BitVec.getLsbD_zero] at set
    cases set

/-- A mask or value of two bytes, read at a flag's place. -/
theorem setWidth_place {n : Nat} (x : Half) (i : Fin n) : (x.setWidth n).getLsbD i = x.getLsbD i := by
  rw [BitVec.getLsbD_setWidth, decide_eq_true i.isLt, Bool.true_and]

/-- The notice of a position, queued where a condition holds and R150 allows it. -/
theorem queueNotice_if (s : State) (p : Pos) (b : Prop) [Decidable b] :
    (if b then s.queueNotice p else s) =
      { s with link := { s.link with outbound := s.link.outbound ++
          if b ∧ (s.posSettings p).notify = true ∧ Message.positionNotice p ∉ s.link.outbound then [.positionNotice p]
          else [] } } := by
  by_cases hb : b
  · rw [if_pos hb, queueNotice_eq]
    simp only [hb, true_and]
  · simp [hb]

theorem queuePartNotice_if (s : State) (b : Prop) [Decidable b] :
    (if b then s.queuePartNotice else s) =
      { s with link := { s.link with outbound := s.link.outbound ++
          if b ∧ Message.partNotice ∉ s.link.outbound then [.partNotice] else [] } } := by
  by_cases hb : b
  · by_cases hm : Message.partNotice ∈ s.link.outbound <;> simp [hb, hm, State.queuePartNotice, State.send, State.modLink]
  · simp [hb]

section
variable {s : State} {r : Request} {mask value : Half}

theorem doAcknowledge_eq (hf : s.front .linkPort = some r) (hb : r.body = .acknowledge mask value) :
    s.doAcknowledge = (s.takeFront .linkPort).takeAcknowledge r mask value := by
  simp only [State.doAcknowledge, hf, hb]

theorem takeAcknowledge_position {p : Pos} (hp : posOf r.pos = some p) :
    s.takeAcknowledge r mask value =
      (s.acknowledge p (mask.setWidth 9) (value.setWidth 9)).answer r (.flags
        (((s.acknowledge p (mask.setWidth 9) (value.setWidth 9)).unit p).flags.setWidth 16)) := by
  simp only [State.takeAcknowledge, hp]

theorem takeAcknowledge_part (hp : posOf r.pos = none) :
    s.takeAcknowledge r mask value =
      (s.acknowledgePart (mask.setWidth 5) (value.setWidth 5)).answer r (.flags
        ((s.acknowledgePart (mask.setWidth 5) (value.setWidth 5)).link.flags.setWidth 16)) := by
  simp only [State.takeAcknowledge, hp]

end

theorem acknowledge_eq (s : State) (p : Pos) (mask value : BitVec 9) :
    s.acknowledge p mask value =
      { s with
        units := s.units.set p.val { s.unit p with flags := ackFlags (s.unit p).flags mask value } p.isLt
        link := { s.link with
          outbound := s.link.outbound ++
            if ackRaised (s.unit p).flags mask value ≠ 0#9 ∧ (s.posSettings p).notify = true ∧
                Message.positionNotice p ∉ s.link.outbound then [.positionNotice p] else [] } } :=
  queueNotice_if (s.modUnit p fun u => { u with flags := ackFlags (s.unit p).flags mask value }) p
    (ackRaised (s.unit p).flags mask value ≠ 0#9)

theorem acknowledgePart_eq (s : State) (mask value : BitVec 5) :
    s.acknowledgePart mask value =
      { s with link := { s.link with
        flags := ackFlags s.link.flags mask value
        outbound := s.link.outbound ++
          if ackRaised s.link.flags mask value ≠ 0#5 ∧ Message.partNotice ∉ s.link.outbound then [.partNotice] else [] } } :=
  queuePartNotice_if (s.modLink fun l => { l with flags := ackFlags s.link.flags mask value })
    (ackRaised s.link.flags mask value ≠ 0#5)

/-- Settles O14: the flag field of a position, or of the part, bit by bit. -/
theorem acknowledgeSetsFlags : Obligations.AcknowledgeSetsFlags := by
  unfold Obligations.AcknowledgeSetsFlags
  intro s r mask value hf hb
  refine ⟨fun p hp => ?_, fun hp => ?_⟩
  · have raised := ackRaised_ne_zero (s.unit p).flags (mask.setWidth 9) (value.setWidth 9)
    simp only [setWidth_place] at raised
    refine ⟨ackFlags (s.unit p).flags (mask.setWidth 9) (value.setWidth 9), fun i => ?_, ?_⟩
    · rw [ackFlags_getLsbD, setWidth_place, setWidth_place]
    · have flags : ((((s.takeFront .linkPort).acknowledge p (mask.setWidth 9) (value.setWidth 9)).unit p).flags) =
          ackFlags (s.unit p).flags (mask.setWidth 9) (value.setWidth 9) := by
        rw [acknowledge_eq]
        exact congrArg Position.flags (Vector.getElem_set_self _)
      rw [exec_acknowledge, doAcknowledge_eq hf hb, takeAcknowledge_position hp, flags, acknowledge_eq, answer_eq, hb]
      simp only [← raised, List.append_assoc]
      rfl
  · have raised := ackRaised_ne_zero s.link.flags (mask.setWidth 5) (value.setWidth 5)
    simp only [setWidth_place] at raised
    refine ⟨ackFlags s.link.flags (mask.setWidth 5) (value.setWidth 5), fun i => ?_, ?_⟩
    · rw [ackFlags_getLsbD, setWidth_place, setWidth_place]
    · rw [exec_acknowledge, doAcknowledge_eq hf hb, takeAcknowledge_part hp, acknowledgePart_eq, answer_eq, hb]
      simp only [← raised, List.append_assoc]
      rfl

/-! ## The key (R157, R161) -/

/-- The level that has held counts, and its debounce is over. -/
def Key.counted (k : Key) : Key := { k with input := k.closed, settled := true, debounce := none }

theorem doKeyInputChange_eq {s : State} {closed : Bool} (on : s.powered = true) (h : s.key.closed ≠ closed) :
    s.doKeyInputChange closed = { s with key := { s.key with
      closed := closed, debounce := if s.key.settled = false ∨ closed ≠ s.key.input then some 0 else none } } := by
  simp only [State.doKeyInputChange, if_neg h, on, true_and]

theorem doKeyDebounceExpiry_changed {s : State} {n : Nat} (h : s.key.debounce = some n) (settled : s.key.settled = true)
    (changed : s.key.closed ≠ s.key.input) :
    s.doKeyDebounceExpiry = ({ s with key := s.key.counted } : State).keyChanged := by
  simp [State.doKeyDebounceExpiry, h, settled, changed, Key.counted]

theorem doKeyDebounceExpiry_same {s : State} {n : Nat} (h : s.key.debounce = some n)
    (same : s.key.settled = false ∨ s.key.closed = s.key.input) :
    s.doKeyDebounceExpiry = { s with key := s.key.counted } := by
  rcases same with first | back
  · simp [State.doKeyDebounceExpiry, h, first, Key.counted]
  · simp [State.doKeyDebounceExpiry, h, back, Key.counted]

/-- Settles O23: the contact by the level counted, and the end of the debounce by whether it is a change. -/
theorem keyDebounced : Obligations.KeyDebounced := by
  unfold Obligations.KeyDebounced
  intro s
  refine ⟨fun closed on h => ?_, fun n hn => ⟨fun x settled changed starting => ?_,
    fun settled changed started => ?_, fun same => ?_⟩⟩
  · rw [exec_keyInputChange, doKeyInputChange_eq on h]
  · rw [exec_keyDebounceExpiry, doKeyDebounceExpiry_changed hn settled changed]
    simp only [State.keyChanged, starting]
    rfl
  · rw [exec_keyDebounceExpiry, doKeyDebounceExpiry_changed hn settled changed]
    simp only [State.keyChanged, started, raisePart_eq]
    rfl
  · rw [exec_keyDebounceExpiry, doKeyDebounceExpiry_same hn same]
    rfl

end Sys2Proof.Machine

namespace Sys2Proof.Machine

/-! ## The line tests begin (R163, R164) -/

theorem exec_selfTest (s : State) : exec .selfTest s = .next s.doSelfTest := rfl

/-- A position whose test draws a pattern that differs from the one to avoid. -/
def Position.drawn (pattern : Quad) (avoid : Option Quad) (u : Position) : Position :=
  { u with test := u.test.map fun t => { t with pattern := pattern, earlier := avoid } }

/-- The frame of the line's order counts as sent (R164, log 42). -/
def LineUnit.sent (l : LineUnit) : LineUnit := { l with order := l.order.map fun o => { o with ended := true } }

theorem beginTestFrame_loopback_eq (s : State) (p : Pos) (a : Attempt) (avoid : Option Quad) :
    s.beginTestFrame p .loopback a avoid =
      ({ (s.modUnit p (Position.drawn (freshPattern s.freeCount avoid) avoid)).beginOrder p .loopback 0 a .test with
        freeCount := s.freeCount + 1 } : State).modLine p LineUnit.sent := rfl

/-- A position that goes to TESTING (R163). -/
def Position.entersTest (u : Position) : Position :=
  { u with
    line := { u.line with state := .testing }
    test := some { wasOff := u.line.state = .off, pattern := 0#32, earlier := none } }

theorem enterTest_eq (s : State) (p : Pos) :
    s.enterTest p = (s.modUnit p Position.entersTest).beginTestFrame p .loopback .first none := rfl

/-- A position in TESTING, with its loopback in flight. -/
structure Position.Tested (u v : Position) : Prop where
  state : v.line.state = .testing
  test : ∃ x : PosTest, v.test = some x ∧ (x.wasOff = true ↔ u.line.state = .off)
  order : ∃ o : Order, v.line.order = some o ∧ o.kind = .loopback ∧ o.purpose = .test

section
variable (s : State) {p q : Pos}

theorem unit_freeCount (n : Nat) : ({ s with freeCount := n } : State).unit p = s.unit p := rfl

theorem beginTestFrame_loopback_unit (a : Attempt) (avoid : Option Quad) :
    (s.beginTestFrame p .loopback a avoid).unit p =
      { (s.unit p).drawn (freshPattern s.freeCount avoid) avoid with
        line := { s.line p with
          order := some { s.begunOrder p .loopback 0 a .test with ended := true }, rest := none } } := by
  have sent := unit_beginOrder (s.modUnit p (Position.drawn (freshPattern s.freeCount avoid) avoid)) p .loopback 0 a .test
  rw [State.line, unit_modUnit] at sent
  rw [beginTestFrame_loopback_eq, unit_modLine, State.line, unit_freeCount, sent]
  rfl

theorem beginTestFrame_loopback_unit_ne (h : q ≠ p) (a : Attempt) (avoid : Option Quad) :
    (s.beginTestFrame p .loopback a avoid).unit q = s.unit q := by
  rw [beginTestFrame_loopback_eq, unit_modLine_ne _ h, unit_freeCount, unit_beginOrder_ne _ h, unit_modUnit_ne _ h]

theorem enterTest_tested : ((s.unit p).Tested ((s.enterTest p).unit p)) := by
  rw [enterTest_eq, beginTestFrame_loopback_unit, State.line, unit_modUnit]
  exact ⟨rfl, ⟨_, rfl, decide_eq_true_iff⟩, ⟨_, rfl, rfl, rfl⟩⟩

theorem enterTest_unit_ne (h : q ≠ p) : (s.enterTest p).unit q = s.unit q := by
  rw [enterTest_eq, beginTestFrame_loopback_unit_ne _ h, unit_modUnit_ne _ h]

theorem enterTest_frame :
    s.enterTest p = { s with units := (s.enterTest p).units, freeCount := (s.enterTest p).freeCount } := rfl

end

/-! ## The tested set (R163) -/

/-- Some positions have gone to TESTING; of the rest of the part only the count of free values may differ. -/
structure TestsBegun (ps : List Pos) (s t : State) : Prop where
  frame : t = { s with units := t.units, freeCount := t.freeCount }
  tested : ∀ p ∈ ps, (s.unit p).Tested (t.unit p)
  others : ∀ p, p ∉ ps → t.unit p = s.unit p

theorem foldl_enterTest (ps : List Pos) : ∀ s : State, ps.Nodup → TestsBegun ps s (ps.foldl State.enterTest s) := by
  induction ps with
  | nil => exact fun s _ => ⟨rfl, nofun, fun _ _ => rfl⟩
  | cons p ps ih =>
    intro s distinct
    obtain ⟨fresh, distinct⟩ := List.nodup_cons.1 distinct
    obtain ⟨frame, tested, others⟩ := ih (s.enterTest p) distinct
    refine ⟨?_, fun q hq => ?_, fun q hq => ?_⟩
    · rw [List.foldl_cons, frame, enterTest_frame]
    · by_cases same : q = p
      · subst same
        rw [List.foldl_cons, others q fresh]
        exact enterTest_tested s
      · rw [← enterTest_unit_ne s same]
        exact tested q ((List.mem_cons.1 hq).resolve_left same)
    · have unlike : q ≠ p := fun same => hq (same ▸ List.mem_cons_self)
      rw [List.foldl_cons, others q fun mem => hq (List.mem_cons_of_mem _ mem), enterTest_unit_ne s unlike]

theorem joinsTest_iff (s : State) (mask : Quad) (p : Pos) : s.joinsTest mask p = true ↔
    mask.getLsbD p.val = true ∧ ((s.line p).state = .empty ∨ (s.line p).state = .off) := by
  simp [State.joinsTest]

/-- The run of a SELF TEST: no code yet for the positions of the tested set, SKIPPED for the others (R163, R165). -/
def State.testRun (s : State) (r : Request) (mask : Quad) : TestRun :=
  { mask := mask, codes := Vector.ofFn fun p : Pos => if s.joinsTest mask p then none else some 0x10#8
    storeGood := s.storeCheck, retainedGood := s.retained.check, tag := r.tag, pos := r.pos }

/-- The part with the tests of a run begun, before its reply is asked for. -/
def State.testsBegun (s : State) (r : Request) (mask : Quad) : State :=
  (positions.filter (s.joinsTest mask)).foldl State.enterTest { s with test := some (s.testRun r mask) }

section
variable {s : State} {r : Request} {mask : Quad}

theorem startTest_eq : s.startTest r mask = (s.testsBegun r mask).finishTest := rfl

theorem testRun_code (p : Pos) :
    (s.testRun r mask).codes[p.val]'p.isLt = if s.joinsTest mask p then none else some 0x10#8 := by
  simp [State.testRun]

theorem testsBegun_begun :
    TestsBegun (positions.filter (s.joinsTest mask)) { s with test := some (s.testRun r mask) } (s.testsBegun r mask) :=
  foldl_enterTest _ _ ((List.nodup_finRange 32).filter _)

theorem testsBegun_test : (s.testsBegun r mask).test = some (s.testRun r mask) := by
  rw [(testsBegun_begun (s := s) (r := r) (mask := mask)).frame]

/-- With a position to test, the reply waits for its code. -/
theorem startTest_waits {p : Pos} (h : s.joinsTest mask p = true) : s.startTest r mask = s.testsBegun r mask := by
  have uncoded : (s.testRun r mask).codes.toList.all Option.isSome = false := by
    rw [List.all_eq_false]
    refine ⟨_, Vector.mem_toList_iff.2 (Vector.getElem_mem p.isLt), ?_⟩
    rw [testRun_code, if_pos h]
    exact Bool.false_ne_true
  rw [startTest_eq, State.finishTest, testsBegun_test]
  exact if_neg (by rw [uncoded]; exact Bool.false_ne_true)

/-- With none to test, every position is coded SKIPPED and the reply is formed at once (R165). -/
theorem startTest_replies (h : ∀ p, s.joinsTest mask p = false) (none_runs : s.test = none) :
    s.startTest r mask = s.send (.reply 0x52#8 r.tag r.pos
      (.test (partCode (List.replicate 32 0x10#8) s.storeCheck s.retained.check) (List.replicate 32 0x10#8))) := by
  have nobody : positions.filter (s.joinsTest mask) = [] := List.filter_eq_nil_iff.2 fun p _ => by simp [h p]
  have codes : (s.testRun r mask).codes = Vector.replicate 32 (some 0x10#8) := by
    refine Vector.ext fun i hi => ?_
    rw [testRun_code ⟨i, hi⟩, h, Vector.getElem_replicate]
    rfl
  have begun : s.testsBegun r mask = { s with test := some (s.testRun r mask) } := by
    rw [State.testsBegun, nobody]
    rfl
  rw [startTest_eq, finishTest_eq testsBegun_test, begun, codes]
  have ended : (none : Option TestRun) = s.test := none_runs.symm
  have coded : (List.replicate 32 (some 0x10#8 : Option Byte)).all Option.isSome = true := rfl
  simp only [Vector.toList_replicate, List.map_replicate, State.send, State.modLink, coded, if_true]
  rw [ended]
  rfl

theorem doSelfTest_eq (hf : s.front .selfTest = some r) (hb : r.body = .selfTest mask) :
    s.doSelfTest =
      if s.save.isSome ∨ s.test.isSome then (s.takeFront .selfTest).answer r (.refusal .busy)
      else if s.restart ≠ .none then s.takeFront .selfTest
      else (s.takeFront .selfTest).startTest r mask := by
  simp only [State.doSelfTest, hf, hb]

/-- SELF TEST taken with no SAVE, no test and no RESTART (R163). -/
theorem doSelfTest_starts (hf : s.front .selfTest = some r) (hb : r.body = .selfTest mask) (saved : s.save = none)
    (idle : s.test = none) (restart : s.restart = .none) : s.doSelfTest = (s.takeFront .selfTest).startTest r mask := by
  rw [doSelfTest_eq hf hb, if_neg (by simp [saved, idle]), if_neg (by simp [restart])]

end

/-- The part code of a test in which no line failed (R165). -/
theorem partCode_skipped (storeGood retainedGood : Bool) :
    partCode (List.replicate 32 0x10#8) storeGood retainedGood =
      if storeGood = true ∧ retainedGood = true then 0x01#8
      else natByte ((if storeGood then 0 else 2) + (if retainedGood then 0 else 4)) := by
  cases storeGood <;> cases retainedGood <;> rfl

/-- Settles O39: by what else is under way, and by whether a position is to be tested. -/
theorem selfTestTaken : Obligations.SelfTestTaken := by
  unfold Obligations.SelfTestTaken
  intro s r mask hf hb joins
  have joined (p : Pos) : s.joinsTest mask p = true ↔ joins p := joinsTest_iff s mask p
  refine ⟨fun busy => ?_, fun saved idle restart nobody => ?_, fun saved idle restart ⟨p, hp⟩ => ?_⟩
  · rw [exec_selfTest, doSelfTest_eq hf hb, if_pos busy, answer_takeFront, hb]
    rfl
  · have free (p : Pos) : (s.takeFront .selfTest).joinsTest mask p = false :=
      Bool.eq_false_iff.2 fun h => nobody p ((joined p).1 h)
    rw [exec_selfTest, doSelfTest_starts hf hb saved idle restart, startTest_replies free idle, partCode_skipped]
    rfl
  · have waits : (s.takeFront .selfTest).startTest r mask = (s.takeFront .selfTest).testsBegun r mask :=
      startTest_waits ((joined p).2 hp)
    obtain ⟨frame, tested, others⟩ := testsBegun_begun (s := s.takeFront .selfTest) (r := r) (mask := mask)
    refine ⟨_, (s.takeFront .selfTest).testRun r mask, ?_, testsBegun_test, rfl, rfl, rfl, rfl, rfl, fun q hq => ?_,
      fun q hq => ?_, ?_, ?_, ?_, ?_⟩
    · rw [exec_selfTest, doSelfTest_starts hf hb saved idle restart, waits]
    · have joins : (s.takeFront .selfTest).joinsTest mask q = true := (joined q).2 hq
      obtain ⟨state, test, order⟩ := tested q (List.mem_filter.2 ⟨mem_positions q, joins⟩)
      exact ⟨by rw [testRun_code, if_pos joins], state, test, order⟩
    · have stays : ¬ (s.takeFront .selfTest).joinsTest mask q = true := fun h => hq ((joined q).1 h)
      exact ⟨by rw [testRun_code, if_neg stays], others q fun mem => stays (List.mem_filter.1 mem).2⟩
    all_goals
      rw [frame]
      rfl

end Sys2Proof.Machine

namespace Sys2Proof.Machine

/-! ## Sending (R139, R140, R145) -/

theorem exec_messageTransmitStart (s : State) : exec .messageTransmitStart s = .next s.doMessageTransmitStart := rfl
theorem exec_messageSent (s : State) : exec .messageSent s = .next s.doMessageSent := rfl

theorem doMessageTransmitStart_eq {s : State} {m : Message} {rest : List Message} (idle : s.link.transmitting = none)
    (front : s.link.outbound = m :: rest) :
    s.doMessageTransmitStart = s.modLink fun l =>
      { l with outbound := rest, transmitting := some { frame := s.messageFrame m, isReply := m.isReply } } := by
  simp only [State.doMessageTransmitStart, idle, front]

theorem doMessageSent_eq {s : State} {x : Transmission} (h : s.link.transmitting = some x) :
    s.doMessageSent =
      let n := if x.isReply then s.link.outstanding - 1 else s.link.outstanding
      s.modLink fun l => { l with transmitting := none, outstanding := n, hold := s.holdAfter n } := by
  simp only [State.doMessageSent, h]

theorem holdAfter_eq (s : State) (n : Nat) :
    s.holdAfter n = decide (16 ≤ n ∨ s.restart ≠ .none ∨ s.starting.isSome = true) :=
  Bool.eq_iff_iff.2 ((holdAfter_iff s n).trans decide_eq_true_iff.symm)

/-! ## Layouts, field by field (R168, R169) -/

/-- A management frame, its length and its check as fields. -/
theorem linkFrame_fields (type tag pos : Byte) (payload : List Byte) :
    linkFrame type tag pos payload =
      0x01#8 :: (fieldBytes 1 (payload.length + 3) ++ [type, tag, pos] ++ payload) ++
        fieldBytes 2 (crc (fieldBytes 1 (payload.length + 3) ++ [type, tag, pos] ++ payload)).toNat := by
  rw [fieldBytes_half, fieldBytes_one]
  rfl

theorem natByte_toNat {n : Nat} (x : BitVec n) : natByte x.toNat = x.setWidth 8 := BitVec.ofNat_toNat 8 x

theorem fieldBytes_wide {n : Nat} (x : BitVec n) : fieldBytes 2 x.toNat = halfBytes (x.setWidth 16) := by
  rw [fieldBytes_two, natHalf, BitVec.ofNat_toNat]

theorem natByte_bool (b : Bool) : natByte (if b then 1 else 0) = boolByte b := by
  cases b <;> rfl

theorem identityBytes_fields (i : Identity) :
    fieldBytes 2 i.series.toNat ++ fieldBytes 4 i.serial.toNat = identityBytes i := by
  rw [fieldBytes_half, fieldBytes_quad]
  rfl

theorem digitsBytes_fields (d : Digits) :
    ([d.d0, d.d1, d.d2, d.d3].flatMap fun x => fieldBytes 1 x.val) = digitsBytes d := by
  simp only [fieldBytes_one]
  rfl

theorem locationBytes_fields (l : Option Location) :
    (l.map fun x => fieldBytes 1 x.stage.val ++ fieldBytes 1 x.cell.val).getD [0#8, 0#8] = locationBytes l := by
  simp only [fieldBytes_one]
  cases l <;> rfl

theorem seriesBytes_fields (e : Option SeriesFields) :
    (e.map fun f => fieldBytes 2 f.code.toNat ++ [f.weight] ++ fieldBytes 2 f.maxIssued.toNat ++ [f.retries] ++
      fieldBytes 1 (if f.accepting then 1 else 0)).getD (List.replicate 7 0#8) = seriesBytes e := by
  simp only [fieldBytes_half, fieldBytes_one, natByte_bool]
  cases e <;> rfl

theorem rangeBytes_fields (r : Range) :
    fieldBytes 2 r.series.toNat ++ fieldBytes 4 r.first.toNat ++ fieldBytes 4 r.last.toNat = rangeBytes r := by
  rw [fieldBytes_half, fieldBytes_quad, fieldBytes_quad]
  rfl

theorem tallyBytes_fields (t : Tally) : digitsBytes t.digits ++ fieldBytes 1 t.latch.val = tallyBytes t := by
  rw [fieldBytes_one]
  rfl

theorem callFigureBytes_fields (c : Option CallFigures) :
    (c.map fun f => [f.state.code] ++ fieldBytes 2 f.callId ++ fieldBytes 1 f.credit ++ fieldBytes 2 f.burned ++
      fieldBytes 1 f.queued ++ fieldBytes 4 f.value).getD (List.replicate 11 0#8) = callFigureBytes c := by
  simp only [fieldBytes_one, fieldBytes_two, fieldBytes_four]
  cases c <;> rfl

/-! ### Lengths of the optional fields: the same, present or not -/

theorem identityBytes_length (i : Identity) : (identityBytes i).length = 6 := rfl

theorem optional_length {α : Type} {f : α → List Byte} {n : Nat} (h : ∀ a, (f a).length = n) (x : Option α) :
    ((x.map f).getD (zeros n)).length = n := by
  cases x with
  | none => exact List.length_replicate
  | some a => exact h a

theorem locationBytes_length (l : Option Location) : (locationBytes l).length = 2 := by cases l <;> rfl

theorem callFigureBytes_length (c : Option CallFigures) : (callFigureBytes c).length = 11 := by cases c <;> rfl

theorem snapshotBytes_length (x : Snapshot) : x.bytes.length = 35 := by
  have id := optional_length identityBytes_length x.id
  have tally := optional_length (f := tallyBytes) (n := 5) (fun _ => rfl) x.tally
  have balance := optional_length (f := halfBytes) (n := 2) (fun _ => rfl) x.balance
  simp only [Snapshot.bytes, List.length_append, id, tally, balance, locationBytes_length, callFigureBytes_length]
  rfl

theorem callRecordBytes_length (r : CallRecord) : r.bytes.length = 30 := by
  simp only [CallRecord.bytes, List.length_append, locationBytes_length]
  rfl

theorem resolutionRecordBytes_length (r : ResolutionRecord) : r.bytes.length = 30 := rfl

theorem doubtEntryBytes_length (e : DoubtEntry) : (doubtEntryBytes e).length = 19 := by
  unfold doubtEntryBytes
  split <;> rfl

theorem chargeReplyBytes_length (c : ChargeReply) : c.bytes.length = 10 := by
  simp only [ChargeReply.bytes, List.length_append, locationBytes_length]
  rfl

/-! ### Records, snapshots and doubt entries -/

theorem figuresBytes_fields (f : Figures) :
    f.bytes = [f.part.code, f.mode.code] ++ fieldBytes 1 (if f.key then 1 else 0) ++ fieldBytes 1 f.callsOpen ++
      fieldBytes 1 f.stored ++ fieldBytes 1 f.reserved ++ fieldBytes 1 f.pendingDoubts ++ fieldBytes 1 f.resolvedDoubts ++
      fieldBytes 2 f.ranges ++ fieldBytes 1 f.loadedSeries ++ fieldBytes 1 f.outstanding ++ fieldBytes 1 f.flags.toNat := by
  simp only [fieldBytes_one, fieldBytes_two, natByte_bool, natByte_toNat]
  simp [Figures.bytes]

theorem doubtEntryBytes_fields (e : DoubtEntry) :
    doubtEntryBytes e = fieldBytes 2 e.creation ++ identityBytes e.id ++ fieldBytes 1 e.position.val ++
      fieldBytes 2 e.callId ++ fieldBytes 1 e.stage.val ++ digitsBytes e.before ++
      (e.resolved.map fun x => [1#8, x.1.code] ++ fieldBytes 1 x.2.val).getD (List.replicate 3 0#8) := by
  simp only [fieldBytes_one, fieldBytes_two]
  unfold doubtEntryBytes
  cases e.resolved <;> rfl

theorem callRecordBytes_fields (r : CallRecord) :
    r.bytes = [1#8] ++ fieldBytes 2 r.seq ++ fieldBytes 1 r.position.val ++ fieldBytes 2 r.callId ++
      identityBytes r.id ++ fieldBytes 2 r.balanceAtOpen ++ fieldBytes 2 r.burned ++ fieldBytes 4 r.covered ++
      fieldBytes 4 r.uncovered ++ fieldBytes 1 r.forfeited ++ [r.cause.code, r.mark.code] ++
      fieldBytes 1 (if r.failing.isSome then 1 else 0) ++ locationBytes r.failing := by
  simp only [fieldBytes_one, fieldBytes_two, fieldBytes_four, natByte_bool]
  simp [CallRecord.bytes]

theorem resolutionRecordBytes_fields (r : ResolutionRecord) :
    r.bytes = [2#8] ++ fieldBytes 2 r.seq ++ identityBytes r.id ++ fieldBytes 2 r.callId ++ fieldBytes 1 r.stage.val ++
      [r.outcome.code] ++ fieldBytes 1 r.position.val ++ List.replicate 16 0#8 := by
  simp only [fieldBytes_one, fieldBytes_two]
  rfl

theorem chargeReplyBytes_fields (c : ChargeReply) :
    c.bytes = [c.outcome.code] ++ fieldBytes 1 c.covered ++ fieldBytes 1 c.uncovered ++ fieldBytes 1 c.steps ++
      fieldBytes 2 c.balance ++ fieldBytes 1 c.credit ++ fieldBytes 1 (if c.failing.isSome then 1 else 0) ++
      locationBytes c.failing := by
  simp only [fieldBytes_one, fieldBytes_two, natByte_bool]
  simp [ChargeReply.bytes]

theorem snapshotBytes_fields (x : Snapshot) :
    x.bytes = fieldBytes 1 x.position.val ++ [x.state.code, x.contact.code] ++
      fieldBytes 1 ((if x.present then 1 else 0) + (if x.settings.inService then 2 else 0) +
        (if x.settings.notify then 4 else 0) + (if decide (x.settings.lineClass = .long) then 8 else 0) +
        (if x.checkLatch then 16 else 0)) ++
      fieldBytes 2 x.flags.toNat ++
      fieldBytes 1 ((if x.cause.isSome then 1 else 0) + (if x.id.isSome then 2 else 0) + (if x.tally.isSome then 4 else 0) +
        (if x.balance.isSome then 8 else 0) + (if x.call.isSome then 16 else 0) + (if x.steps.isSome then 32 else 0) +
        (if x.failing.isSome then 64 else 0)) ++
      [(x.cause.map (·.code)).getD 0#8] ++ (x.id.map identityBytes).getD (List.replicate 6 0#8) ++
      (x.tally.map tallyBytes).getD (List.replicate 5 0#8) ++
      (x.balance.map fun b => fieldBytes 2 b.toNat).getD (List.replicate 2 0#8) ++ callFigureBytes x.call ++
      fieldBytes 1 (x.steps.getD 0) ++ locationBytes x.failing := by
  simp only [fieldBytes_wide, fieldBytes_one, decide_eq_true_eq]
  simp [Snapshot.bytes, Snapshot.lineByte, Snapshot.presenceByte, zeros]

/-- The check value of the algorithm: that of the digits 1 to 9 (R168). -/
theorem crc_check : crc [0x31#8, 0x32#8, 0x33#8, 0x34#8, 0x35#8, 0x36#8, 0x37#8, 0x38#8, 0x39#8] = 0x29B1#16 := by
  decide +kernel

/-- Settles O12: the link port's sending, then the codes, then each layout by its fields. -/
theorem messageTransmitted : Obligations.MessageTransmitted := by
  unfold Obligations.MessageTransmitted
  refine ⟨fun s => ⟨fun m rest idle front => ?_, fun x sending => ?_⟩, fun s type tag pos body p => ?_, ?_⟩
  · rw [exec_messageTransmitStart, doMessageTransmitStart_eq idle front]
    rfl
  · rw [exec_messageSent, doMessageSent_eq sending]
    simp only [holdAfter_eq]
    rfl
  · exact ⟨linkFrame_fields _ _ _ _, linkFrame_fields _ _ _ _, linkFrame_fields _ _ _ _⟩
  refine ⟨crc_check, rfl, rfl, rfl, rfl, rfl, rfl, rfl, rfl, rfl, rfl, rfl, rfl, ?_⟩
  intro bit identity digits location blank entry range
  have identities : identity = identityBytes := funext identityBytes_fields
  have digit : digits = digitsBytes := funext digitsBytes_fields
  have locations : location = locationBytes := funext locationBytes_fields
  have entries : entry = seriesBytes := funext seriesBytes_fields
  have ranges : range = rangeBytes := funext rangeBytes_fields
  rw [identities, digit, locations, entries, ranges]
  refine ⟨figuresBytes_fields, fun x => ⟨?_, snapshotBytes_length x⟩,
    fun r => ⟨callRecordBytes_fields r, callRecordBytes_length r⟩,
    fun r => ⟨resolutionRecordBytes_fields r, resolutionRecordBytes_length r⟩,
    fun e => ⟨doubtEntryBytes_fields e, doubtEntryBytes_length e⟩, fun _ => rfl, rfl, fun _ => rfl, fun _ => rfl,
    fun f => ?_, fun i e => ?_, fun n => ?_, fun n rs => ?_, fun i b w v => ?_, fun c => ?_, fun _ => rfl, fun n rs => ?_,
    fun m n es => ?_, fun _ => rfl, fun i r => ?_, fun _ _ => rfl⟩
  · rw [snapshotBytes_fields, ← funext tallyBytes_fields, ← callFigureBytes_fields]
  · rw [fieldBytes_half]
    rfl
  · simp only [bit, fieldBytes_one, natByte_bool]
    rfl
  · rw [fieldBytes_two]
    rfl
  · rw [fieldBytes_one, fieldBytes_two]
    rfl
  · rw [fieldBytes_one, fieldBytes_two, fieldBytes_two, fieldBytes_four]
    simp [ReplyBody.bytes, ResultCode.code]
  · exact ⟨chargeReplyBytes_fields c, chargeReplyBytes_length c⟩
  · rw [fieldBytes_one, fieldBytes_one]
    refine congrArg ([0#8, natByte rs.length, natByte n] ++ ·) (List.flatMap_congr fun x _ => ?_)
    cases x <;> rfl
  · rw [fieldBytes_one, fieldBytes_one, fieldBytes_one]
    rfl
  · rw [fieldBytes_one]
    rfl
end Sys2Proof.Machine
